-- ==== Sys2Proof/Word.lean ====
section
/-! DEFINITION. The word types of the part (R189 to R196, Conventions of 00_scope.md): a byte, a 32-bit word and a
Filing Clock value. Everything else the manual counts is a `Nat`. -/

namespace Sys2Proof

/-- One byte of the board bus or of a memory bank. -/
abbrev Byte := BitVec 8

/-- One 32-bit word (00_scope.md, Conventions: a word is 32 bits). -/
abbrev Word := BitVec 32

/-- A Filing Clock value: 32 bits, wrapping (R139). -/
abbrev Time := BitVec 32

end Sys2Proof
end

