-- ==== Sys2Proof/Config.lean ====
section
/-! DEFINITION. What is fixed for every Izotra 2416: the sizes of its tables, the places of its areas (Table 37), its
default settings. The one value here that the manual does not give is `unlistedByte` (log entry 2). -/

namespace Sys2Proof.Config

/-- Bytes of one page bank block (R18). -/
def blockBytes : Nat := 8192
/-- Blocks per MiB of page bank (R18). -/
def blocksPerMiB : Nat := 128
/-- Bytes of one MiB. -/
def mib : Nat := 1048576
/-- Blocks 0 to 127 are RESERVED for the control window (R18). -/
def reservedBlocks : Nat := 128
/-- Logical indices of one page: 0 to 127 (R18). -/
def pageIndices : Nat := 128
/-- Bytes of an aperture's data area; the greatest page length (R4, R46). -/
def dataAreaBytes : Nat := 1048448
/-- Lines of one block, 32 bytes each (R30). -/
def linesPerBlock : Nat := 256
/-- Entries of the Write Staging Queue (R9). -/
def queueDepth : Nat := 16
/-- The greatest starvation count (R16). -/
def starveLimit : Nat := 16
/-- Document slots (R80). -/
def docSlots : Nat := 1024
/-- Page records (R85). -/
def pageRecords : Nat := 8192
/-- The greatest page count of a document (R80, R88). -/
def maxPages : Nat := 999
/-- Channels 1 to 24 (R35). -/
def channelCount : Nat := 24
/-- Mailboxes 0 to 63 (R62). -/
def mailboxCount : Nat := 64
/-- Routing entries 0 to 127 (R70). -/
def routeCount : Nat := 128
/-- Posting slots 0 to 31 (R148). -/
def slotCount : Nat := 32
/-- Review apertures 0 to 7 (R130). -/
def apertureCount : Nat := 8
/-- Notices the pending notice set holds at most (R157). -/
def pendingLimit : Nat := 256
/-- The greatest lost notice count (R157). -/
def lostLimit : Nat := 65535
/-- Ticks between clock saves (R147). -/
def saveInterval : Nat := 6000
/-- Ticks of one hour (00_scope.md, Conventions). -/
def ticksPerHour : Nat := 360000
/-- The longest retention in hours (R62, R96). -/
def maxRetention : Nat := 4320
/-- The attempts at which a recipient becomes FAILED (R121). -/
def maxAttempts : Nat := 5
/-- The longest backoff in seconds (R122). -/
def maxBackoff : Nat := 14400
/-- The layout header's signature (Table 38). -/
def signature : Word := 0x24160001#32

/-- Table 37: the layout header. -/
def headerBase : Nat := 0x0
/-- Table 37: the status record. -/
def statusBase : Nat := 0x40
/-- Table 37: the consumer word. -/
def consumerBase : Nat := 0xC0
/-- Table 37: posting slots. -/
def slotBase : Nat := 0x1000
/-- Table 37: the result ring. -/
def ringBase : Nat := 0x2000
/-- Table 37: channel records. -/
def channelBase : Nat := 0x4000
/-- Table 37: mailbox records. -/
def mailboxBase : Nat := 0x6000
/-- Table 37: routing records. -/
def routeBase : Nat := 0x7000
/-- Table 37: the policy record. -/
def policyBase : Nat := 0x7800
/-- Table 37: document records. -/
def docBase : Nat := 0x8000
/-- Table 37: page entries. -/
def pageBase : Nat := 0x48000
/-- Table 37: page close times. -/
def pageTimeBase : Nat := 0x68000
/-- Table 37: block table entries. -/
def blockBase : Nat := 0xC0000

/-- What a byte of either bank reads as when nothing has written it since its contents were last unknown.
DESIGN CHOICE (log entry 2), unsafe: the manual gives no contents of a bank before its first write. -/
def unlistedByte : Byte := 0#8

/-- Default stall time in half-seconds, gap and confirm times in seconds (R37). -/
def defaultStall : Nat := 20
/-- See `defaultStall`. -/
def defaultGap : Nat := 60
/-- See `defaultStall`. -/
def defaultConfirm : Nat := 30
/-- Reserve floor after a fresh format (R178). -/
def defaultFloor : Nat := 256
/-- Retry base in seconds after a fresh format (R178). -/
def defaultRetryBase : Nat := 120

end Sys2Proof.Config
end

