-- ==== Sys2Proof/Syntax.lean ====
section
/-! DEFINITION. The commands of the part: one constructor of `Instr` per row of spec/opcode_table.json, in the table's
order. The Izotra 2416 is a block, not a processor: a command is one of the part's indivisible steps
(95_what_each_step_holds.md), given with what the outside brings to it: a board transaction, a strap, a store bus data
error, a channel number. A drain takes its operands from the head of the Write Staging Queue and a grant from the unit
of work that waits, so these rows carry no operand of their own. -/

namespace Sys2Proof

/-- The width of a board transaction: 1, 2 or 4 bytes (01_the_board_path.md, Board transactions). -/
inductive Width where
  | byte
  | half
  | full
  deriving DecidableEq, Repr

/-- The mirrored records of Table 32, by their number in their area. -/
inductive RecordId where
  | layoutHeader
  | status
  | channel (c : Nat)
  | mailbox (m : Nat)
  | route (e : Nat)
  | policy
  | document (slot : Nat)
  | page (p : Nat)
  | block (n : Nat)
  deriving DecidableEq, Repr

/-- The part's commands: spec/opcode_table.json row by row. -/
inductive Instr where
  /-- POWER_ON: the four straps, and the page bank that is fitted: its bytes in MiB, and the MiB at which its
  addresses wrap (0: they do not). -/
  | powerOn (zone : BitVec 4) (gtop : BitVec 6) (chans : BitVec 5) (clksel : BitVec 2) (bankMiB wrapMiB : Nat)
  /-- SIZING_PROBE: whether the store bus reported a data error on one of the probe's three reads. -/
  | sizingProbe (dataError : Bool)
  /-- LAYOUT_HEADER_CHECK: whether the store bus reported a data error on the header's read. -/
  | layoutHeaderCheck (dataError : Bool)
  /-- FRESH_FORMAT. -/
  | freshFormat
  /-- RECOVERY_WALK: the records whose reads the store bus reported a data error on. -/
  | recoveryWalk (dataErrors : List RecordId)
  /-- REBUILD. -/
  | rebuild
  /-- READY. -/
  | ready
  /-- PWARN_ASSERT. -/
  | pwarnAssert
  /-- CLEAN_HEADER_WRITE. -/
  | cleanHeaderWrite
  /-- PWARN_WITHDRAW. -/
  | pwarnWithdraw
  /-- BRESET. -/
  | breset
  /-- CONSUMER_WORD_RESET. -/
  | consumerWordReset
  /-- WRITE_ACCEPT: master, board address, width and data of a board write. -/
  | writeAccept (master : BitVec 5) (addr : Word) (width : Width) (data : Word)
  /-- HELD_WRITE_ACCEPT. -/
  | heldWriteAccept
  /-- WRITE_DRAIN. -/
  | writeDrain
  /-- REFUSED_WRITE. -/
  | refusedWrite
  /-- POSTING_WORD_CAPTURE. -/
  | postingWordCapture
  /-- UNKNOWN. -/
  | unknown
  /-- CONSUMER_WORD. -/
  | consumerWord
  /-- HEADER_WORD. -/
  | headerWord
  /-- OPEN. -/
  | openCall
  /-- END. -/
  | endCall
  /-- OTHER_CALL_KIND. -/
  | otherCallKind
  /-- DATA_WRITE. -/
  | dataWrite
  /-- TRAILER_WORD. -/
  | trailerWord
  /-- OK. -/
  | confirmOk
  /-- RESEND. -/
  | confirmResend
  /-- ABANDON. -/
  | confirmAbandon
  /-- BOARD_READ: master, board address and width of a board read. -/
  | boardRead (master : BitVec 5) (addr : Word) (width : Width)
  /-- UNBACKED_READ. -/
  | unbackedRead (master : BitVec 5) (addr : Word) (width : Width)
  /-- REFUSED_READ. -/
  | refusedRead (master : BitVec 5) (addr : Word) (width : Width)
  /-- MIRROR_READ. -/
  | mirrorRead (master : BitVec 5) (addr : Word) (width : Width)
  /-- FAULT_WORD_READ. -/
  | faultWordRead (master : BitVec 5) (addr : Word) (width : Width)
  /-- FORWARD_DATA_READ. -/
  | forwardDataRead (master : BitVec 5) (addr : Word) (width : Width)
  /-- FORWARD_SLOT_READ. -/
  | forwardSlotRead (master : BitVec 5) (addr : Word) (width : Width)
  /-- REVIEW_DATA_READ. -/
  | reviewDataRead (master : BitVec 5) (addr : Word) (width : Width)
  /-- BOARD_READ_GRANT: `some d` when the store bus reports a data error and returns `d`. -/
  | boardReadGrant (dataError : Option Word)
  /-- WRITE_AHEAD_WRITE. -/
  | writeAheadWrite
  /-- HEAD_STORE_WRITE. -/
  | headStoreWrite
  /-- RESULT_ENTRY_WRITE. -/
  | resultEntryWrite
  /-- RECORD_FLUSH. -/
  | recordFlush
  /-- SCRUB_BEGIN. -/
  | scrubBegin
  /-- SCRUB_LINE. -/
  | scrubLine
  /-- TICK. -/
  | tick
  /-- STALL_EXPIRY: the channel. -/
  | stallExpiry (c : Nat)
  /-- GAP_EXPIRY: the channel. -/
  | gapExpiry (c : Nat)
  /-- CONFIRM_TIMEOUT: the channel. -/
  | confirmTimeout (c : Nat)
  /-- RETAIN_DEADLINE. -/
  | retainDeadline
  /-- RETRY_DEADLINE. -/
  | retryDeadline
  /-- CLOCK_SAVE. -/
  | clockSave
  /-- GUARD_EXPIRY. -/
  | guardExpiry
  /-- SET_MAILBOX. -/
  | setMailbox
  /-- SET_ROUTE. -/
  | setRoute
  /-- CLEAR_ROUTE. -/
  | clearRoute
  /-- SET_POLICY. -/
  | setPolicy
  /-- SET_CHANNEL_TIMES. -/
  | setChannelTimes
  /-- ABORT_INTAKE. -/
  | abortIntake
  /-- ACCEPT. -/
  | accept
  /-- HOLD. -/
  | hold
  /-- LIFT_HOLD. -/
  | liftHold
  /-- RETAIN. -/
  | retain
  /-- RELEASE. -/
  | release
  /-- PURGE. -/
  | purge
  /-- REFILE. -/
  | refile
  /-- ADD_RECIPIENT. -/
  | addRecipient
  /-- CANCEL_RECIPIENT. -/
  | cancelRecipient
  /-- TAKE_FORWARD. -/
  | takeForward
  /-- DROP_FORWARD. -/
  | dropForward
  /-- BIND_REVIEW. -/
  | bindReview
  /-- UNBIND_REVIEW. -/
  | unbindReview
  /-- SET_CLOCK. -/
  | setClock
  /-- WRITE_QUEUE_FULL: master, board address, width and data of a board write. -/
  | writeQueueFull (master : BitVec 5) (addr : Word) (width : Width) (data : Word)
  /-- MALFORMED. -/
  | malformed
  /-- BUSY. -/
  | busy
  /-- NARROW_POST_WORD. -/
  | narrowPostWord
  /-- CONFIRM_WORD_OUT_OF_PLACE. -/
  | confirmWordOutOfPlace
  /-- POWER_LOSS: which words of a record flush that the loss cuts short had been written (bit i: word i). -/
  | powerLoss (written : Nat)
  /-- BRESET_WITHDRAW. -/
  | bresetWithdraw
  deriving DecidableEq, Repr

end Sys2Proof
end

