-- ==== Sys2Proof/WellFormed.lean ====
section
/-! DEFINITION. Which commands can reach the part at all. A board transaction is aligned to its width
(01_the_board_path.md, Board transactions), a channel is 1 to 24 (R35), and the fitted page bank has at least the one
MiB in which the control window lies (R180). Every other operand is bounded by its type. -/

namespace Sys2Proof

/-- The bytes of a transaction. -/
def Width.bytes : Width → Nat
  | .byte => 1
  | .half => 2
  | .full => 4

/-- A transaction's address is aligned to its width. -/
def aligned (addr : Word) (width : Width) : Bool := addr.toNat % width.bytes == 0

/-- The commands that the outside can bring to the part. -/
def Instr.wellFormed : Instr → Bool
  | .powerOn _ _ _ _ bankMiB _ => decide (1 ≤ bankMiB)
  | .writeAccept _ a w _ => aligned a w
  | .writeQueueFull _ a w _ => aligned a w
  | .boardRead _ a w => aligned a w
  | .unbackedRead _ a w => aligned a w
  | .refusedRead _ a w => aligned a w
  | .mirrorRead _ a w => aligned a w
  | .faultWordRead _ a w => aligned a w
  | .forwardDataRead _ a w => aligned a w
  | .forwardSlotRead _ a w => aligned a w
  | .reviewDataRead _ a w => aligned a w
  | .stallExpiry c => decide (1 ≤ c) && decide (c ≤ Config.channelCount)
  | .gapExpiry c => decide (1 ≤ c) && decide (c ≤ Config.channelCount)
  | .confirmTimeout c => decide (1 ≤ c) && decide (c ≤ Config.channelCount)
  | _ => true

end Sys2Proof
end

