-- ==== Sys2Proof/Machine/State.lean ====
section
/-! DEFINITION. State as plain data: every register, table, queue, counter, mode and pin the manual gives the Izotra 2416,
the two memory banks on its store bus, and the queue of commands that wait. `State.reset` is the part before power
reaches it: every on-chip field at the value the manual gives for power-on (R19, R35, R103, R130, R139, R160, R167, R178).
The fields are grouped by the block that owns them (Table 1): `Board` (Board Port, Zone Decoder, Write Staging Queue,
Store Arbiter), `Store` (the two banks), `Filing` (all the filing blocks). A filing operation maps `Filing` to `Filing`,
so by its type it leaves the board path and both banks alone. -/

namespace Sys2Proof.Machine

/-- A table kept as (number, record) pairs with rising numbers; a number without a pair holds the table's power-on
record. -/
abbrev Tbl (α : Type) := List (Nat × α)

/-- A bank's bytes: (address, byte) pairs, addresses strictly rising, no byte equal to `Config.unlistedByte`. -/
abbrev Memory := List Host.Cell

/-! ## Board path (R1 to R17) -/

/-- The four straps as read at step 01h (R2). -/
structure Straps where
  /-- ZONE: the zone base is this multiple of 64 MiB. -/
  zone : Nat
  /-- GTOP: the general bank's top is this multiple of 16 MiB. -/
  gtop : Nat
  /-- The channel count C: CHANS, values above 24 read as 24. -/
  channels : Nat
  /-- CLKSEL (R138). -/
  clksel : Nat
  deriving DecidableEq, Repr

/-- The class of a board address with its target or its index and offset (R3, R4). -/
inductive AddrClass where
  | plain (general : Nat)
  | relocated (general : Nat)
  | unbacked
  | zoneUnbacked
  | control (z : Nat)
  | landing (c o : Nat)
  | forward (c o : Nat)
  | review (r o : Nat)
  deriving DecidableEq, Repr

/-- A write as a master offers it on the board bus. -/
structure BoardWrite where
  master : BitVec 5
  addr : Word
  width : Width
  data : Word
  deriving DecidableEq, Repr

/-- An entry of the Write Staging Queue: the write and its class as the Zone Decoder found it (R9). -/
structure Staged where
  write : BoardWrite
  cls : AddrClass
  deriving DecidableEq, Repr

/-- What a read in READ_HELD still waits for (R12, R13, R163). -/
inductive ReadPhase where
  /-- Staged writes that hold it. -/
  | writes
  /-- The flush of this record. -/
  | flush (r : RecordId)
  /-- The store bus, as kind 1. -/
  | store
  deriving DecidableEq, Repr

/-- A read in service that the port holds, with a fault word read's set: the latches, and whether the capture was full,
when it was taken (R175). -/
structure HeldRead where
  master : BitVec 5
  addr : Word
  width : Width
  cls : AddrClass
  phase : ReadPhase
  noted : Option (BitVec 10 × Bool)
  deriving DecidableEq, Repr

/-- The Board Port (R1). -/
inductive Port where
  | idle
  | writeHeld (w : BoardWrite)
  | readHeld (r : HeldRead)
  deriving DecidableEq, Repr

/-- A store destination (R11). -/
inductive Dest where
  | general (a : Nat)
  | page (a : Nat)
  deriving DecidableEq, Repr

/-- The head of the queue once it has drained with a store destination: where it goes, and the block whose write-ahead
entry it still waits for (R10, R23). -/
structure HeadWork where
  dest : Dest
  ahead : Option Nat
  deriving DecidableEq, Repr

/-- The data of the read last served on the board bus. -/
structure Reply where
  master : BitVec 5
  addr : Word
  width : Width
  data : Word
  deriving DecidableEq, Repr

/-- Board Port, Zone Decoder, Write Staging Queue, Store Arbiter, and the PWARN and BRESET inputs. -/
structure Board where
  straps : Straps
  port : Port
  /-- The Write Staging Queue, head first (R9). -/
  queue : List Staged
  /-- The drained head's work, none while the head has not drained (R10). -/
  head : Option HeadWork
  /-- The starvation count (R16). -/
  starve : Nat
  pwarn : Bool
  breset : Bool
  /-- The model's own view of the board bus: the last read served. -/
  reply : Option Reply
  deriving DecidableEq, Repr

/-! ## The banks -/

/-- The two banks of the store bus, and how the page bank is fitted (R18, R180). -/
structure Store where
  general : Memory
  page : Memory
  /-- MiB of page bank that are fitted. -/
  bankMiB : Nat
  /-- The MiB at which its addresses wrap; 0 where they do not. -/
  wrapMiB : Nat
  deriving DecidableEq, Repr

/-! ## Start-up Controller (R179 to R186) -/

/-- Where the Start-up Controller stands. -/
inductive Phase where
  /-- No power. -/
  | off
  /-- Halted E1h: ZONE 0 or CLKSEL 3. -/
  | haltStraps
  /-- Step 02h. -/
  | sizing
  /-- Halted E2h. -/
  | haltShort
  /-- Halted E3h. -/
  | haltWrapped
  /-- Step 03h, the header not yet read. -/
  | headerCheck
  /-- Step 03h, the header found invalid. -/
  | formatting
  /-- Step 03h, the fresh format written. -/
  | formatted
  /-- Step 04h. -/
  | walking
  /-- Step 05h. -/
  | rebuilding
  /-- Step 05h done. -/
  | rebuilt
  /-- READY reached. -/
  | running
  deriving DecidableEq, Repr

/-- The Start-up Controller's working state. -/
structure Boot where
  phase : Phase
  /-- The boundary of the next sizing probe, in MiB. -/
  boundary : Nat
  /-- The word at bank offset 0, once read (R180). -/
  reference : Option Word
  /-- The detected size S in MiB; 0 until sizing ends. N is this times 128. -/
  sizeMiB : Nat
  /-- The recorded size R as classified at step 03h (R182). -/
  recordedMiB : Nat
  /-- The header was valid with its clean flag set (R182). -/
  cleanFound : Bool
  /-- The header was torn (R182). -/
  tornHeader : Bool
  /-- TORN records found. -/
  tornCount : Nat
  /-- Documents closed RECOVERED. -/
  recovered : Nat
  deriving DecidableEq, Repr

/-! ## Filing Clock (R138 to R147) -/

/-- What a deadline entry names (R142). -/
inductive DeadlineKind where
  | retain
  | retry (k : Nat)
  deriving DecidableEq, Repr

/-- An entry of the deadline list. -/
structure Deadline where
  kind : DeadlineKind
  slot : Nat
  gen : Nat
  due : Time
  deriving DecidableEq, Repr

/-- The Filing Clock. -/
structure Clock where
  /-- The prescaler's count (R138). -/
  prescaler : Nat
  /-- T. -/
  now : Time
  stale : Bool
  saveCount : Nat
  /-- The save count reached 6,000 and the save has not yet been made (R147). -/
  saveOwed : Bool
  /-- The examination of the deadline list that the last tick began is still going on (R145). -/
  examining : Bool
  deadlines : List Deadline
  deriving DecidableEq, Repr

/-! ## Block Table and Scrub Unit (R18 to R34) -/

/-- The state of a block (R19). -/
inductive BlockState where
  | reserved
  | free
  | scrub
  | landing
  | filed
  deriving DecidableEq, Repr

/-- A Block Table entry. `next` is the link of a LANDING or FILED block; the link of a FREE or SCRUB block is its
successor on `BlockTable.free` or `BlockTable.scrub`. -/
structure BlockEntry where
  state : BlockState
  index : Nat
  next : Option Nat
  deriving DecidableEq, Repr

/-- The Block Table: entries, and the two chains head first; F and the scrub count are the chains' lengths. -/
structure BlockTable where
  entries : Tbl BlockEntry
  free : List Nat
  scrub : List Nat
  deriving DecidableEq, Repr

/-- The Scrub Unit (R28). -/
inductive ScrubUnit where
  | idle
  | waiting (n : Nat)
  | scrubbing (n lines : Nat)
  | paused (held : Option (Nat × Nat))
  deriving DecidableEq, Repr

/-! ## Directory (R80 to R103) and recipients (R104) -/

/-- One of the twelve digit characters, by its 4-bit code: 0 to 9, 10 for *, 11 for # (R190). -/
abbrev Digit := Fin 12

/-- A class of recipients (R104). -/
inductive MailClass where
  | urgent
  | normal
  | bulk
  deriving DecidableEq, Repr

/-- The state of a recipient place (R104). -/
inductive RecipientState where
  | empty
  | pending
  | ready
  | active
  | retryWait
  | done
  | failed
  | cancelled
  deriving DecidableEq, Repr

/-- A recipient place. -/
structure Recipient where
  state : RecipientState
  cls : MailClass
  target : List Digit
  attempts : Nat
  nextPage : Nat
  resend : Nat
  retryDue : Option Time
  channel : Option Nat
  deriving DecidableEq, Repr

/-- The state of a document (R80). -/
inductive DocState where
  | free
  | receiving
  | filed
  | review
  deriving DecidableEq, Repr

/-- The closure of a document (R82). -/
inductive Closure where
  | opened
  | lastPage
  | callEnded
  | stalled
  | gapExpired
  | aborted
  | refused
  | recovered
  deriving DecidableEq, Repr

/-- A document record (R80). -/
structure Doc where
  state : DocState
  closure : Closure
  gen : Nat
  mailbox : Nat
  channel : Option Nat
  arrival : Option Time
  closed : Option Time
  retention : Option Time
  hold : Bool
  expired : Bool
  rerouted : Bool
  damaged : Bool
  pageCount : Nat
  firstPage : Option Nat
  blockTotal : Nat
  digits : List Digit
  caller : List Byte
  recipients : Tbl Recipient
  deriving DecidableEq, Repr

/-- The state of a page record (R85). -/
inductive PageState where
  | free
  | landing
  | closed
  deriving DecidableEq, Repr

/-- A page record (R85). `next` is the link of a page of a document; the link of a FREE record is its successor on
`Directory.freePages`. -/
structure Page where
  state : PageState
  owner : Nat
  seq : Nat
  length : Nat
  first : Option Nat
  count : Nat
  holes : Nat
  truncated : Bool
  estimated : Bool
  short : Bool
  parity : Bool
  closed : Option Time
  next : Option Nat
  deriving DecidableEq, Repr

/-- The Directory: documents, page records, the free page list head first, and the pairs (slot, page record) of R90: the
page was freed at the slot's last release and its record has not been flushed since. -/
structure Directory where
  docs : Tbl Doc
  pages : Tbl Page
  freePages : List Nat
  withheld : List (Nat × Nat)
  deriving DecidableEq, Repr

/-! ## Channels (R35, R111) -/

/-- The ten monitors (R168), in the order of their codes (Table 41). -/
inductive Monitor where
  | stall
  | gap
  | confirm
  | short
  | low
  | overQuota
  | stray
  | protection
  | parity
  | torn
  deriving DecidableEq, Repr

/-- The state of a channel (R35). -/
inductive ChannelState where
  | idle
  | gap
  | page
  | discard
  | send
  | locked
  deriving DecidableEq, Repr

/-- The info slot fields (R111). -/
structure SendInfo where
  doc : Option Nat
  recipient : Nat
  seq : Nat
  length : Nat
  pages : Nat
  deriving DecidableEq, Repr

/-- A channel context (R35, R111). -/
structure Channel where
  state : ChannelState
  /-- The current document's identifier. -/
  doc : Option Nat
  openPage : Option Nat
  /-- The landing map: logical index to block. -/
  map : Tbl Nat
  /-- The highest offset mark. -/
  mark : Option Nat
  /-- The channel timer, none while stopped; the confirm timer in SEND. -/
  timer : Option Nat
  lastFault : Option Monitor
  lockPending : Bool
  /-- The header captures, by word. -/
  header : Tbl Word
  stallTime : Nat
  gapTime : Nat
  confirmTime : Nat
  /-- The bound recipient: document slot and index. -/
  bound : Option (Nat × Nat)
  /-- The page record being sent. -/
  sending : Option Nat
  info : SendInfo
  deriving DecidableEq, Repr

/-! ## Mailboxes and routing (R62, R70) -/

/-- A mailbox record (R62). `shut` is the state CLOSED. -/
structure Mailbox where
  shut : Bool
  quota : Nat
  usage : Nat
  overQuota : Bool
  group : Nat
  excludes : BitVec 16
  cls : MailClass
  hours : Nat
  strict : Bool
  defaults : List (List Digit)
  deriving DecidableEq, Repr

/-- The match kind of a route (R70). -/
inductive MatchKind where
  | exact
  | leading
  deriving DecidableEq, Repr

/-- A non-empty routing entry (R70). -/
structure Route where
  kind : MatchKind
  pattern : List Digit
  mailbox : Nat
  deriving DecidableEq, Repr

/-- Mailbox Table and Routing Table. -/
structure Boxes where
  mailboxes : Tbl Mailbox
  routes : Tbl (Option Route)
  deriving DecidableEq, Repr

/-! ## Forward queue (R108) and review bindings (R130) -/

/-- The forward queue: one list per class, each of (document slot, recipient index), head first. -/
structure ForwardQueue where
  urgent : List (Nat × Nat)
  normal : List (Nat × Nat)
  bulk : List (Nat × Nat)
  deriving DecidableEq, Repr

/-- A review binding (R130). -/
structure Binding where
  doc : Nat
  seq : Nat
  page : Nat
  viewer : Nat
  deriving DecidableEq, Repr

/-! ## Posting Unit and Result Writer (R148 to R160) -/

/-- The twenty request kinds (Table 29). -/
inductive RequestKind where
  | setMailbox
  | setRoute
  | clearRoute
  | setPolicy
  | setChannelTimes
  | abortIntake
  | accept
  | hold
  | liftHold
  | release
  | purge
  | refile
  | retain
  | addRecipient
  | cancelRecipient
  | takeForward
  | dropForward
  | bindReview
  | unbindReview
  | setClock
  deriving DecidableEq, Repr

/-- The twelve result codes (R150). -/
inductive ResultCode where
  | ok
  | empty
  | busy
  | malformed
  | unknown
  | range
  | noEntry
  | state
  | wall
  | held
  | full
  | duplicate
  deriving DecidableEq, Repr

/-- The state of a posting slot (R148). -/
inductive SlotState where
  | idle
  | filling
  | taken
  deriving DecidableEq, Repr

/-- A posting slot (R148). -/
structure Slot where
  state : SlotState
  words : Tbl Word
  written : BitVec 15
  malformed : Bool
  deriving DecidableEq, Repr

/-- An item of the deferred list (R151). -/
inductive Deferred where
  /-- A taken request not yet executed, with its operand words. -/
  | request (slot tag : Nat) (kind : RequestKind) (operands : List Word)
  /-- The slot's own result or refusal, decided but not yet produced. -/
  | result (slot tag : Nat) (code : ResultCode) (args : List Word) (time : Time)
  /-- A BUSY result. -/
  | busy (slot tag : Nat) (time : Time)
  deriving DecidableEq, Repr

/-- Posting slots and the deferred list. -/
structure Posting where
  slots : Tbl Slot
  deferred : List Deferred
  deriving DecidableEq, Repr

/-- The thirteen notice kinds (Table 40). -/
inductive NoticeKind where
  | intakeOpened
  | intakeRefused
  | pageClosed
  | docClosed
  | recipientDone
  | recipientRetry
  | recipientFailed
  | unbound
  | released
  | mailboxOver
  | storeLow
  | fault
  | started
  deriving DecidableEq, Repr

/-- What besides kind and document distinguishes a notice (Table 30). -/
inductive KeyItem where
  | none
  | channel (c : Nat)
  | aperture (r : Nat)
  | mailbox (m : Nat)
  | monitor (m : Monitor)
  deriving DecidableEq, Repr

/-- The key of a notice (Table 30). -/
structure NoticeKey where
  kind : NoticeKind
  doc : Option Nat
  item : KeyItem
  deriving DecidableEq, Repr

/-- A raised notice. -/
structure Notice where
  key : NoticeKey
  code : Nat
  args : List Word
  time : Time
  deriving DecidableEq, Repr

/-- A produced entry that waits for its kind 4 grant (R152, R153). -/
structure Entry where
  pos : BitVec 8
  seq : BitVec 16
  kind : Nat
  code : Nat
  /-- The posting slot and tag of a RESULT entry. -/
  slot : Option (Nat × Nat)
  time : Time
  args : List Word
  /-- The slot's own result, which returns it to IDLE (R150). -/
  own : Bool
  deriving DecidableEq, Repr

/-- The Result Writer. -/
structure Ring where
  production : BitVec 8
  producer : BitVec 8
  consumer : BitVec 8
  sequence : BitVec 16
  /-- Entries produced and not yet written, oldest first. -/
  waiting : List Entry
  /-- The store write of the consumer word as 0 still waits (R160). -/
  resetWaits : Bool
  /-- The pending notice set in its order (R157). -/
  pending : List Notice
  lost : Nat
  deriving DecidableEq, Repr

/-! ## Mirror Unit (R161 to R167) -/

/-- The Mirror Unit and the on-chip fields of the layout header. A record is dirty when it is on the flush list. -/
structure Mirror where
  flushList : List RecordId
  /-- The guarded record and its count. -/
  guarded : Option (RecordId × Nat)
  /-- Layout header: bank size in MiB. -/
  sizeMiB : Nat
  /-- Layout header: clean flag. -/
  clean : Bool
  /-- Layout header: saved clock. -/
  saved : Time
  /-- A layout header write that clears the clean flag waits ahead of every flush (R187). -/
  rewrite : Bool
  deriving DecidableEq, Repr

/-! ## Monitor Unit (R168 to R178) -/

/-- The first-fault capture's record (R169). -/
structure Capture where
  monitor : Monitor
  channel : Option Nat
  master : Option Nat
  doc : Option Nat
  detail : Word
  time : Time
  deriving DecidableEq, Repr

/-- The policy record (R177). -/
structure Policy where
  floor : Nat
  lockout : Bool
  masks : BitVec 10
  retryBase : Nat
  deriving DecidableEq, Repr

/-- The Monitor Unit: latch i is that of monitor code i. -/
structure Monitors where
  latches : BitVec 10
  capture : Option Capture
  policy : Policy
  deriving DecidableEq, Repr

/-! ## The whole part -/

/-- The filing blocks. -/
structure Filing where
  boot : Boot
  clock : Clock
  blocks : BlockTable
  scrubber : ScrubUnit
  dir : Directory
  channels : Tbl Channel
  boxes : Boxes
  queue : ForwardQueue
  bindings : Tbl Binding
  posting : Posting
  ring : Ring
  mirror : Mirror
  monitors : Monitors
  deriving DecidableEq, Repr

/-- The machine: the commands that wait (first in, first out), the board path, the banks and the filing blocks. -/
structure State where
  pending : List Instr
  board : Board
  store : Store
  filing : Filing
  deriving DecidableEq, Repr

/-- Why the part stops. Every event that the manual calls a fault is a monitor latch and no stop; the one stop is a store
access past the bytes the fitted bank has (R18), which no run from `State.reset` makes. -/
inductive Fault where
  /-- A page bank access at a byte that the fitted bank does not hold; raised by the grants. Safe: the manual gives no
  effect for a byte that does not exist (R18). -/
  | noSuchByte (a : Nat)
  deriving DecidableEq, Repr

/-- Why a command has no meaning. -/
inductive Refusal where
  /-- No meaning yet; raised by exec's refused arms only. Safe. -/
  | notModelled (mnemonic : String)
  /-- The command is no command of the part: an unaligned transaction, a channel outside 1 to 24, a bank of no bytes
  (`Instr.wellFormed`); raised by the meaning of every command that takes such an operand. Safe. -/
  | illFormed
  deriving DecidableEq, Repr

/-! ## Power-on values -/

/-- A recipient place that holds no recipient: class 0, next page 0, no bound channel (DESIGN CHOICE, log entry 57). -/
def Recipient.vacant : Recipient :=
  { state := .empty, cls := .urgent, target := [], attempts := 0, nextPage := 0, resend := 0, retryDue := none,
    channel := none }

/-- A FREE document slot of the given generation (R80). -/
def Doc.freed (gen : Nat) : Doc :=
  { state := .free, closure := .opened, gen := gen, mailbox := 0, channel := none, arrival := none, closed := none,
    retention := none, hold := false, expired := false, rerouted := false, damaged := false, pageCount := 0,
    firstPage := none, blockTotal := 0, digits := [], caller := [], recipients := [] }

/-- A FREE page record (R85). -/
def Page.freed : Page :=
  { state := .free, owner := 0, seq := 0, length := 0, first := none, count := 0, holes := 0, truncated := false,
    estimated := false, short := false, parity := false, closed := none, next := none }

/-- Info slot fields that show no document (R111). The recipient index, for which R111 states no value, is 0 (DESIGN CHOICE,
log entry 48). -/
def SendInfo.cleared : SendInfo := { doc := none, recipient := 0, seq := 0, length := 0, pages := 0 }

/-- A channel context at power-on, with default timer settings (R35, R37). -/
def Channel.fresh : Channel :=
  { state := .idle, doc := none, openPage := none, map := [], mark := none, timer := none, lastFault := none,
    lockPending := false, header := [], stallTime := Config.defaultStall, gapTime := Config.defaultGap,
    confirmTime := Config.defaultConfirm, bound := none, sending := none, info := SendInfo.cleared }

/-- A mailbox with the values of a fresh format (R62). -/
def Mailbox.fresh : Mailbox :=
  { shut := false, quota := 0, usage := 0, overQuota := false, group := 0, excludes := 0, cls := .normal, hours := 0,
    strict := false, defaults := [] }

/-- An IDLE posting slot (R148). -/
def Slot.fresh : Slot := { state := .idle, words := [], written := 0, malformed := false }

/-- A block that the Block Table holds nothing for but RESERVED (R18). -/
def BlockEntry.reserved : BlockEntry := { state := .reserved, index := 0, next := none }

/-- The policy of a fresh format (R178). -/
def Policy.fresh : Policy :=
  { floor := Config.defaultFloor, lockout := false, masks := 0, retryBase := Config.defaultRetryBase }

/-- The board path at power-on (R1, R9, R16); the straps are not read yet. -/
def Board.reset : Board :=
  { straps := { zone := 0, gtop := 0, channels := 0, clksel := 0 }, port := .idle, queue := [], head := none, starve := 0,
    pwarn := false, breset := false, reply := none }

/-- The Start-up Controller before power. -/
def Boot.reset : Boot :=
  { phase := .off, boundary := 1, reference := none, sizeMiB := 0, recordedMiB := 0, cleanFound := false,
    tornHeader := false, tornCount := 0, recovered := 0 }

/-- The Filing Clock at power-on: stale, empty list (R139, R142). -/
def Clock.reset : Clock :=
  { prescaler := 0, now := 0, stale := true, saveCount := 0, saveOwed := false, examining := false, deadlines := [] }

/-- The Result Writer at power-on (R160). -/
def Ring.reset : Ring :=
  { production := 0, producer := 0, consumer := 0, sequence := 0, waiting := [], resetWaits := false, pending := [],
    lost := 0 }

/-- The Mirror Unit at power-on (R167). -/
def Mirror.reset : Mirror :=
  { flushList := [], guarded := none, sizeMiB := 0, clean := false, saved := 0, rewrite := false }

/-- Every filing block at power-on. -/
def Filing.reset : Filing :=
  { boot := Boot.reset, clock := Clock.reset, blocks := { entries := [], free := [], scrub := [] }, scrubber := .idle,
    dir := { docs := [], pages := [], freePages := [], withheld := [] }, channels := [],
    boxes := { mailboxes := [], routes := [] }, queue := { urgent := [], normal := [], bulk := [] }, bindings := [],
    posting := { slots := [], deferred := [] }, ring := Ring.reset, mirror := Mirror.reset,
    monitors := { latches := 0, capture := none, policy := Policy.fresh } }

/-- Both banks with nothing listed, no page bank fitted yet. -/
def Store.reset : Store := { general := [], page := [], bankMiB := 0, wrapMiB := 0 }

/-- The part before power reaches it, no command waiting. -/
def State.reset : State :=
  { pending := [], board := Board.reset, store := Store.reset, filing := Filing.reset }

end Sys2Proof.Machine
end

