-- ==== Sys2Proof/Machine/Ops.lean ====
section
/-! DEFINITION. The named operations every block uses: bit fields and byte order, the two banks, tables, the accessors of
each record, and the dirty mark (R161). -/

namespace Sys2Proof.Machine

/-! ## Bits and bytes (Conventions of 12_control_window_layouts.md) -/

/-- The number in bits `lo` to `lo + len - 1` of a word. -/
def bits (w : Word) (lo len : Nat) : Nat := w.toNat / 2 ^ lo % 2 ^ len

/-- A word built from fields (lowest bit, length, value); the spare bits are zero (R190). -/
def packWord (fields : List (Nat × Nat × Nat)) : Word :=
  BitVec.ofNat 32 ((fields.map fun x => x.2.2 % 2 ^ x.2.1 * 2 ^ x.1).sum)

/-- A flag as a one-bit value. -/
def flag (b : Bool) : Nat := if b then 1 else 0

/-- The four bytes of a word in address order. DESIGN CHOICE (log entry 1): the byte at the lowest address holds bits
0 to 7. -/
def wordBytes (w : Word) : List Byte :=
  [BitVec.ofNat 8 (bits w 0 8), BitVec.ofNat 8 (bits w 8 8), BitVec.ofNat 8 (bits w 16 8), BitVec.ofNat 8 (bits w 24 8)]

/-- The word of up to four bytes in address order. -/
def bytesWord : List Byte → Word
  | [] => 0
  | b :: bs => BitVec.ofNat 32 (b.toNat + 256 * (bytesWord bs).toNat)

/-- The bytes of several words. -/
def wordsBytes (ws : List Word) : List Byte := ws.flatMap wordBytes

/-- The words of a run of bytes, four at a time. -/
def bytesWords : Nat → List Byte → List Word
  | 0, _ => []
  | n + 1, bs => bytesWord (bs.take 4) :: bytesWords n (bs.drop 4)

/-- The bytes a write puts on the bus, in address order. -/
def BoardWrite.bytes (w : BoardWrite) : List Byte := (wordBytes w.data).take w.width.bytes

/-- A word after bytes have been written over it from byte lane `lane` on. -/
def overlayWord (old : Word) (lane : Nat) (bs : List Byte) : Word :=
  let o := wordBytes old
  bytesWord (o.take lane ++ bs ++ o.drop (lane + bs.length))

/-! ## Lists -/

/-- Inserts by a key, after every element whose key is not greater. -/
def insertBy {α : Type} (key : α → Nat) (x : α) : List α → List α
  | [] => [x]
  | y :: ys => if key y ≤ key x then y :: insertBy key x ys else x :: y :: ys

/-- Sorts by a key; elements of equal key keep their order. -/
def sortBy {α : Type} (key : α → Nat) (xs : List α) : List α := xs.foldl (fun acc x => insertBy key x acc) []

/-- The numbers `from` to `from + n - 1`, rising. -/
def numbers (start n : Nat) : List Nat := (List.range n).map (start + ·)

/-- The list without repeats, first places kept. -/
def distinct {α : Type} [DecidableEq α] (xs : List α) : List α :=
  xs.foldl (fun acc x => if x ∈ acc then acc else acc ++ [x]) []

/-! ## Tables -/

/-- The record of number `i`, none where the table holds none. -/
def Tbl.find {α : Type} : Tbl α → Nat → Option α
  | [], _ => none
  | (k, v) :: t, i => if k = i then some v else Tbl.find t i

/-- The table with record `i` replaced or added. -/
def Tbl.put {α : Type} : Tbl α → Nat → α → Tbl α
  | [], i, x => [(i, x)]
  | (k, v) :: t, i, x => if k = i then (i, x) :: t else if i < k then (i, x) :: (k, v) :: t else (k, v) :: Tbl.put t i x

/-! ## The banks -/

/-- The byte at an address. -/
def Memory.read (m : Memory) (a : Nat) : Byte := (Tbl.find m a).getD Config.unlistedByte

/-- The cells of a run of bytes that a memory lists. -/
def Memory.cells : Nat → List Byte → List Host.Cell
  | _, [] => []
  | a, b :: bs => if b = Config.unlistedByte then Memory.cells (a + 1) bs else (a, b) :: Memory.cells (a + 1) bs

/-- The memory with a run of bytes written from an address on. -/
def Memory.write (m : Memory) (a : Nat) (bs : List Byte) : Memory :=
  m.filter (fun c => decide (c.1 < a)) ++ Memory.cells a bs ++ m.filter (fun c => decide (a + bs.length ≤ c.1))

/-- The bytes of a run. -/
def Memory.readBytes (m : Memory) (a n : Nat) : List Byte :=
  let w := m.filter (fun c => decide (a ≤ c.1) && decide (c.1 < a + n))
  (numbers a n).map (Memory.read w)

/-- The words of a run. -/
def Memory.readWords (m : Memory) (a n : Nat) : List Word := bytesWords n (Memory.readBytes m a (4 * n))

/-- The word at an address. -/
def Memory.readWord (m : Memory) (a : Nat) : Word := bytesWord (Memory.readBytes m a 4)

/-- The canonical form: addresses strictly rising, no byte listed that an unlisted address reads as. -/
def Memory.wf : Memory → Bool
  | [] => true
  | [c] => c.2 != Config.unlistedByte
  | c :: d :: t => c.2 != Config.unlistedByte && decide (c.1 < d.1) && Memory.wf (d :: t)

/-! ## Records of the filing blocks -/

/-- N, the number of page bank blocks; 0 until sizing ends (R18). -/
def Filing.blockCount (f : Filing) : Nat := f.boot.sizeMiB * Config.blocksPerMiB

/-- The filing blocks run: the Start-up Controller has reached READY. -/
def Filing.running (f : Filing) : Bool := f.boot.phase == .running

/-- F, the free count (R20). -/
def Filing.freeCount (f : Filing) : Nat := f.blocks.free.length

/-- The scrub count (R21). -/
def Filing.scrubCount (f : Filing) : Nat := f.blocks.scrub.length

/-- T. -/
def Filing.now (f : Filing) : Time := f.clock.now

def Filing.doc (f : Filing) (s : Nat) : Doc := (Tbl.find f.dir.docs s).getD (Doc.freed 0)
def Filing.page (f : Filing) (p : Nat) : Page := (Tbl.find f.dir.pages p).getD Page.freed
def Filing.chan (f : Filing) (c : Nat) : Channel := (Tbl.find f.channels c).getD Channel.fresh
def Filing.mailbox (f : Filing) (m : Nat) : Mailbox := (Tbl.find f.boxes.mailboxes m).getD Mailbox.fresh
def Filing.route (f : Filing) (e : Nat) : Option Route := (Tbl.find f.boxes.routes e).getD none
def Filing.block (f : Filing) (n : Nat) : BlockEntry := (Tbl.find f.blocks.entries n).getD BlockEntry.reserved
def Filing.slot (f : Filing) (s : Nat) : Slot := (Tbl.find f.posting.slots s).getD Slot.fresh
def Filing.binding (f : Filing) (r : Nat) : Option Binding := Tbl.find f.bindings r
def Doc.recipient (d : Doc) (k : Nat) : Recipient := (Tbl.find d.recipients k).getD Recipient.vacant

def Filing.setDoc (f : Filing) (s : Nat) (d : Doc) : Filing := { f with dir := { f.dir with docs := Tbl.put f.dir.docs s d } }
def Filing.setPage (f : Filing) (p : Nat) (g : Page) : Filing :=
  { f with dir := { f.dir with pages := Tbl.put f.dir.pages p g } }
def Filing.setChan (f : Filing) (c : Nat) (ch : Channel) : Filing := { f with channels := Tbl.put f.channels c ch }
def Filing.setBox (f : Filing) (m : Nat) (b : Mailbox) : Filing :=
  { f with boxes := { f.boxes with mailboxes := Tbl.put f.boxes.mailboxes m b } }
def Filing.setRoute (f : Filing) (e : Nat) (r : Option Route) : Filing :=
  { f with boxes := { f.boxes with routes := Tbl.put f.boxes.routes e r } }
def Filing.setBlock (f : Filing) (n : Nat) (b : BlockEntry) : Filing :=
  { f with blocks := { f.blocks with entries := Tbl.put f.blocks.entries n b } }
def Filing.setSlot (f : Filing) (s : Nat) (x : Slot) : Filing :=
  { f with posting := { f.posting with slots := Tbl.put f.posting.slots s x } }
def Filing.setBinding (f : Filing) (r : Nat) (b : Option Binding) : Filing :=
  { f with bindings := match b with
                       | some x => Tbl.put f.bindings r x
                       | none => f.bindings.filter (fun c => decide (c.1 ≠ r)) }
def Doc.setRecipient (d : Doc) (k : Nat) (r : Recipient) : Doc := { d with recipients := Tbl.put d.recipients k r }

/-- The identifier of the document in a slot: slot × 64 + generation (R80). -/
def Filing.docId (f : Filing) (s : Nat) : Nat := s * 64 + (f.doc s).gen

/-- The slot of an identifier (R89). -/
def slotOf (d : Nat) : Nat := d / 64

/-- The generation of an identifier (R89). -/
def genOf (d : Nat) : Nat := d % 64

/-! ## Dirty marks (R161, R187) -/

/-- A record is dirty (R161): it is on the flush list, or it is the layout header and the header write that clears its clean
flag waits ahead of the list (R187; log entry 44). -/
def Filing.dirty (f : Filing) (r : RecordId) : Bool :=
  decide (r ∈ f.mirror.flushList) || (f.mirror.rewrite && r == .layoutHeader)

/-- Marks a record dirty: it joins the flush list unless it is on it (R161). At the first mark after a clean header write
the clean flag is cleared, and that header write waits ahead of every flush (R187). -/
def Filing.mark (r : RecordId) (f : Filing) : Filing :=
  { f with
    mirror :=
      { f.mirror with
        flushList := if r ∈ f.mirror.flushList then f.mirror.flushList else f.mirror.flushList ++ [r]
        clean := false
        rewrite := f.mirror.rewrite || f.mirror.clean } }

/-- Marks several records in order. -/
def Filing.markAll (rs : List RecordId) (f : Filing) : Filing := rs.foldl (fun f r => f.mark r) f

/-- A document record takes new fields; it is dirty where one of them changes (R161). -/
def Filing.changeDoc (s : Nat) (d : Doc) (f : Filing) : Filing :=
  if d = f.doc s then f else (f.setDoc s d).mark (.document s)

/-- A page record takes new fields; it is dirty where one of them changes (R161). -/
def Filing.changePage (p : Nat) (g : Page) (f : Filing) : Filing :=
  if g = f.page p then f else (f.setPage p g).mark (.page p)

/-- A channel context takes new fields; its record is dirty where one of them changes (R60, R161). -/
def Filing.changeChan (c : Nat) (ch : Channel) (f : Filing) : Filing :=
  if ch = f.chan c then f else (f.setChan c ch).mark (.channel c)

/-- A record has been written as it stands: it leaves the flush list. -/
def Filing.unmark (r : RecordId) (f : Filing) : Filing :=
  { f with mirror := { f.mirror with flushList := f.mirror.flushList.filter (fun x => decide (x ≠ r)) } }

end Sys2Proof.Machine
end

