-- ==== Sys2Proof/Machine/Flags.lean ====
section
/-! DEFINITION. The codes of Tables 38 to 44, and every flag the manual derives from other state: DAMAGED (R86), live and
finished recipients (R84), LOW's present condition (R171), the due test (R141), the ring's fullness (R152), ATTN (R155),
the progress code (R179) and the fault word (R192). -/

namespace Sys2Proof.Machine

/-! ## Codes -/

/-- Monitor codes (Table 41). -/
def Monitor.code : Monitor → Nat
  | .stall => 0
  | .gap => 1
  | .confirm => 2
  | .short => 3
  | .low => 4
  | .overQuota => 5
  | .stray => 6
  | .protection => 7
  | .parity => 8
  | .torn => 9

/-- The monitors that have a mask: all but PROTECTION and TORN (R168). -/
def Monitor.maskable : Monitor → Bool
  | .protection => false
  | .torn => false
  | _ => true

/-- The mask set bits that may be set: codes 0 to 6 and 8 (R177). -/
def maskableBits : BitVec 10 := 0x17F#10

/-- Notice kinds (Table 40). -/
def NoticeKind.code : NoticeKind → Nat
  | .intakeOpened => 1
  | .intakeRefused => 2
  | .pageClosed => 3
  | .docClosed => 4
  | .recipientDone => 5
  | .recipientRetry => 6
  | .recipientFailed => 7
  | .unbound => 8
  | .released => 9
  | .mailboxOver => 10
  | .storeLow => 11
  | .fault => 12
  | .started => 13

/-- Result codes (R193). -/
def ResultCode.code : ResultCode → Nat
  | .ok => 0
  | .empty => 1
  | .busy => 2
  | .malformed => 3
  | .unknown => 4
  | .range => 5
  | .noEntry => 6
  | .state => 7
  | .wall => 8
  | .held => 9
  | .full => 10
  | .duplicate => 11

/-- Channel states (Table 42). -/
def ChannelState.code : ChannelState → Nat
  | .idle => 0
  | .gap => 1
  | .page => 2
  | .discard => 3
  | .send => 4
  | .locked => 5

/-- Document states (Table 44). -/
def DocState.code : DocState → Nat
  | .free => 0
  | .receiving => 1
  | .filed => 2
  | .review => 3

/-- Closures (Table 40). -/
def Closure.code : Closure → Nat
  | .opened => 0
  | .lastPage => 1
  | .callEnded => 2
  | .stalled => 3
  | .gapExpired => 4
  | .aborted => 5
  | .refused => 6
  | .recovered => 7

/-- Classes (R193). -/
def MailClass.code : MailClass → Nat
  | .urgent => 0
  | .normal => 1
  | .bulk => 2

/-- The class of a code. -/
def classOf : Nat → Option MailClass
  | 0 => some .urgent
  | 1 => some .normal
  | 2 => some .bulk
  | _ => none

/-- Recipient states (R196). -/
def RecipientState.code : RecipientState → Nat
  | .empty => 0
  | .pending => 1
  | .ready => 2
  | .active => 3
  | .retryWait => 4
  | .done => 5
  | .failed => 6
  | .cancelled => 7

/-- Page states (R196). -/
def PageState.code : PageState → Nat
  | .free => 0
  | .landing => 1
  | .closed => 2

/-- Block states (R196). -/
def BlockState.code : BlockState → Nat
  | .reserved => 0
  | .free => 1
  | .scrub => 2
  | .landing => 3
  | .filed => 4

/-- The code the Start-up Controller shows on PROGRESS (R179). While the fresh format runs the code is still 03h
(DEDUCED, log entry 5); without power the lines show 00h. No phase shows 01h: step 01h begins and ends within POWER_ON
(DESIGN CHOICE, log entry 74). -/
def Phase.progress : Phase → Nat
  | .off => 0
  | .haltStraps => 0xE1
  | .sizing => 0x02
  | .haltShort => 0xE2
  | .haltWrapped => 0xE3
  | .headerCheck => 0x03
  | .formatting => 0x03
  | .formatted => 0x03
  | .walking => 0x04
  | .rebuilding => 0x05
  | .rebuilt => 0x05
  | .running => 0x0F

/-- The PROGRESS outputs. -/
def State.progressLines (s : State) : Nat := s.filing.boot.phase.progress

/-! ## Pages, recipients, documents -/

/-- A page is DAMAGED when a flag of it is set or it has a hole (R86). -/
def Page.damaged (g : Page) : Bool := g.truncated || g.estimated || g.short || g.parity || decide (0 < g.holes)

/-- The four page flags as bits 0 to 3 (Table 40, R196). -/
def Page.flagBits (g : Page) : Nat := flag g.truncated + 2 * flag g.estimated + 4 * flag g.short + 8 * flag g.parity

/-- The live states (R84). -/
def RecipientState.live : RecipientState → Bool
  | .pending => true
  | .ready => true
  | .active => true
  | .retryWait => true
  | _ => false

/-- The finished states (R84). -/
def RecipientState.finished : RecipientState → Bool
  | .done => true
  | .failed => true
  | .cancelled => true
  | _ => false

/-- The four recipient places. -/
def places : List Nat := [0, 1, 2, 3]

/-- Some recipient of the document is live (R98). -/
def Doc.anyLive (d : Doc) : Bool := places.any (fun k => (d.recipient k).state.live)

/-! ## Clock -/

/-- The due test (R141): (T − D) mod 2^32 is below 2^31. -/
def due (now d : Time) : Bool := decide ((now - d).toNat < 2 ^ 31)

/-- Remaining time: 0 once due, else (D − T) mod 2^32 (R141, R143). -/
def remaining (now d : Time) : Nat := if due now d then 0 else (d - now).toNat

/-- A number of ticks as a clock interval. -/
def ticks (n : Nat) : Time := BitVec.ofNat 32 n

/-! ## Monitors and status -/

/-- LOW's present condition: F ≤ Rf (R171). -/
def Filing.lowPresent (f : Filing) : Bool := decide (f.freeCount ≤ f.monitors.policy.floor)

/-- A maskable monitor whose mask is set (R168). -/
def Filing.masked (f : Filing) (m : Monitor) : Bool := m.maskable && f.monitors.policy.masks.getLsbD m.code

/-- The fault word, and the fault view word of the same layout (Table 38). -/
def Filing.faultWord (f : Filing) : Word := packWord [(0, 10, f.monitors.latches.toNat), (16, 1, flag f.lowPresent)]

/-- The result ring is full (R152). -/
def Ring.isFull (r : Ring) : Bool := r.production - r.consumer == 255#8

/-- Written entries that host software has not consumed (R154). -/
def Ring.unconsumed (r : Ring) : BitVec 8 := r.producer - r.consumer

/-- The ATTN output (R155). -/
def State.attn (s : State) : Bool := s.filing.ring.producer != s.filing.ring.consumer

end Sys2Proof.Machine
end

