-- ==== Sys2Proof/Machine/Operands.lean ====
section
/-! DEFINITION. Every operand form: digit strings in their two encodings (R190, R191), the fields of the call, trailer,
confirm and post words (R195, R193), the header captures (R38), and the operand words of the twenty requests (Table 39). -/

namespace Sys2Proof.Machine

/-! ## Digit strings -/

/-- The character code of a digit (R190). -/
def digitByte (d : Digit) : Byte :=
  if d.val = 10 then 0x2A#8 else if d.val = 11 then 0x23#8 else BitVec.ofNat 8 (0x30 + d.val)

/-- The digit of a character code, none where it is no code of R190. -/
def byteDigit (b : Byte) : Option Digit :=
  if b = 0x2A#8 then some 10
  else if b = 0x23#8 then some 11
  else if h : 0x30 ≤ b.toNat ∧ b.toNat ≤ 0x39 then some ⟨b.toNat - 0x30, by omega⟩
  else none

/-- The digits of a byte string up to the first byte that is no character code (R38, R191). -/
def leadingDigits : List Byte → List Digit
  | [] => []
  | b :: bs => match byteDigit b with
    | some d => d :: leadingDigits bs
    | none => []

/-- The digits of a byte string, none where a byte is no character code (R64, R106). -/
def allDigits : List Byte → Option (List Digit)
  | [] => some []
  | b :: bs => match byteDigit b, allDigits bs with
    | some d, some ds => some (d :: ds)
    | _, _ => none

/-- A digit string as bytes, positions beyond its length zero (R190). -/
def digitsBytes (ds : List Digit) (n : Nat) : List Byte := ((ds.map digitByte) ++ List.replicate n 0).take n

/-- The digit of a 4-bit code (R190). -/
def codeDigit (v : Nat) : Option Digit := if h : v < 12 then some ⟨v, h⟩ else none

/-- The 4-bit codes of two pattern words, the first in bits 0 to 3 of the first word (R190). -/
def nibbles (w0 w1 : Word) : List Nat :=
  (numbers 0 8).map (fun i => bits w0 (4 * i) 4) ++ (numbers 0 8).map (fun i => bits w1 (4 * i) 4)

/-- The digits of a list of 4-bit codes, none where a code is no digit. -/
def codesDigits : List Nat → Option (List Digit)
  | [] => some []
  | v :: vs => match codeDigit v, codesDigits vs with
    | some d, some ds => some (d :: ds)
    | _, _ => none

/-- Up to eight digits as one pattern word. -/
def patternWord (ds : List Digit) : Word :=
  packWord ((ds.take 8).zipIdx.map (fun x => (4 * x.2, 4, x.1.val)))

/-! ## Slot words (R195, R193) -/

/-- What a 32-bit call word asks (Table 42). -/
inductive CallKind where
  | opens
  | ends
  | other
  deriving DecidableEq, Repr

/-- The kind of a call word. -/
def callKind (w : Word) : CallKind := if w = 1#32 then .opens else if w = 2#32 then .ends else .other

/-- The length in a trailer word. -/
def trailerLength (w : Word) : Nat := bits w 0 21

/-- The last-page flag of a trailer word. -/
def trailerLast (w : Word) : Bool := bits w 31 1 == 1

/-- The outcome of a confirm word. -/
inductive ConfirmKind where
  | ok
  | resend
  | abandon
  | other
  deriving DecidableEq, Repr

/-- The outcome code of a confirm word. -/
def confirmKind (w : Word) : ConfirmKind :=
  if bits w 24 8 = 1 then .ok else if bits w 24 8 = 2 then .resend else if bits w 24 8 = 3 then .abandon else .other

/-- The page echo of a confirm word. -/
def confirmEcho (w : Word) : Nat := bits w 0 10

/-- The tag of a post word. -/
def postTag (w : Word) : Nat := bits w 0 16

/-- The word count of a post word. -/
def postCount (w : Word) : Nat := bits w 16 4

/-- The kind code of a post word. -/
def postKind (w : Word) : Nat := bits w 24 8

/-- The request kind of a code, none where it is not one of the twenty (Table 39). -/
def requestOf : Nat → Option RequestKind
  | 0x01 => some .setMailbox
  | 0x02 => some .setRoute
  | 0x03 => some .clearRoute
  | 0x04 => some .setPolicy
  | 0x05 => some .setChannelTimes
  | 0x06 => some .abortIntake
  | 0x07 => some .accept
  | 0x08 => some .hold
  | 0x09 => some .liftHold
  | 0x0A => some .release
  | 0x0B => some .purge
  | 0x0C => some .refile
  | 0x0D => some .retain
  | 0x0E => some .addRecipient
  | 0x0F => some .cancelRecipient
  | 0x10 => some .takeForward
  | 0x11 => some .dropForward
  | 0x12 => some .bindReview
  | 0x13 => some .unbindReview
  | 0x14 => some .setClock
  | _ => none

/-- The written set of words 0 to w − 1 (R149). -/
def firstWords (w : Nat) : BitVec 15 := BitVec.ofNat 15 (2 ^ w - 1)

/-! ## Header captures (R38) -/

/-- A captured header word, zero from power-on. -/
def Channel.headerWord (ch : Channel) (i : Nat) : Word := (Tbl.find ch.header i).getD 0

/-- The dialled digits an OPEN reads. -/
def Channel.dialled (ch : Channel) : List Digit :=
  leadingDigits ((wordsBytes [ch.headerWord 1, ch.headerWord 2, ch.headerWord 3, ch.headerWord 4]).take
    (min (bits (ch.headerWord 0) 0 8) 16))

/-- The caller identification an OPEN reads. -/
def Channel.callerId (ch : Channel) : List Byte :=
  (wordsBytes [ch.headerWord 5, ch.headerWord 6, ch.headerWord 7, ch.headerWord 8, ch.headerWord 9]).take
    (min (bits (ch.headerWord 0) 16 8) 20)

/-! ## Operand words of requests (Table 39) -/

/-- Operand word i; words beyond those posted are zero (R149). -/
def operand (ops : List Word) (i : Nat) : Word := ops.getD i 0

/-- An operand word as a number. -/
def operandNat (ops : List Word) (i : Nat) : Nat := (operand ops i).toNat

/-- A target of a stated length in five operand words from word i on; none where RANGE is due: a length outside 1 to 20
or a character that is no digit (R64, R106). -/
def operandTarget (ops : List Word) (i len : Nat) : Option (List Digit) :=
  if len = 0 ∨ 20 < len then none
  else allDigits ((wordsBytes ((numbers i 5).map (operand ops))).take len)

/-- The default recipients of SET_MAILBOX; none where RANGE is due. -/
def operandDefaults (ops : List Word) : Option (List (List Digit)) :=
  let w := operand ops 4
  match bits w 0 8 with
  | 0 => some []
  | 1 => (operandTarget ops 5 (bits w 8 8)).map (fun t => [t])
  | 2 => match operandTarget ops 5 (bits w 8 8), operandTarget ops 10 (bits w 16 8) with
    | some t, some u => some [t, u]
    | _, _ => none
  | _ => none

/-- The pattern of SET_ROUTE; none where RANGE is due (R71). -/
def operandPattern (ops : List Word) : Option (List Digit) :=
  let len := bits (operand ops 1) 8 8
  if len = 0 ∨ 16 < len then none else codesDigits ((nibbles (operand ops 2) (operand ops 3)).take len)

/-- A match kind code: EXACT 0, PREFIX 1. -/
def matchKindOf : Nat → Option MatchKind
  | 0 => some .exact
  | 1 => some .leading
  | _ => none

/-- A value clamped to a range. -/
def clamp (lo hi v : Nat) : Nat := max lo (min hi v)

end Sys2Proof.Machine
end

