-- ==== Sys2Proof/Machine/Results.lean ====
section
/-! DEFINITION. The Result Writer: producing entries (R152, R153), raising notices (R156), the pending notice set (R157),
the words of an entry (R193, R194). -/

namespace Sys2Proof.Machine

/-- A number as an argument word. -/
def argNat (n : Nat) : Word := BitVec.ofNat 32 n

/-- A document reference as an argument word; none is FFFFFFFFh (R190). -/
def argDoc : Option Nat → Word
  | some d => argNat d
  | none => 0xFFFFFFFF#32

/-- A small field's value; none is FFh (R190). -/
def small : Option Nat → Nat
  | some v => v
  | none => 0xFF

/-- Produces an entry: it takes the position at the production index and the sequence number, both advance, and it waits
as kind 4 (R152). -/
def Filing.produce (kind code : Nat) (slot : Option (Nat × Nat)) (time : Time) (args : List Word) (own : Bool)
    (f : Filing) : Filing :=
  let e : Entry := { pos := f.ring.production, seq := f.ring.sequence, kind := kind, code := code, slot := slot,
                     time := time, args := args, own := own }
  { f with ring := { f.ring with production := f.ring.production + 1, sequence := f.ring.sequence + 1,
                                 waiting := f.ring.waiting ++ [e] } }

/-- Produces a notice. -/
def Filing.produceNotice (n : Notice) (f : Filing) : Filing :=
  f.produce n.key.kind.code n.code none n.time n.args false

/-- The pending set with a held notice of the same key replaced in its place. -/
def replaceNotice (n : Notice) (ns : List Notice) : List Notice := ns.map (fun x => if x.key = n.key then n else x)

/-- A notice enters the pending notice set (R157). -/
def Filing.pend (n : Notice) (f : Filing) : Filing :=
  if f.ring.pending.any (fun x => x.key == n.key) then
    { f with ring := { f.ring with pending := replaceNotice n f.ring.pending } }
  else if f.ring.pending.length < Config.pendingLimit then
    { f with ring := { f.ring with pending := f.ring.pending ++ [n] } }
  else if f.ring.lost < Config.lostLimit then
    ({ f with ring := { f.ring with lost := f.ring.lost + 1 } } : Filing).mark .status
  else f

/-- Raises a notice: it is produced at once when the ring is not full and no notice is pending, else it enters the
pending set (R156). Within a request's execution the rule is R159's, whose outcome is the same: an execution begins with
an empty pending set, and a notice that then enters it has found the ring full. Before READY every notice waits
(R172, R186). -/
def Filing.raise (kind : NoticeKind) (doc : Option Nat) (item : KeyItem) (code : Nat) (args : List Word)
    (f : Filing) : Filing :=
  let n : Notice := { key := { kind := kind, doc := doc, item := item }, code := code, args := args, time := f.now }
  if f.running && !f.ring.isFull && f.ring.pending.isEmpty then f.produceNotice n else f.pend n

/-- The eight words of an entry (R193, R194): unused arguments are zero. -/
def Entry.words (e : Entry) : List Word :=
  let st := e.slot.getD (0, 0)
  [packWord [(0, 16, e.seq.toNat), (16, 8, e.kind), (24, 8, e.code)], packWord [(0, 8, st.1), (16, 16, st.2)], e.time, 0,
   operand e.args 0, operand e.args 1, operand e.args 2, operand e.args 3]

end Sys2Proof.Machine
end

