-- ==== Sys2Proof/Machine/Monitors.lean ====
section
/-! DEFINITION. The Monitor Unit: latch events (R168), the first-fault capture (R169), FAULT and STORE_LOW (R171, R173),
and the fault word read's clearing (R175). -/

namespace Sys2Proof.Machine

/-- A latch event as the block that owns the watched event hands it (Table 33). -/
structure LatchEvent where
  monitor : Monitor
  channel : Option Nat
  master : Option Nat
  doc : Option Nat
  detail : Word
  deriving DecidableEq, Repr

/-- The latch of a monitor. -/
def latchBit (m : Monitor) : BitVec 10 := BitVec.ofNat 10 (2 ^ m.code)

/-- STORE_LOW, raised before the FAULT of a LOW event (R171). -/
def Filing.raiseStoreLow (f : Filing) : Filing :=
  f.raise .storeLow none .none 0 [argNat f.freeCount, argNat f.monitors.policy.floor]

/-- FAULT (R173). -/
def Filing.raiseFault (e : LatchEvent) (f : Filing) : Filing :=
  f.raise .fault none (.monitor e.monitor) e.monitor.code
    [packWord [(0, 8, small e.channel), (8, 8, small e.master)], argDoc e.doc, e.detail]

/-- The capture's record of an event. -/
def LatchEvent.capture (e : LatchEvent) (now : Time) : Capture :=
  { monitor := e.monitor, channel := e.channel, master := e.master, doc := e.doc, detail := e.detail, time := now }

/-- A latch event reaches the Monitor Unit (R168): dropped when masked, else the latch is set, an empty capture is filled,
the notices are raised and the status record is dirty. -/
def Filing.latch (e : LatchEvent) (f : Filing) : Filing :=
  if f.masked e.monitor then f
  else
    let f : Filing :=
      { f with monitors :=
          { f.monitors with latches := f.monitors.latches ||| latchBit e.monitor
                            capture := f.monitors.capture.or (some (e.capture f.now)) } }
    let f := if e.monitor = .low then f.raiseStoreLow else f
    (f.raiseFault e).mark .status

/-- The LOW latch event's detail: F in bits 0 to 15, Rf in bits 16 to 31 (Table 41). -/
def Filing.latchLow (f : Filing) : Filing :=
  f.latch { monitor := .low, channel := none, master := none, doc := none,
            detail := packWord [(0, 16, f.freeCount), (16, 16, f.monitors.policy.floor)] }

/-- The region code and index of a refused access (Table 41). The control window has no channel or aperture and shows FFh
there, as R190 writes a small field that is none (DEDUCED, log entry 69: R190 names channel, master and monitor). -/
def regionDetail : AddrClass → Word
  | .control _ => packWord [(0, 8, 0), (8, 8, 0xFF)]
  | .landing c _ => packWord [(0, 8, 1), (8, 8, c)]
  | .forward c _ => packWord [(0, 8, 2), (8, 8, c)]
  | .review r _ => packWord [(0, 8, 3), (8, 8, r)]
  | _ => 0

/-- PROTECTION: a refused access hands master and region (R7, R172). -/
def Filing.latchProtection (master : BitVec 5) (cls : AddrClass) (f : Filing) : Filing :=
  f.latch { monitor := .protection, channel := none, master := some master.toNat, doc := none, detail := regionDetail cls }

/-- The clearing at the service of a fault word read (R175, steps 1 and 2): the latches of the read's set but a LOW whose
condition is present, and a capture that was full when the read was taken. -/
def Filing.clearLatches (noted : BitVec 10) (captured : Bool) (f : Filing) : Filing :=
  let keepLow : BitVec 10 := if f.lowPresent then latchBit .low else 0
  ({ f with monitors :=
      { f.monitors with latches := f.monitors.latches &&& ~~~(noted &&& ~~~keepLow)
                        capture := if captured then none else f.monitors.capture } } : Filing).mark .status

end Sys2Proof.Machine
end

