-- ==== Sys2Proof/Machine/Mailboxes.lean ====
section
/-! DEFINITION. Mailbox Table and Routing Table: usage and the OVER flag (R66, R67), admission (R68), lookup (R73, R74),
the wall test (R75). -/

namespace Sys2Proof.Machine

/-- The OVER evaluation after a change of U or Q (R67). None is made before READY: recovery sets the flags itself, with
no notice and no warning (R79). -/
def Filing.evalOver (m : Nat) (f : Filing) : Filing :=
  let b := f.mailbox m
  if !f.running then f
  else if b.quota < b.usage && !b.overQuota then
    ((f.setBox m { b with overQuota := true }).raise .mailboxOver none (.mailbox m) 0
      [argNat m, argNat b.quota, argNat b.usage]).latch
        { monitor := .overQuota, channel := none, master := none, doc := none, detail := argNat m }
  else if b.usage < b.quota && b.overQuota then f.setBox m { b with overQuota := false }
  else f

/-- Sets a mailbox's usage: the record is dirty at the change, and the OVER evaluation follows at once (R66). At a grant too
the mark stands where R66 puts it, ahead of the evaluation and of the allocation (DESIGN CHOICE, log entry 60: R69 names it
last). -/
def Filing.setUsage (m u : Nat) (f : Filing) : Filing :=
  ((f.setBox m { f.mailbox m with usage := u }).mark (.mailbox m)).evalOver m

/-- Returns blocks from a mailbox's usage (R66). -/
def Filing.returnUsage (m n : Nat) (f : Filing) : Filing :=
  if n = 0 then f else f.setUsage m ((f.mailbox m).usage - n)

/-- Admission of one block for mailbox m (R68): never at F = 0, within quota always, else while F is above the floor. -/
def Filing.admits (m : Nat) (f : Filing) : Bool :=
  let b := f.mailbox m
  decide (0 < f.freeCount) && (decide (b.usage < b.quota) || decide (f.monitors.policy.floor < f.freeCount))

/-- The mailbox of the EXACT entry that holds the digits (R73). -/
def Filing.lookupExact (d : List Digit) (f : Filing) : Option Nat :=
  (numbers 0 Config.routeCount).findSome? (fun e =>
    match f.route e with
    | some r => if r.kind = .exact ∧ r.pattern = d then some r.mailbox else none
    | none => none)

/-- The mailbox of the PREFIX entry of the given pattern length that the digits begin with. -/
def Filing.lookupLeading (d : List Digit) (len : Nat) (f : Filing) : Option Nat :=
  (numbers 0 Config.routeCount).findSome? (fun e =>
    match f.route e with
    | some r =>
      if r.kind = .leading ∧ r.pattern.length = len ∧ 0 < len ∧ r.pattern = d.take len then some r.mailbox else none
    | none => none)

/-- The mailbox that the lookup chooses: EXACT, else the longest PREFIX, else mailbox 0 (R73). -/
def Filing.chosenMailbox (d : List Digit) (f : Filing) : Nat :=
  match f.lookupExact d with
  | some m => m
  | none => ((numbers 0 (d.length + 1)).reverse.findSome? (fun len => f.lookupLeading d len)).getD 0

/-- The delivered mailbox and the REROUTED flag: a CLOSED mailbox is rerouted to mailbox 0 (R74). -/
def Filing.lookup (d : List Digit) (f : Filing) : Nat × Bool :=
  let m := f.chosenMailbox d
  if (f.mailbox m).shut then (0, true) else (m, false)

/-- The wall test between two mailboxes (R75). -/
def Filing.wallPasses (v m : Nat) (f : Filing) : Bool :=
  !(f.mailbox v).excludes.getLsbD (f.mailbox m).group && !(f.mailbox m).excludes.getLsbD (f.mailbox v).group

end Sys2Proof.Machine
end

