-- ==== Sys2Proof/Machine/Blocks.lean ====
section
/-! DEFINITION. The Block Table: page chains, allocation (R22), close and trim (R25, R26), release (R27), translation
(R114), and the Scrub Unit's completion (R30). -/

namespace Sys2Proof.Machine

/-- The blocks reached by following next links, at most `n` of them. -/
def followBlocks (t : Tbl BlockEntry) : Nat → Option Nat → List Nat
  | 0, _ => []
  | _ + 1, none => []
  | n + 1, some b => b :: followBlocks t n ((Tbl.find t b).getD BlockEntry.reserved).next

/-- The chain of a page, in chain order (R19, R85). -/
def Filing.pageChain (p : Nat) (f : Filing) : List Nat :=
  followBlocks f.blocks.entries (f.page p).count (f.page p).first

/-- The block of a page that holds logical index j: the chain is walked until a block of index j, or until one of a higher
index or the chain's end shows that there is none (R114). Of two blocks of one index (log entry 77) it is the first. -/
def Filing.blockAt (p j : Nat) (f : Filing) : Option Nat :=
  ((f.pageChain p).takeWhile (fun n => decide ((f.block n).index ≤ j))).find? (fun n => (f.block n).index == j)

/-- A change of F has been made: the status record is dirty, and a fall from above Rf to Rf or below is a LOW latch event
(R20, R171). -/
def Filing.freeChanged (before : Nat) (f : Filing) : Filing :=
  let f := f.mark .status
  if f.monitors.policy.floor < before && decide (f.freeCount ≤ f.monitors.policy.floor) then f.latchLow else f

/-- Allocation for logical index j of page p after a granted admission (R22): the free chain's head becomes LANDING at the
page chain's end. F falls in step 2, so the status record's mark and a LOW event come before the mark of a changed link in
step 6. Its own entry is the draining write's write-ahead entry, so it leaves the flush list (R23). Answers the block. -/
def Filing.allocate (p j : Nat) (f : Filing) : Option (Filing × Nat) :=
  match f.blocks.free with
  | [] => none
  | n :: rest =>
    let chain := f.pageChain p
    let g := f.page p
    let f1 := ({ f with blocks := { f.blocks with free := rest } } : Filing).freeChanged f.freeCount
    let f2 := (f1.setBlock n { state := .landing, index := j, next := none }).unmark (.block n)
    let f3 :=
      match chain.getLast? with
      | some l => (f2.setBlock l { f2.block l with next := some n }).mark (.block l)
      | none => f2
    some (f3.setPage p { g with first := g.first.or (some n), count := g.count + 1 }, n)

/-- Blocks join the scrub chain's tail in order, each SCRUB and dirty, then the status record for the scrub count (R21, R26,
R27; the order of these marks: DESIGN CHOICE, log entry 65). -/
def Filing.scrubAll (ns : List Nat) (f : Filing) : Filing :=
  let f1 := ns.foldl (fun f n => (f.setBlock n { state := .scrub, index := 0, next := none }).mark (.block n)) f
  let f2 : Filing := { f1 with blocks := { f1.blocks with scrub := f1.blocks.scrub ++ ns } }
  if ns.isEmpty then f2 else f2.mark .status

/-- Links blocks in the given order as FILED, each dirty (R25). -/
def Filing.fileAll : List Nat → Filing → Filing
  | [], f => f
  | n :: ns, f =>
    Filing.fileAll ns ((f.setBlock n { f.block n with state := .filed, next := ns.head? }).mark (.block n))

/-- A block completes its scrub: it leaves the scrub chain's head for the free chain's tail and F rises, so the status record
is dirty, then its entry (R30, steps 1 to 4). -/
def Filing.scrubComplete (n : Nat) (f : Filing) : Filing :=
  let f1 : Filing :=
    { f with blocks := { f.blocks with scrub := f.blocks.scrub.tail, free := f.blocks.free ++ [n] } }
  ((f1.setBlock n { state := .free, index := 0, next := none }).mark .status).mark (.block n)

end Sys2Proof.Machine
end

