-- ==== Sys2Proof/Machine/Deadlines.lean ====
section
/-! DEFINITION. The deadline list (R142 to R144) and the forward queue (R108): placements and removals. -/

namespace Sys2Proof.Machine

/-- The list with an entry placed after every entry whose remaining time is not greater (R143). -/
def placeDeadline (now : Time) (e : Deadline) (es : List Deadline) : List Deadline :=
  insertBy (fun x => remaining now x.due) e es

/-- Places an entry. -/
def Filing.place (e : Deadline) (f : Filing) : Filing :=
  { f with clock := { f.clock with deadlines := placeDeadline f.now e f.clock.deadlines } }

/-- Keeps the entries that pass a test; the others leave without firing (R144). -/
def Filing.keepDeadlines (keep : Deadline → Bool) (f : Filing) : Filing :=
  { f with clock := { f.clock with deadlines := f.clock.deadlines.filter keep } }

/-- Removes the RETAIN entry of a document (R96, R97, R100). -/
def Filing.removeRetain (s gen : Nat) (f : Filing) : Filing :=
  f.keepDeadlines (fun e => !(e.kind == .retain && e.slot == s && e.gen == gen))

/-- Removes the RETRY entry of a recipient (R107). -/
def Filing.removeRetry (s gen k : Nat) (f : Filing) : Filing :=
  f.keepDeadlines (fun e => !(e.kind == .retry k && e.slot == s && e.gen == gen))

/-- Removes every entry that names a document or a recipient of it (R99). -/
def Filing.removeDeadlines (s gen : Nat) (f : Filing) : Filing :=
  f.keepDeadlines (fun e => !(e.slot == s && e.gen == gen))

/-- A recipient joins the tail of its class (R108). -/
def Filing.join (s k : Nat) (cls : MailClass) (f : Filing) : Filing :=
  { f with queue :=
      match cls with
      | .urgent => { f.queue with urgent := f.queue.urgent ++ [(s, k)] }
      | .normal => { f.queue with normal := f.queue.normal ++ [(s, k)] }
      | .bulk => { f.queue with bulk := f.queue.bulk ++ [(s, k)] } }

/-- A recipient leaves the queue (R109). -/
def Filing.leave (s k : Nat) (f : Filing) : Filing :=
  { f with queue :=
      { urgent := f.queue.urgent.filter (fun x => x != (s, k))
        normal := f.queue.normal.filter (fun x => x != (s, k))
        bulk := f.queue.bulk.filter (fun x => x != (s, k)) } }

/-- The recipients in queue order; the head of the queue is its head (R108). -/
def ForwardQueue.all (q : ForwardQueue) : List (Nat × Nat) := q.urgent ++ q.normal ++ q.bulk

/-- Sets a recipient's fields through its document record, which is dirty (R105). -/
def Filing.setRecipient (s k : Nat) (r : Recipient) (f : Filing) : Filing :=
  (f.setDoc s ((f.doc s).setRecipient k r)).mark (.document s)

end Sys2Proof.Machine
end

