-- ==== Sys2Proof/Machine/Directory.lean ====
section
/-! DEFINITION. The Directory: slots and the identifier checks (R89, R90), page lists (R88), page close (R48), document
close (R91 to R93), release (R98, R99) and PARITY (R86). -/

namespace Sys2Proof.Machine

/-! ## Identifiers and slots -/

/-- The identifier checks of R89: RANGE above 65,535, NO_ENTRY with the identifier and the slot's current generation when
stale. `inl` is the refusal, `inr` the slot. -/
def Filing.checkId (d : Nat) (f : Filing) : (ResultCode × List Word) ⊕ Nat :=
  if 65535 < d then .inl (.range, [])
  else if (f.doc (slotOf d)).state = .free ∨ (f.doc (slotOf d)).gen ≠ genOf d then
    .inl (.noEntry, [argNat d, argNat (f.doc (slotOf d)).gen])
  else .inr (slotOf d)

/-- The slot that the Directory gives: the lowest FREE one none of whose freed page records is still dirty (R90). -/
def Filing.givenSlot (f : Filing) : Option Nat :=
  (numbers 0 Config.docSlots).find? (fun s =>
    (f.doc s).state == .free && !f.dir.withheld.any (fun x => x.1 == s))

/-- The page records reached by following next links, at most `n` of them. -/
def followPages (t : Tbl Page) : Nat → Option Nat → List Nat
  | 0, _ => []
  | _ + 1, none => []
  | n + 1, some p => p :: followPages t n ((Tbl.find t p).getD Page.freed).next

/-- A document's page list, in ascending sequence number (R88). -/
def Filing.docPages (s : Nat) (f : Filing) : List Nat :=
  followPages f.dir.pages (f.doc s).pageCount (f.doc s).firstPage

/-- Some review binding names the document (R98). -/
def Filing.bound (d : Nat) (f : Filing) : Bool := f.bindings.any (fun b => b.2.doc == d)

/-! ## Release -/

/-- Page records become FREE in order, at the free page list's tail, each dirty; the slot is held back until they have been
flushed (R87, R90, R99). -/
def Filing.freePages (s : Nat) (ps : List Nat) (f : Filing) : Filing :=
  let f1 := ps.foldl (fun f p => (f.setPage p Page.freed).mark (.page p)) f
  { f1 with dir := { f1.dir with freePages := f1.dir.freePages ++ ps,
                                 withheld := f1.dir.withheld ++ ps.map (fun p => (s, p)) } }

/-- The release of the document in slot s (R99), each record marked where it changes (DESIGN CHOICE, log entry 65); `quiet`
is the empty-document release, which raises no RELEASED. -/
def Filing.releaseDoc (quiet : Bool) (s : Nat) (f : Filing) : Filing :=
  let d := f.doc s
  let id := f.docId s
  let ps := f.docPages s
  let f1 := f.scrubAll (ps.flatMap (fun p => f.pageChain p))
  let f2 := (f1.returnUsage d.mailbox d.blockTotal).mark (.mailbox d.mailbox)
  let f3 := f2.freePages s ps
  let f4 := f3.removeDeadlines s d.gen
  let f5 := (f4.setDoc s (Doc.freed ((d.gen + 1) % 64))).mark (.document s)
  if quiet then f5
  else f5.raise .released (some id) .none 0 [argNat id, argNat d.mailbox, argNat d.pageCount, argNat d.blockTotal]

/-- The four conditions of release (R98). -/
def Filing.releasable (s : Nat) (f : Filing) : Bool :=
  let d := f.doc s
  (d.state == .filed || d.state == .review) && !d.hold && d.expired && !d.anyLive && !f.bound (f.docId s)

/-- Checks release and releases the document when every condition holds (R98). -/
def Filing.checkRelease (s : Nat) (f : Filing) : Filing := if f.releasable s then f.releaseDoc false s else f

/-- Checks release for several documents, each once. -/
def Filing.checkReleases (ids : List Nat) (f : Filing) : Filing :=
  (distinct ids).foldl (fun f d => match f.checkId d with
    | .inr s => f.checkRelease s
    | .inl _ => f) f

/-! ## Recipients made READY -/

/-- The PENDING recipients of a document. -/
def Doc.pendingPlaces (d : Doc) : List Nat := places.filter (fun k => (d.recipient k).state == .pending)

/-- Every PENDING recipient becomes READY and joins the forward queue, in ascending index (R92, R94). -/
def Filing.makeReady (s : Nat) (f : Filing) : Filing :=
  (f.doc s).pendingPlaces.foldl (fun f k =>
    let r := (f.doc s).recipient k
    (f.setRecipient s k { r with state := .ready }).join s k r.cls) f

/-- Every live recipient becomes CANCELLED with no notice of its own (R91). -/
def Filing.cancelLive (s : Nat) (f : Filing) : Filing :=
  (places.filter (fun k => ((f.doc s).recipient k).state.live)).foldl (fun f k =>
    f.setRecipient s k { (f.doc s).recipient k with state := .cancelled }) f

/-! ## Closing a page -/

/-- ⌈L / 8,192⌉ (R48). -/
def keepCount (l : Nat) : Nat := (l + (Config.blockBytes - 1)) / Config.blockBytes

/-- The holes of a page by its landing map: the indices below k that map to no block (R48). -/
def mapHoles (map : Tbl Nat) (k : Nat) : Nat := ((numbers 0 k).filter (fun j => (Tbl.find map j).isNone)).length

/-- The holes of a page by its chain: the indices below k that no block of the chain has (R185). -/
def Filing.chainHoles (p k : Nat) (f : Filing) : Nat :=
  ((numbers 0 k).filter (fun j => !(f.pageChain p).any (fun n => (f.block n).index == j))).length

/-- PAGE_CLOSED (Table 40). -/
def Filing.raisePageClosed (c s p : Nat) (f : Filing) : Filing :=
  let g := f.page p
  f.raise .pageClosed (some (f.docId s)) (.channel c) 0
    [argNat (f.docId s), packWord [(0, 8, c), (16, 16, g.seq)], argNat g.length,
     packWord [(0, 8, g.holes), (8, 4, g.flagBits)]]

/-- Completes page p of the document in slot s with final length l: trim, file, complete the record (R25, R26, R48, steps 1 to
4), each record marked where it changes (DESIGN CHOICE, log entry 65). `forced` sets TRUNCATED, `est` sets LENGTH_ESTIMATED,
`holes` is the hole count. Two blocks of one logical index, which only a LANDING chain walked at recovery can hold (R184), are
both filed, or both trimmed, in chain order, though R25 has a closed page's indices rise strictly (DESIGN CHOICE, log entry
77). -/
def Filing.completePage (s p l : Nat) (forced est : Bool) (holes : Nat) (f : Filing) : Filing :=
  let k := keepCount l
  let sorted := sortBy (fun n => (f.block n).index) (f.pageChain p)
  let trimmed := sorted.filter (fun n => decide (k ≤ (f.block n).index))
  let kept := sorted.filter (fun n => decide ((f.block n).index < k))
  let g := f.page p
  let f1 := (f.scrubAll trimmed).fileAll kept
  let f2 := f1.returnUsage (f.doc s).mailbox trimmed.length
  let f3 := f2.setPage p { g with state := .closed, length := l, first := kept.head?, count := kept.length,
                                  holes := holes, truncated := g.truncated || forced,
                                  estimated := g.estimated || est, closed := some f.now }
  let f4 := f3.setDoc s { f3.doc s with blockTotal := (f3.doc s).blockTotal - trimmed.length }
  (f4.mark (.page p)).mark (.document s)

/-- Closes page p with no channel context to clear: complete, then report (R48, R185). -/
def Filing.closePage (c s p l : Nat) (forced est : Bool) (holes : Nat) (f : Filing) : Filing :=
  (f.completePage s p l forced est holes).raisePageClosed c s p

/-! ## Closing a document -/

/-- The outcome codes of DOC_CLOSED (Table 40). -/
def outcomeCode : DocState → Nat
  | .filed => 1
  | .review => 2
  | _ => 3

/-- DOC_CLOSED (R93). -/
def Filing.raiseDocClosed (c s code : Nat) (f : Filing) : Filing :=
  let d := f.doc s
  f.raise .docClosed (some (f.docId s)) (.channel c) code
    [argNat (f.docId s), packWord [(0, 8, c), (8, 8, d.mailbox), (16, 8, d.closure.code), (31, 1, flag d.damaged)],
     argNat d.pageCount, argNat d.blockTotal]

/-- The state a closed document with pages takes (R92). -/
def closedState (strict : Bool) (cl : Closure) (damaged : Bool) : DocState :=
  if !strict then .filed else if cl = .lastPage && !damaged then .filed else .review

/-- Sets the retention due of a close and places the RETAIN entry (R93). -/
def Filing.setRetention (s hours : Nat) (base : Time) (f : Filing) : Filing :=
  let d := f.doc s
  if hours = 0 then f.changeDoc s { d with retention := none }
  else
    let dueAt := base + ticks (hours * Config.ticksPerHour)
    (f.changeDoc s { d with retention := some dueAt }).place
      { kind := .retain, slot := s, gen := d.gen, due := dueAt }

/-- Closes the document in slot s, received on channel c (R91 to R93). -/
def Filing.closeDoc (c s : Nat) (cl : Closure) (f : Filing) : Filing :=
  let f0 := (f.setDoc s { f.doc s with closure := cl, closed := some f.now }).mark (.document s)
  if (f.doc s).pageCount = 0 then
    ((f0.cancelLive s).raiseDocClosed c s (outcomeCode .free)).releaseDoc true s
  else
    let anyDamaged := (f.docPages s).any (fun p => (f.page p).damaged)
    let b := f.mailbox (f.doc s).mailbox
    let st := closedState b.strict cl anyDamaged
    let f1 := f0.setDoc s { f0.doc s with state := st, damaged := (f0.doc s).damaged || anyDamaged }
    let f2 := if st = .filed then f1.makeReady s else f1
    (f2.setRetention s b.hours f.now).raiseDocClosed c s (outcomeCode st)

/-! ## PARITY -/

/-- A page bank data error on an aperture read of page p (R86): the page and its document are flagged, then the Monitor
Unit is told with the channel or the master. -/
def Filing.parityOnPage (channel master : Option Nat) (p : Nat) (f : Filing) : Filing :=
  let g := f.page p
  let s := g.owner
  let f1 := (f.setPage p { g with parity := true }).setDoc s { f.doc s with damaged := true }
  ((f1.mark (.page p)).mark (.document s)).latch
    { monitor := .parity, channel := channel, master := master, doc := some (f.docId s), detail := argNat p }

end Sys2Proof.Machine
end

