-- ==== Sys2Proof/Machine/Review.lean ====
section
/-! DEFINITION. The Review Aperture Unit: breaking bindings (R136) and the wall re-check (R76). -/

namespace Sys2Proof.Machine

/-- Why a binding or an attempt was broken (Table 40). -/
inductive UnboundReason where
  | wall
  | purged
  | cancelled
  deriving DecidableEq, Repr

/-- The code of a reason (Table 40). -/
def UnboundReason.code : UnboundReason → Nat
  | .wall => 1
  | .purged => 2
  | .cancelled => 3

/-- UNBOUND for a review aperture (R136, Table 40). -/
def Filing.raiseUnboundReview (r doc : Nat) (why : UnboundReason) (f : Filing) : Filing :=
  f.raise .unbound none (.aperture r) why.code [argNat doc, argNat r, 0, argNat 2]

/-- The review apertures. -/
def apertures : List Nat := numbers 0 Config.apertureCount

/-- Breaks the bindings that pass a test, in ascending aperture number, each with an UNBOUND notice (R136). -/
def Filing.breakBindings (breaks : Binding → Bool) (why : UnboundReason) (f : Filing) : Filing :=
  apertures.foldl (fun f r => match f.binding r with
    | some b => if breaks b then (f.setBinding r none).raiseUnboundReview r b.doc why else f
    | none => f) f

/-- The documents that the bindings passing a test name, in ascending aperture number: the order in which they are checked for
release, which R136 leaves open (DESIGN CHOICE, log entry 49). -/
def Filing.boundDocs (test : Binding → Bool) (f : Filing) : List Nat :=
  apertures.filterMap (fun r => match f.binding r with
    | some b => if test b then some b.doc else none
    | none => none)

/-- A binding that fails the wall test between its viewer and its document's mailbox (R75). -/
def Filing.wallFails (f : Filing) (b : Binding) : Bool := !f.wallPasses b.viewer (f.doc (slotOf b.doc)).mailbox

/-- Re-checks the bindings that pass a test: those that now fail the wall test are broken, and then release is checked for
the documents they named (R76, R136). -/
def Filing.recheck (test : Binding → Bool) (f : Filing) : Filing :=
  let fails : Binding → Bool := fun b => test b && f.wallFails b
  (f.breakBindings fails .wall).checkReleases (f.boundDocs fails)

end Sys2Proof.Machine
end

