-- ==== Sys2Proof/Machine/Forward.lean ====
section
/-! DEFINITION. The Forward Scheduler: binding (R110), the end of an attempt (R113), confirm outcomes (R118 to R120),
failed attempts and backoff (R121, R122), cancelling (R107, R126). -/

namespace Sys2Proof.Machine

/-- The confirm timer's load (R112). -/
def Channel.confirmLoad (ch : Channel) : Option Nat := some (ch.confirmTime * 100)

/-- Ends the attempt on channel c (R113): the bound recipient takes its next state by `upd` and is unbound; the channel's
binding, page, timer and info fields are cleared; it enters LOCKED if lock pending is set, else IDLE. -/
def Filing.endAttempt (c : Nat) (upd : Recipient → Recipient) (f : Filing) : Filing :=
  let ch := f.chan c
  let f1 := match ch.bound with
    | some (s, k) => f.setRecipient s k { upd ((f.doc s).recipient k) with channel := none }
    | none => f
  (f1.setChan c { ch with bound := none, sending := none, timer := none, info := SendInfo.cleared,
                          state := if ch.lockPending then .locked else .idle, lockPending := false }).mark (.channel c)

/-- RECIPIENT_DONE (R118, R110). -/
def Filing.raiseDone (c s k : Nat) (f : Filing) : Filing :=
  f.raise .recipientDone (some (f.docId s)) (.channel c) 0
    [argNat (f.docId s), argNat k, argNat c, argNat (f.doc s).pageCount]

/-- The backoff after the a-th failed attempt, in ticks (R122). -/
def backoff (base a : Nat) : Nat := min (base * 2 ^ (a - 1)) Config.maxBackoff * 100

/-- A failed attempt on channel c (R121). -/
def Filing.failAttempt (c : Nat) (f : Filing) : Filing :=
  match (f.chan c).bound with
  | none => f
  | some (s, k) =>
    let r := (f.doc s).recipient k
    let a := r.attempts + 1
    let id := f.docId s
    if Config.maxAttempts ≤ a then
      let f1 := f.endAttempt c (fun r => { r with attempts := a, state := .failed })
      (f1.raise .recipientFailed (some id) (.channel c) 0
        [argNat id, packWord [(0, 8, k), (8, 8, a)], 0, argNat r.nextPage]).checkRelease s
    else
      let dueAt := f.now + ticks (backoff f.monitors.policy.retryBase a)
      let f1 := f.endAttempt c (fun r => { r with attempts := a, state := .retryWait, retryDue := some dueAt })
      let f2 := f1.place { kind := .retry k, slot := s, gen := (f.doc s).gen, due := dueAt }
      f2.raise .recipientRetry (some id) (.channel c) 0
        [argNat id, packWord [(0, 8, k), (8, 8, a)], dueAt, argNat r.nextPage]

/-- The info slot fields for recipient k of the document in slot s, page p current (R111). -/
def Filing.infoFor (s k p : Nat) (f : Filing) : SendInfo :=
  { doc := some (f.docId s), recipient := k, seq := (f.page p).seq, length := (f.page p).length,
    pages := (f.doc s).pageCount }

/-- Confirm OK on channel c (R118). -/
def Filing.confirmOk (c : Nat) (f : Filing) : Filing :=
  let ch := f.chan c
  match ch.bound, ch.sending with
  | some (s, k), some p =>
    match (f.page p).next with
    | some q =>
      let r := (f.doc s).recipient k
      let f1 := f.setRecipient s k { r with nextPage := (f.page q).seq, resend := 0 }
      (f1.setChan c { ch with sending := some q, info := f.infoFor s k q, timer := ch.confirmLoad }).mark (.channel c)
    | none =>
      ((f.endAttempt c (fun r => { r with state := .done })).raiseDone c s k).checkRelease s
  | _, _ => f

/-- Confirm RESEND on channel c (R119): the fourth on one page fails the attempt. -/
def Filing.confirmResend (c : Nat) (f : Filing) : Filing :=
  let ch := f.chan c
  match ch.bound with
  | none => f
  | some (s, k) =>
    let r := (f.doc s).recipient k
    if r.resend < 3 then
      (f.setRecipient s k { r with resend := r.resend + 1 }).setChan c { ch with timer := ch.confirmLoad }
    else f.failAttempt c

/-- Confirm ABANDON on channel c (R120). -/
def Filing.confirmAbandon (c : Nat) (f : Filing) : Filing := f.failAttempt c

/-- The first page of the document at or above a sequence number (R110). -/
def Filing.pageFrom (s seq : Nat) (f : Filing) : Option Nat :=
  (f.docPages s).find? (fun p => decide (seq ≤ (f.page p).seq))

/-- Binds recipient k of the document in slot s to channel c at page p (R110). -/
def Filing.bindSend (c s k p : Nat) (f : Filing) : Filing :=
  let ch := f.chan c
  let r := (f.doc s).recipient k
  let f1 := (f.leave s k).setRecipient s k { r with state := .active, channel := some c, resend := 0,
                                                    nextPage := (f.page p).seq }
  (f1.setChan c { ch with state := .send, bound := some (s, k), sending := some p, timer := ch.confirmLoad,
                          info := f.infoFor s k p,
                          lastFault := if f.monitors.policy.lockout then ch.lastFault else none }).mark (.channel c)

/-- The head recipient whose document has no page left is DONE (R110). -/
def Filing.doneUnsent (c s k : Nat) (f : Filing) : Filing :=
  let r := (f.doc s).recipient k
  (((f.leave s k).setRecipient s k { r with state := .done }).raiseDone c s k).checkRelease s

/-- UNBOUND for a send (R126, Table 40). -/
def Filing.raiseUnboundSend (c s k : Nat) (why : UnboundReason) (f : Filing) : Filing :=
  f.raise .unbound (some (f.docId s)) (.channel c) why.code [argNat (f.docId s), argNat c, argNat k, argNat 1]

/-- Cancels a live recipient and withdraws the work it had in hand (R107, R126). Release is checked by the caller. -/
def Filing.cancelRecipient (s k : Nat) (why : UnboundReason) (f : Filing) : Filing :=
  let r := (f.doc s).recipient k
  match r.state with
  | .pending => f.setRecipient s k { r with state := .cancelled }
  | .ready => (f.leave s k).setRecipient s k { r with state := .cancelled }
  | .retryWait =>
    (f.removeRetry s (f.doc s).gen k).setRecipient s k { r with state := .cancelled, retryDue := none }
  | .active =>
    match r.channel with
    | some c => (f.endAttempt c (fun r => { r with state := .cancelled })).raiseUnboundSend c s k why
    | none => f.setRecipient s k { r with state := .cancelled }
  | _ => f

/-- A RETRY entry has fired: the recipient is READY at the tail of its class (R123). -/
def Filing.retryReady (s k : Nat) (f : Filing) : Filing :=
  let r := (f.doc s).recipient k
  (f.setRecipient s k { r with state := .ready, retryDue := none }).join s k r.cls

/-- The service of a read of forward aperture c restarts the confirm timer in SEND (R116). -/
def Filing.forwardServed (c : Nat) (f : Filing) : Filing :=
  let ch := f.chan c
  if ch.state = .send then f.setChan c { ch with timer := ch.confirmLoad } else f

/-- What a data area read finds (R114, R134): the page's length and the block of logical index j. -/
structure Translation where
  page : Nat
  length : Nat
  block : Nat
  deriving DecidableEq, Repr

/-- The translation of offset o in page p at a grant (R115, R135): none in a hole. The length decides nothing here; it cuts
the bytes served. -/
def Filing.grantPage (p o : Nat) (f : Filing) : Option Translation :=
  (f.blockAt p (o / Config.blockBytes)).map (fun n => { page := p, length := (f.page p).length, block := n })

/-- The translation of offset o in page p at a decision (R114, R134): none where it lies at or beyond the length or in a
hole. -/
def Filing.translatePage (p o : Nat) (f : Filing) : Option Translation :=
  if (f.page p).length ≤ o then none else f.grantPage p o

/-- The page that forward aperture c shows: the current page of a channel in SEND (R114). -/
def Filing.forwardPage (c : Nat) (f : Filing) : Option Nat :=
  if (f.chan c).state = .send then (f.chan c).sending else none

/-- The page that review aperture r shows (R134). -/
def Filing.reviewPage (r : Nat) (f : Filing) : Option Nat := (f.binding r).map Binding.page

/-- The decision of a forward data read (R114). -/
def Filing.translateForward (c o : Nat) (f : Filing) : Option Translation :=
  (f.forwardPage c).bind (fun p => f.translatePage p o)

/-- The decision of a review data read (R134). -/
def Filing.translateReview (r o : Nat) (f : Filing) : Option Translation :=
  (f.reviewPage r).bind (fun p => f.translatePage p o)

/-- The translation of a forward data read at its grant (R115). -/
def Filing.grantForward (c o : Nat) (f : Filing) : Option Translation :=
  (f.forwardPage c).bind (fun p => f.grantPage p o)

/-- The translation of a review data read at its grant (R135). -/
def Filing.grantReview (r o : Nat) (f : Filing) : Option Translation :=
  (f.reviewPage r).bind (fun p => f.grantPage p o)

end Sys2Proof.Machine
end

