-- ==== Sys2Proof/Machine/Channels.lean ====
section
/-! DEFINITION. The Channel Controller: faults (R56), calls (R40 to R42, R51), pages (R44, R45, R47, R50), strays (R52),
expiries (R53, R124), unlocking (R57) and board reset (R58, R128). -/

namespace Sys2Proof.Machine

/-- The document a channel is concerned with: its current one, or its bound recipient's. -/
def Filing.channelDoc (c : Nat) (f : Filing) : Option Nat :=
  (f.chan c).doc.or ((f.chan c).bound.map (fun x => f.docId x.1))

/-- The faults that set lock pending (R56). -/
def Monitor.locks : Monitor → Bool
  | .stall => true
  | .gap => true
  | .confirm => true
  | .stray => true
  | _ => false

/-- The channel's own part of a fault report (R56). On a LOCKED channel lock pending is set and stays set (DESIGN CHOICE, log
entry 47). -/
def Channel.recordFault (lockout : Bool) (m : Monitor) (ch : Channel) : Channel :=
  let ch := { ch with lastFault := some m }
  if lockout && m.locks then
    if ch.state = .idle ∨ ch.state = .discard then { ch with state := .locked, lockPending := false, timer := none }
    else { ch with lockPending := true }
  else ch

/-- A channel fault is reported (R55, R56): recorded on the channel and latched unless the monitor is masked. The
channel record (R56) joins the flush list ahead of the status record (R168 step 5): DESIGN CHOICE, log entry 66. -/
def Filing.reportFault (c : Nat) (m : Monitor) (detail : Word) (f : Filing) : Filing :=
  if f.masked m then f
  else
    let d := f.channelDoc c
    (f.changeChan c ((f.chan c).recordFault f.monitors.policy.lockout m)).latch
      { monitor := m, channel := some c, master := none, doc := d, detail := detail }

/-- The parts a stray write can hit, by their code (Table 41). -/
inductive StrayPart where
  | callWord
  | dataArea
  | trailerWord
  | confirmWord
  deriving DecidableEq, Repr

/-- The code of a part (Table 41). -/
def StrayPart.code : StrayPart → Nat
  | .callWord => 0
  | .dataArea => 1
  | .trailerWord => 2
  | .confirmWord => 3

/-- STRAY on channel c. -/
def Filing.stray (c : Nat) (part : StrayPart) (f : Filing) : Filing := f.reportFault c .stray (argNat part.code)

/-! ## Captures -/

/-- A header slot word is captured byte by byte (R35, R38). -/
def Filing.captureHeader (c word lane : Nat) (bs : List Byte) (f : Filing) : Filing :=
  let ch := f.chan c
  f.setChan c { ch with header := Tbl.put ch.header word (overlayWord (ch.headerWord word) lane bs) }

/-! ## Ending calls -/

/-- The length an estimate gives: the mark plus one, or 1 (R46). -/
def Channel.estimate (ch : Channel) : Nat := match ch.mark with
  | some m => m + 1
  | none => 1

/-- Closes the channel's open page with final length l: the page is completed, then the channel's page state cleared, then the
close reported (R48). -/
def Filing.closeOpenPage (c l : Nat) (forced est : Bool) (f : Filing) : Filing :=
  let ch := f.chan c
  match ch.openPage, ch.doc with
  | some p, some d =>
    let f1 := f.completePage (slotOf d) p l forced est (mapHoles ch.map (keepCount l))
    ((f1.setChan c { ch with map := [], mark := none, openPage := none }).mark (.channel c)).raisePageClosed c (slotOf d) p
  | _, _ => f

/-- A forced close (R50). -/
def Filing.forcedClose (c : Nat) (f : Filing) : Filing := f.closeOpenPage c (f.chan c).estimate true true

/-- Closes the current document and leaves the call (R51): LOCKED if lock pending is set, else DISCARD where asked, else
IDLE. -/
def Filing.closeCall (c : Nat) (cl : Closure) (toDiscard : Bool) (f : Filing) : Filing :=
  match (f.chan c).doc with
  | some d =>
    let f1 := f.closeDoc c (slotOf d) cl
    let ch := f1.chan c
    (f1.setChan c { ch with doc := none, timer := none, lockPending := false,
                            state := if ch.lockPending then .locked else if toDiscard then .discard else .idle }).mark
      (.channel c)
  | none => f

/-- Ends the call in GAP or PAGE (R42): a forced close of the open page, then the document's close. -/
def Filing.endCurrent (c : Nat) (cl : Closure) (toDiscard : Bool) (f : Filing) : Filing :=
  ((if (f.chan c).state = .page then f.forcedClose c else f)).closeCall c cl toDiscard

/-! ## OPEN and END -/

/-- Reasons of INTAKE_REFUSED (Table 40). -/
inductive RefuseReason where
  | directoryFull
  | busy
  | locked
  deriving DecidableEq, Repr

/-- The code of a reason (Table 40). -/
def RefuseReason.code : RefuseReason → Nat
  | .directoryFull => 1
  | .busy => 2
  | .locked => 3

/-- INTAKE_REFUSED (R40, R41). -/
def Filing.refuseIntake (c : Nat) (why : RefuseReason) (f : Filing) : Filing :=
  f.raise .intakeRefused none (.channel c) why.code [argNat c]

/-- A new recipient (R104). -/
def Recipient.fresh (st : RecipientState) (cls : MailClass) (target : List Digit) : Recipient :=
  { state := st, cls := cls, target := target, attempts := 0, nextPage := 1, resend := 0, retryDue := none, channel := none }

/-- The recipient places of a document created for mailbox b (R40). -/
def defaultRecipients (b : Mailbox) : Tbl Recipient :=
  b.defaults.zipIdx.map (fun x => (x.2, Recipient.fresh .pending b.cls x.1))

/-- OPEN taken as in IDLE (R40). Where there is no slot to give, the last fault stays as it is: R40 clears it in its step 4
(DESIGN CHOICE, log entry 56). -/
def Filing.openIdle (c : Nat) (f : Filing) : Filing :=
  let ch := f.chan c
  match f.givenSlot with
  | none =>
    ((f.setChan c { ch with state := .discard, timer := none }).mark (.channel c)).refuseIntake c .directoryFull
  | some s =>
    let lk := f.lookup ch.dialled
    let b := f.mailbox lk.1
    let d : Doc := { Doc.freed (f.doc s).gen with state := .receiving, mailbox := lk.1, channel := some c,
                                                  arrival := some f.now, rerouted := lk.2, digits := ch.dialled,
                                                  caller := ch.callerId, recipients := defaultRecipients b }
    let f1 := (f.setDoc s d).mark (.document s)
    let id := f1.docId s
    let f2 := (f1.setChan c { ch with state := .gap, doc := some id, timer := some (ch.gapTime * 100),
                                      lastFault := if f.monitors.policy.lockout then ch.lastFault else none }).mark
                (.channel c)
    f2.raise .intakeOpened (some id) (.channel c) 0 [argNat id, argNat c, argNat lk.1, argNat (flag lk.2)]

/-- OPEN in a state that a call's end has left, or in IDLE, DISCARD, SEND or LOCKED (R40, R41). -/
def Filing.openAs (c : Nat) (f : Filing) : Filing :=
  match (f.chan c).state with
  | .idle => f.openIdle c
  | .discard => f.openIdle c
  | .send => f.refuseIntake c .busy
  | .locked => f.refuseIntake c .locked
  | .gap => f
  | .page => f

/-- A call word of kind OPEN (R40, R41). -/
def Filing.openCall (c : Nat) (f : Filing) : Filing :=
  match (f.chan c).state with
  | .gap => (f.endCurrent c .callEnded false).openAs c
  | .page => (f.endCurrent c .callEnded false).openAs c
  | _ => f.openAs c

/-- A call word of kind END (R42). -/
def Filing.endCall (c : Nat) (f : Filing) : Filing :=
  match (f.chan c).state with
  | .gap => f.endCurrent c .callEnded false
  | .page => f.endCurrent c .callEnded false
  | .discard => (f.setChan c { f.chan c with state := .idle, timer := none }).mark (.channel c)
  | _ => f

/-! ## Data writes -/

/-- Where a drained data write goes: its page bank byte and the block whose write-ahead entry it waits for. -/
structure Placed where
  filing : Filing
  dest : Option Nat
  ahead : Option Nat
  deriving DecidableEq, Repr

/-- A write that is discarded. -/
def Placed.discarded (f : Filing) : Placed := { filing := f, dest := none, ahead := none }

/-- The stall timer's load (R36). -/
def Channel.stallLoad (ch : Channel) : Option Nat := some (ch.stallTime * 50)

/-- The gap timer's load (R36). -/
def Channel.gapLoad (ch : Channel) : Option Nat := some (ch.gapTime * 100)

/-- A write has landed: the mark rises, the stall timer is reloaded, page record and channel record are dirty (R45). -/
def Filing.landed (c p o width : Nat) (f : Filing) : Filing :=
  let ch := f.chan c
  let top := o + width - 1
  ((f.setChan c { ch with mark := some (max (ch.mark.getD 0) top), timer := ch.stallLoad }).mark (.page p)).mark (.channel c)

/-- A data write in PAGE at offset o (R45). -/
def Filing.placeData (c o width : Nat) (f : Filing) : Placed :=
  let ch := f.chan c
  match ch.openPage, ch.doc with
  | some p, some d =>
    let s := slotOf d
    let j := o / Config.blockBytes
    let b := o % Config.blockBytes
    match Tbl.find ch.map j with
    | some n => { filing := f.landed c p o width, dest := some (n * Config.blockBytes + b), ahead := none }
    | none =>
      let m := (f.doc s).mailbox
      if f.admits m then
        match (f.setUsage m ((f.mailbox m).usage + 1)).allocate p j with
        | some (f1, n) =>
          let f2 := (f1.setDoc s { f1.doc s with blockTotal := (f1.doc s).blockTotal + 1 }).mark (.document s)
          let f3 := f2.setChan c { f2.chan c with map := Tbl.put (f2.chan c).map j n }
          { filing := f3.landed c p o width, dest := some (n * Config.blockBytes + b), ahead := some n }
        | none => Placed.discarded f
      else
        let g := f.page p
        Placed.discarded ((f.changePage p { g with short := true }).reportFault c .short (argNat g.seq))
  | _, _ => Placed.discarded f

/-- Starts a page of the current document in GAP (R44); none where it is refused. -/
def Filing.startPage (c : Nat) (f : Filing) : Option Filing :=
  let ch := f.chan c
  match ch.doc, f.dir.freePages with
  | some d, p :: rest =>
    let s := slotOf d
    let doc := f.doc s
    if Config.maxPages ≤ doc.pageCount then none
    else
      let f1 : Filing := { f with dir := { f.dir with freePages := rest } }
      let f2 := f1.setPage p { Page.freed with state := .landing, owner := s, seq := doc.pageCount + 1 }
      let f3 := match (f.docPages s).getLast? with
        | some l => (f2.setPage l { f2.page l with next := some p }).mark (.page l)
        | none => f2
      let f4 := f3.setDoc s { f3.doc s with pageCount := doc.pageCount + 1, firstPage := doc.firstPage.or (some p) }
      let f5 := f4.setChan c { ch with state := .page, openPage := some p, map := [], mark := none, timer := ch.stallLoad }
      some (((f5.mark (.page p)).mark (.document s)).mark (.channel c))
  | _, _ => none

/-- A landing data write (R43). -/
def Filing.dataWrite (c o width : Nat) (f : Filing) : Placed :=
  match (f.chan c).state with
  | .gap => match f.startPage c with
    | some f1 => f1.placeData c o width
    | none => Placed.discarded (f.closeCall c .refused true)
  | .page => f.placeData c o width
  | .discard => Placed.discarded f
  | .locked => Placed.discarded f
  | .idle => Placed.discarded (f.stray c .dataArea)
  | .send => Placed.discarded (f.stray c .dataArea)

/-! ## Trailer words -/

/-- A stated length lies in range (R47). -/
def lengthInRange (l : Nat) : Bool := decide (1 ≤ l) && decide (l ≤ Config.dataAreaBytes)

/-- A 32-bit trailer word in PAGE (R47, R49). -/
def Filing.trailerClose (c : Nat) (w : Word) (f : Filing) : Filing :=
  let l := trailerLength w
  let f1 :=
    if lengthInRange l then f.closeOpenPage c l false false
    else f.closeOpenPage c (f.chan c).estimate false true
  if trailerLast w then f1.closeCall c .lastPage false
  else (f1.setChan c { f1.chan c with state := .gap, timer := (f1.chan c).gapLoad }).mark (.channel c)

/-- A trailer word (R47, R52). -/
def Filing.trailerWord (c : Nat) (full : Bool) (w : Word) (f : Filing) : Filing :=
  match (f.chan c).state with
  | .page => if full then f.trailerClose c w else f.stray c .trailerWord
  | .discard => f
  | .locked => f
  | .idle => f.stray c .trailerWord
  | .gap => f.stray c .trailerWord
  | .send => f.stray c .trailerWord

/-! ## Confirm words out of place -/

/-- A confirm word that takes no outcome (R117). -/
def Filing.confirmStray (c : Nat) (f : Filing) : Filing :=
  match (f.chan c).state with
  | .discard => f
  | .locked => f
  | _ => f.stray c .confirmWord

/-! ## Expiries -/

/-- A stall expiry (R53). -/
def Filing.stallExpiry (c : Nat) (f : Filing) : Filing :=
  ((f.forcedClose c).reportFault c .stall 0).closeCall c .stalled false

/-- A gap expiry (R53). -/
def Filing.gapExpiry (c : Nat) (f : Filing) : Filing := (f.reportFault c .gap 0).closeCall c .gapExpired false

/-- A confirm timeout (R124). -/
def Filing.confirmTimeout (c : Nat) (f : Filing) : Filing :=
  let k := match (f.chan c).bound with
    | some x => x.2
    | none => 0
  (f.reportFault c .confirm (argNat k)).failAttempt c

/-! ## Unlocking and board reset -/

/-- The channels. -/
def channelNumbers : List Nat := numbers 1 Config.channelCount

/-- Every LOCKED channel enters IDLE, its last fault kept (R57, R175). A lock pending set while it was LOCKED is kept too
(DESIGN CHOICE, log entry 47). The unlocked channels' records are marked in ascending channel number (DESIGN CHOICE, log
entry 63). -/
def Filing.unlockAll (f : Filing) : Filing :=
  channelNumbers.foldl (fun f c =>
    if (f.chan c).state = .locked then
      (f.setChan c { f.chan c with state := .idle, timer := none }).mark (.channel c)
    else f) f

/-- The closing action of BRESET on one channel (R58, R128). -/
def Filing.resetCall (c : Nat) (f : Filing) : Filing :=
  match (f.chan c).state with
  | .gap => f.endCurrent c .callEnded false
  | .page => f.endCurrent c .callEnded false
  | .send =>
    match (f.chan c).bound with
    | some (s, k) =>
      let r := (f.doc s).recipient k
      (f.setRecipient s k { r with state := .ready, channel := none }).join s k r.cls
    | none => f
  | _ => f

/-- The condition in which BRESET leaves a channel (R58). -/
def Channel.afterReset (ch : Channel) : Channel :=
  { ch with state := .idle, timer := none, lockPending := false, lastFault := none, doc := none, openPage := none,
            map := [], mark := none, bound := none, sending := none, info := SendInfo.cleared }

/-- BRESET at one channel: its closing action, then its final condition and its record's mark, before any later channel's
closing action (DESIGN CHOICE, log entry 67). -/
def Filing.resetChannel (c : Nat) (f : Filing) : Filing :=
  let before := f.chan c
  let f1 := f.resetCall c
  let f2 := f1.setChan c (f1.chan c).afterReset
  if f2.chan c = before then f2 else f2.mark (.channel c)

/-- BRESET at every channel, in ascending number (R188), one channel done before the next (DESIGN CHOICE, log entry 67). -/
def Filing.resetChannels (f : Filing) : Filing := channelNumbers.foldl (fun f c => f.resetChannel c) f

end Sys2Proof.Machine
end

