-- ==== Sys2Proof/Machine/Ticks.lean ====
section
/-! DEFINITION. The Filing Clock: what a tick does (R36, R138, R139, R147, R164), the firing of deadlines (R145), and the
events that a tick leaves owed. A tick lowers every count; a count that it brings to its end is an event of its own
(STALL_EXPIRY, GAP_EXPIRY, CONFIRM_TIMEOUT, RETAIN_DEADLINE, RETRY_DEADLINE, CLOCK_SAVE, GUARD_EXPIRY). Events of one tick
may be taken in any order that the deadline list allows; one not taken yet acts before any other command
(`Filing.settle`, log entry 8). -/

namespace Sys2Proof.Machine

/-- The monitor whose mask holds the timer of a channel in this state (R36, R112, R170). -/
def ChannelState.timed : ChannelState → Option Monitor
  | .page => some .stall
  | .gap => some .gap
  | .send => some .confirm
  | _ => none

/-- The channel's timer is held by a mask (R36). -/
def Filing.timerHeld (ch : Channel) (f : Filing) : Bool := match ch.state.timed with
  | some m => f.masked m
  | none => false

/-- A timer after one tick (R36). -/
def lowerTimer (t : Option Nat) : Option Nat := t.map (fun v => v - 1)

/-- A tick at one channel: a loaded timer that no mask holds is lowered (R36). -/
def Filing.tickChannel (c : Nat) (f : Filing) : Filing :=
  let ch := f.chan c
  if ch.timer.isNone || f.timerHeld ch then f else f.setChan c { ch with timer := lowerTimer ch.timer }

/-- The head of the deadline list is due (R145), by the test of R141 at the clock as it has advanced. An entry overdue at
READY by exactly 2^31 − 1 ticks is therefore not due at the first tick after it, and does not fire there (DESIGN CHOICE,
log entry 73). -/
def Filing.headDue (f : Filing) : Bool := match f.clock.deadlines with
  | e :: _ => due f.now e.due
  | [] => false

/-- A tick at the clock from READY onwards: T and the save count advance, the list's examination begins (R139, R145,
R147). -/
def Filing.tickClock (f : Filing) : Filing :=
  if f.running then
    let wraps : Bool := f.clock.saveCount + 1 == Config.saveInterval
    { f with clock := { f.clock with now := f.clock.now + 1
                                     saveCount := if wraps then 0 else f.clock.saveCount + 1
                                     saveOwed := f.clock.saveOwed || wraps
                                     examining := true } }
  else f

/-- A tick at the record guard: its count is lowered (R164). -/
def Filing.tickGuard (f : Filing) : Filing :=
  { f with mirror := { f.mirror with guarded := f.mirror.guarded.map (fun g => (g.1, g.2 - 1)) } }

/-- A tick at the three owners (R138). -/
def Filing.tick (f : Filing) : Filing :=
  ((channelNumbers.foldl (fun f c => f.tickChannel c) f).tickClock).tickGuard

/-! ## The events a tick leaves -/

/-- The channel's timer has reached 0 in the given state. -/
def Filing.expired (st : ChannelState) (c : Nat) (f : Filing) : Bool :=
  (f.chan c).state == st && (f.chan c).timer == some 0

/-- A deadline of the kind given stands due at the head of the list under examination (R145). -/
def Filing.deadlineDue (isRetain : Bool) (f : Filing) : Bool :=
  f.clock.examining && f.headDue &&
    match f.clock.deadlines with
    | e :: _ => (e.kind == .retain) == isRetain
    | [] => false

/-- Fires the head of the deadline list (R145): RETAIN sets EXPIRED and checks release (R83); RETRY makes its recipient
READY (R123). -/
def Filing.fireHead (f : Filing) : Filing :=
  match f.clock.deadlines with
  | [] => f
  | e :: es =>
    let f1 : Filing := { f with clock := { f.clock with deadlines := es } }
    match e.kind with
    | .retain => ((f1.setDoc e.slot { f1.doc e.slot with expired := true }).mark (.document e.slot)).checkRelease e.slot
    | .retry k => f1.retryReady e.slot k

/-- The save of the clock (R147). -/
def Filing.saveClock (f : Filing) : Filing :=
  ({ f with clock := { f.clock with saveOwed := false }, mirror := { f.mirror with saved := f.now } } : Filing).mark
    .layoutHeader

/-- The guard's count has reached 0 (R165). -/
def Filing.guardOut (f : Filing) : Bool := match f.mirror.guarded with
  | some g => g.2 == 0
  | none => false

/-- The guard closes (R165). -/
def Filing.closeGuard (f : Filing) : Filing := { f with mirror := { f.mirror with guarded := none } }

/-- The expiry that channel c owes, if any. -/
def Filing.settleChannel (c : Nat) (f : Filing) : Filing :=
  if f.expired .page c then f.stallExpiry c
  else if f.expired .gap c then f.gapExpiry c
  else if f.expired .send c then f.confirmTimeout c
  else f

/-- Fires the due heads of the list, at most `n` of them, and ends the examination. -/
def Filing.settleDeadlines : Nat → Filing → Filing
  | 0, f => { f with clock := { f.clock with examining := false } }
  | n + 1, f =>
    if f.headDue then Filing.settleDeadlines n f.fireHead else { f with clock := { f.clock with examining := false } }

/-- Takes every event that the last tick left owed: the channels' in ascending number, the deadlines in list order, the
clock save, the guard. -/
def Filing.settle (f : Filing) : Filing :=
  let f1 := channelNumbers.foldl (fun f c => f.settleChannel c) f
  let f2 := if f1.clock.examining then Filing.settleDeadlines f1.clock.deadlines.length f1 else f1
  let f3 := if f2.clock.saveOwed then f2.saveClock else f2
  if f3.guardOut then f3.closeGuard else f3

/-- Nothing is owed. -/
def Filing.settled (f : Filing) : Bool :=
  channelNumbers.all (fun c => !(f.expired .page c || f.expired .gap c || f.expired .send c)) &&
    !f.clock.examining && !f.clock.saveOwed && !f.guardOut

/-- The machine with the last tick's events taken. -/
def State.settle (s : State) : State := { s with filing := s.filing.settle }

end Sys2Proof.Machine
end

