-- ==== Sys2Proof/Machine/Requests.lean ====
section
/-! DEFINITION. The twenty requests as their owners execute them (Table 29): from the operand words and the state found at
the execution to the state after, the result code and the result arguments (R194). -/

namespace Sys2Proof.Machine

/-- What an execution answers. -/
structure Done where
  filing : Filing
  code : ResultCode
  args : List Word
  deriving DecidableEq, Repr

/-- A refusal: nothing has changed. -/
def Filing.refuse (f : Filing) (code : ResultCode) (args : List Word := []) : Done :=
  { filing := f, code := code, args := args }

/-- OK with the given arguments. -/
def Filing.answer (f : Filing) (args : List Word) : Done := { filing := f, code := .ok, args := args }

/-- Runs a request on the document that an identifier names, after the checks of R89. -/
def Filing.withDoc (f : Filing) (d : Nat) (k : Nat → Done) : Done :=
  match f.checkId d with
  | .inl (code, args) => f.refuse code args
  | .inr s => k s

/-- A channel number operand lies in 1 to 24. -/
def isChannel (c : Nat) : Bool := decide (1 ≤ c) && decide (c ≤ Config.channelCount)

/-! ## Mailbox Table and Routing Table -/

/-- The operands of SET_MAILBOX that pass its range checks (R64): the mailbox number and the record without usage and OVER.
None where RANGE is due. -/
def mailboxOperands (ops : List Word) : Option (Nat × Mailbox) :=
  let w := operand ops 0
  match classOf (bits w 4 4), operandDefaults ops with
  | some cls, some ds =>
    if bits w 16 8 < Config.mailboxCount ∧ bits w 0 4 < 2 ∧ bits w 24 8 < 16 then
      some (bits w 16 8,
        { shut := bits w 0 4 == 1, quota := min (operandNat ops 1) 65535, usage := 0, overQuota := false,
          group := bits w 24 8, excludes := (operand ops 2).setWidth 16, cls := cls,
          hours := min (operandNat ops 3) Config.maxRetention, strict := bits w 8 1 == 1, defaults := ds })
    else none
  | _, _ => none

/-- SET_MAILBOX (R64). -/
def reqSetMailbox (ops : List Word) (f : Filing) : Done :=
  match mailboxOperands ops with
  | none => f.refuse .range
  | some (m, b) =>
    if m = 0 ∧ b.shut then f.refuse .state
    else
      let old := f.mailbox m
      let f1 := (f.setBox m { b with usage := old.usage, overQuota := old.overQuota }).evalOver m
      let f2 := if old.group ≠ b.group ∨ old.excludes ≠ b.excludes then f1.recheck (fun _ => true) else f1
      let f3 := f2.mark (.mailbox m)
      f3.answer [argNat m, argNat b.quota, argNat (f3.mailbox m).usage, argNat b.hours]

/-- Another entry that holds the same kind and pattern (R71). -/
def Filing.duplicateRoute (e : Nat) (k : MatchKind) (p : List Digit) (f : Filing) : Option Nat :=
  (numbers 0 Config.routeCount).find? (fun x => x != e && match f.route x with
    | some r => r.kind == k && r.pattern == p
    | none => false)

/-- SET_ROUTE (R71). -/
def reqSetRoute (ops : List Word) (f : Filing) : Done :=
  let e := operandNat ops 0
  let m := bits (operand ops 1) 16 8
  match matchKindOf (bits (operand ops 1) 0 8), operandPattern ops with
  | some k, some p =>
    if Config.routeCount ≤ e ∨ Config.mailboxCount ≤ m then f.refuse .range
    else match f.duplicateRoute e k p with
      | some x => f.refuse .duplicate [argNat x]
      | none => ((f.setRoute e (some { kind := k, pattern := p, mailbox := m })).mark (.route e)).answer [argNat e, argNat m]
  | _, _ => f.refuse .range

/-- CLEAR_ROUTE (R72). -/
def reqClearRoute (ops : List Word) (f : Filing) : Done :=
  let e := operandNat ops 0
  if Config.routeCount ≤ e then f.refuse .range
  else ((f.setRoute e none).mark (.route e)).answer [argNat e]

/-! ## Monitor Unit -/

/-- SET_POLICY (R177). -/
def reqSetPolicy (ops : List Word) (f : Filing) : Done :=
  if 1 < operandNat ops 1 then f.refuse .range
  else
    let p : Policy := { floor := min (operandNat ops 0) (f.blockCount - Config.reservedBlocks)
                        lockout := operandNat ops 1 == 1
                        masks := (operand ops 2).setWidth 10 &&& maskableBits
                        retryBase := clamp 10 3600 (operandNat ops 3) }
    let old := f.monitors.policy.floor
    let f1 : Filing := { f with monitors := { f.monitors with policy := p } }
    let f2 := if f1.lowPresent = f.lowPresent then f1 else f1.mark .status
    let f3 := if old < f.freeCount ∧ f.freeCount ≤ p.floor then f2.latchLow else f2
    (f3.mark .policy).answer [argNat p.floor, argNat (flag p.lockout), argNat p.masks.toNat, argNat p.retryBase]

/-! ## Channel Controller -/

/-- SET_CHANNEL_TIMES (R37). -/
def reqSetChannelTimes (ops : List Word) (f : Filing) : Done :=
  let c := operandNat ops 0
  if !isChannel c then f.refuse .range
  else
    let st := clamp 1 120 (operandNat ops 1)
    let gp := clamp 5 300 (operandNat ops 2)
    let cf := clamp 5 120 (operandNat ops 3)
    ((f.setChan c { f.chan c with stallTime := st, gapTime := gp, confirmTime := cf }).mark (.channel c)).answer
      [argNat st, argNat gp, argNat cf]

/-- ABORT_INTAKE (R54). -/
def reqAbortIntake (ops : List Word) (f : Filing) : Done :=
  let c := operandNat ops 0
  if !isChannel c then f.refuse .range
  else
    let ch := f.chan c
    if ch.state = .gap ∨ ch.state = .page then
      (f.endCurrent c .aborted true).answer [argDoc ch.doc]
    else f.refuse .state

/-! ## Directory -/

/-- ACCEPT (R94). -/
def reqAccept (ops : List Word) (f : Filing) : Done :=
  let d := operandNat ops 0
  f.withDoc d (fun s =>
    if (f.doc s).state = .review then
      let f1 := (f.setDoc s { f.doc s with state := .filed }).mark (.document s)
      (f1.makeReady s).answer [argNat d, argNat (f.doc s).pendingPlaces.length]
    else f.refuse .state)

/-- HOLD (R95). -/
def reqHold (ops : List Word) (f : Filing) : Done :=
  f.withDoc (operandNat ops 0) (fun s =>
    if (f.doc s).state = .receiving then f.refuse .state
    else (f.changeDoc s { f.doc s with hold := true }).answer [])

/-- LIFT_HOLD (R95). -/
def reqLiftHold (ops : List Word) (f : Filing) : Done :=
  f.withDoc (operandNat ops 0) (fun s =>
    if (f.doc s).state = .receiving then f.answer []
    else ((f.changeDoc s { f.doc s with hold := false }).checkRelease s).answer [])

/-- RETAIN (R96). -/
def reqRetain (ops : List Word) (f : Filing) : Done :=
  let d := operandNat ops 0
  let hours := min (operandNat ops 1) Config.maxRetention
  f.withDoc d (fun s =>
    if (f.doc s).state = .receiving then f.refuse .state
    else
      let f1 := f.removeRetain s (f.doc s).gen
      let f2 := f1.changeDoc s { f1.doc s with expired := false }
      let f3 := f2.setRetention s hours f.now
      match (f3.doc s).retention with
      | some t => f3.answer [argNat d, t, argNat 1]
      | none => f3.answer [argNat d, 0, 0])

/-- The first condition of R98 that holds a document, by its code of R194; 0 where none does. -/
def Filing.holdingCode (s : Nat) (f : Filing) : Nat :=
  if (f.doc s).hold then 1 else if (f.doc s).anyLive then 2 else if f.bound (f.docId s) then 3 else 0

/-- RELEASE (R97). -/
def reqRelease (ops : List Word) (f : Filing) : Done :=
  let d := operandNat ops 0
  f.withDoc d (fun s =>
    if (f.doc s).state = .receiving then f.refuse .state
    else
      let f1 := (f.removeRetain s (f.doc s).gen).changeDoc s { f.doc s with expired := true }
      (f1.checkRelease s).answer [argNat d, argNat (f1.holdingCode s)])

/-- PURGE (R100). -/
def reqPurge (ops : List Word) (f : Filing) : Done :=
  let d := operandNat ops 0
  f.withDoc d (fun s =>
    if (f.doc s).hold then f.refuse .held
    else if (f.doc s).state = .receiving then f.refuse .state
    else
      let f1 := places.foldl (fun f k => f.cancelRecipient s k .purged) f
      let f2 := f1.breakBindings (fun b => b.doc == d) .purged
      let f3 := ((f2.removeRetain s (f2.doc s).gen).setDoc s { f2.doc s with expired := true }).mark (.document s)
      (f3.releaseDoc false s).answer [argNat d, argNat (f.doc s).blockTotal])

/-- Moves a document's block total from mailbox m to mailbox n (R77): no admission, both records dirty at the change (R66),
then the OVER evaluation for m and for n. R77 names the marks last (DESIGN CHOICE, log entry 60). -/
def Filing.moveUsage (m n b : Nat) (f : Filing) : Filing :=
  let f1 := f.setBox m { f.mailbox m with usage := (f.mailbox m).usage - b }
  let f2 := f1.setBox n { f1.mailbox n with usage := (f1.mailbox n).usage + b }
  (((f2.mark (.mailbox m)).mark (.mailbox n)).evalOver m).evalOver n

/-- REFILE (R101). -/
def reqRefile (ops : List Word) (f : Filing) : Done :=
  let d := operandNat ops 0
  let n := operandNat ops 1
  if Config.mailboxCount ≤ n then f.refuse .range
  else f.withDoc d (fun s =>
    let m := (f.doc s).mailbox
    if (f.mailbox n).shut then f.refuse .state
    else if !f.wallPasses n m then f.refuse .wall
    else
      let f1 := f.changeDoc s { f.doc s with mailbox := n }
      let f2 := f1.moveUsage m n (f.doc s).blockTotal
      (f2.recheck (fun b => b.doc == d)).answer [argNat d, argNat m, argNat n])

/-! ## Forward Scheduler -/

/-- The lowest EMPTY place of a document (R104). -/
def Doc.emptyPlace (d : Doc) : Option Nat := places.find? (fun k => (d.recipient k).state == .empty)

/-- ADD_RECIPIENT (R106). -/
def reqAddRecipient (ops : List Word) (f : Filing) : Done :=
  let d := operandNat ops 0
  match classOf (bits (operand ops 1) 0 8), operandTarget ops 2 (bits (operand ops 1) 8 8) with
  | some cls, some target =>
    f.withDoc d (fun s =>
      match (f.doc s).emptyPlace with
      | none => f.refuse .full
      | some k =>
        let st := if (f.doc s).state = .filed then RecipientState.ready else .pending
        let f1 := f.setRecipient s k (Recipient.fresh st cls target)
        let f2 := if st = .ready then f1.join s k cls else f1
        f2.answer [argNat d, argNat k, argNat st.code])
  | _, _ => f.refuse .range

/-- CANCEL_RECIPIENT (R107). -/
def reqCancelRecipient (ops : List Word) (f : Filing) : Done :=
  let d := operandNat ops 0
  let k := operandNat ops 1
  if 3 < k then f.refuse .range
  else f.withDoc d (fun s =>
    let st := ((f.doc s).recipient k).state
    if st = .empty then f.refuse .noEntry [argNat d, argNat (f.doc s).gen]
    else if st.finished then f.refuse .state
    else ((f.cancelRecipient s k .cancelled).checkRelease s).answer [argNat d, argNat k])

/-- Takes the head of the forward queue for channel c, passing over recipients with no page left, at most `n` heads
(R110). -/
def Filing.takeHead (c : Nat) : Nat → Filing → Done
  | 0, f => f.refuse .empty
  | n + 1, f =>
    match f.queue.all with
    | [] => f.refuse .empty
    | (s, k) :: _ =>
      match f.pageFrom s ((f.doc s).recipient k).nextPage with
      | some p =>
        (f.bindSend c s k p).answer [argNat (f.docId s), argNat k, argNat (f.doc s).pageCount, argNat (f.page p).seq]
      | none => Filing.takeHead c n (f.doneUnsent c s k)

/-- TAKE_FORWARD (R110). -/
def reqTakeForward (ops : List Word) (f : Filing) : Done :=
  let c := operandNat ops 0
  if !isChannel c then f.refuse .range
  else if (f.chan c).state ≠ .idle then f.refuse .state
  else f.takeHead c (f.queue.all.length + 1)

/-- DROP_FORWARD (R125). -/
def reqDropForward (ops : List Word) (f : Filing) : Done :=
  let c := operandNat ops 0
  if !isChannel c then f.refuse .range
  else match (f.chan c).state, (f.chan c).bound with
    | .send, some (s, k) =>
      ((f.endAttempt c (fun r => { r with state := .ready })).join s k ((f.doc s).recipient k).cls).answer
        [argNat c, argNat (f.docId s), argNat k]
    | _, _ => f.refuse .state

/-! ## Review Aperture Unit -/

/-- The CLOSED page of a document with a sequence number (R131). -/
def Filing.closedPage (s seq : Nat) (f : Filing) : Option Nat :=
  (f.docPages s).find? (fun p => (f.page p).seq == seq && (f.page p).state == .closed)

/-- BIND_REVIEW (R131, R132). -/
def reqBindReview (ops : List Word) (f : Filing) : Done :=
  let r := operandNat ops 0
  let d := operandNat ops 1
  let seq := operandNat ops 2
  let v := operandNat ops 3
  if Config.apertureCount ≤ r ∨ seq < 1 ∨ Config.maxPages < seq ∨ Config.mailboxCount ≤ v then f.refuse .range
  else f.withDoc d (fun s =>
    match f.closedPage s seq with
    | none => f.refuse .state
    | some p =>
      if !f.wallPasses v (f.doc s).mailbox then f.refuse .wall
      else
        let f1 := f.setBinding r (some { doc := d, seq := seq, page := p, viewer := v })
        let f2 := match f.binding r with
          | some old => f1.checkReleases [old.doc]
          | none => f1
        let g := f.page p
        f2.answer [packWord [(0, 8, r), (16, 16, seq)], argNat d, argNat g.length,
                   packWord [(0, 8, g.count), (8, 8, g.holes)]])

/-- UNBIND_REVIEW (R133). -/
def reqUnbindReview (ops : List Word) (f : Filing) : Done :=
  let r := operandNat ops 0
  if Config.apertureCount ≤ r then f.refuse .range
  else match f.binding r with
    | some b => ((f.setBinding r none).checkReleases [b.doc]).answer [argNat r]
    | none => f.answer [argNat r]

/-! ## Filing Clock -/

/-- A recipient with its retry due shifted. -/
def Recipient.shift (s : Time) (r : Recipient) : Recipient := { r with retryDue := r.retryDue.map (· + s) }

/-- A document record with its stored due times shifted. -/
def Doc.shift (s : Time) (d : Doc) : Doc :=
  { d with retention := d.retention.map (· + s), recipients := d.recipients.map (fun x => (x.1, x.2.shift s)) }

/-- A document record holds a due time. -/
def Doc.hasDue (d : Doc) : Bool := d.retention.isSome || d.recipients.any (fun x => x.2.retryDue.isSome)

/-- Every stored due time shifted by s, each record changed dirty (R146), in ascending slot (DESIGN CHOICE, log entry 58). -/
def Filing.shiftDues (s : Time) (f : Filing) : Filing :=
  let changed := (f.dir.docs.filter (fun x => x.2.hasDue)).map (fun x => RecordId.document x.1)
  let f1 : Filing :=
    { f with clock := { f.clock with deadlines := f.clock.deadlines.map (fun e => { e with due := e.due + s }) }
             dir := { f.dir with docs := f.dir.docs.map (fun x => (x.1, x.2.shift s)) } }
  if s = 0 then f1 else f1.markAll changed

/-- SET_CLOCK (R146). -/
def reqSetClock (ops : List Word) (f : Filing) : Done :=
  let t : Time := operand ops 0
  let old := f.now
  let f1 := f.shiftDues (t - old)
  let f2 : Filing := { f1 with clock := { f1.clock with now := t, stale := false, saveCount := 0 }
                               mirror := { f1.mirror with saved := t } }
  let f3 := if f.clock.stale then f2.mark .status else f2
  (f3.mark .layoutHeader).answer [old, t]

/-! ## Execution -/

/-- A request is executed by its owner (Table 29). -/
def execute : RequestKind → List Word → Filing → Done
  | .setMailbox => reqSetMailbox
  | .setRoute => reqSetRoute
  | .clearRoute => reqClearRoute
  | .setPolicy => reqSetPolicy
  | .setChannelTimes => reqSetChannelTimes
  | .abortIntake => reqAbortIntake
  | .accept => reqAccept
  | .hold => reqHold
  | .liftHold => reqLiftHold
  | .release => reqRelease
  | .purge => reqPurge
  | .refile => reqRefile
  | .retain => reqRetain
  | .addRecipient => reqAddRecipient
  | .cancelRecipient => reqCancelRecipient
  | .takeForward => reqTakeForward
  | .dropForward => reqDropForward
  | .bindReview => reqBindReview
  | .unbindReview => reqUnbindReview
  | .setClock => reqSetClock

end Sys2Proof.Machine
end

