-- ==== Sys2Proof/Machine/Posting.lean ====
section
/-! DEFINITION. The Posting Unit: word captures (R148), the judgement of a post word (R149), the deferred list (R151,
R159), and the consumer word with the filling that follows it (R154, R158). The entry that returns a slot to IDLE (R150)
is written in Arbiter.lean. -/

namespace Sys2Proof.Machine

/-! ## Word captures -/

/-- The written set bit of a word. -/
def wordBit (i : Nat) : BitVec 15 := BitVec.ofNat 15 (2 ^ i)

/-- A slot after a write to word i (R148). -/
def Slot.captureWord (i : Nat) (full : Bool) (w : Word) (x : Slot) : Slot :=
  match x.state with
  | .taken => x
  | _ =>
    if full then { x with state := .filling, words := Tbl.put x.words i w, written := x.written ||| wordBit i }
    else { x with state := .filling, written := x.written ||| wordBit i, malformed := true }

/-- A master-0 write to word i of slot s drains (R148). -/
def Filing.captureWord (s i : Nat) (full : Bool) (w : Word) (f : Filing) : Filing :=
  f.setSlot s ((f.slot s).captureWord i full w)

/-! ## Judgement -/

/-- The five cases of R149. -/
inductive PostCase where
  | narrow
  | busy
  | malformed
  | unknown
  | taken (k : RequestKind)
  deriving DecidableEq, Repr

/-- The first case of R149 that applies to a post word. -/
def Slot.judge (full : Bool) (w : Word) (x : Slot) : PostCase :=
  if !full then .narrow
  else if x.state = .taken then .busy
  else if x.malformed || x.written != firstWords (postCount w) then .malformed
  else match requestOf (postKind w) with
    | none => .unknown
    | some k => .taken k

/-- The operands a taken request receives: the captured words 0 to w − 1 (R149). -/
def Slot.operands (n : Nat) (x : Slot) : List Word := (numbers 0 n).map (fun i => (Tbl.find x.words i).getD 0)

/-- A slot that holds its request or refusal (R149). -/
def Slot.take (x : Slot) : Slot := { x with state := .taken, written := 0, malformed := false }

/-! ## Results and the deferred list -/

/-- The ring has room and there is no backlog (R151). -/
def Filing.hasRoom (f : Filing) : Bool := !f.ring.isFull && f.ring.pending.isEmpty && f.posting.deferred.isEmpty

/-- Produces a RESULT entry. -/
def Filing.produceResult (s tag : Nat) (code : ResultCode) (args : List Word) (time : Time) (own : Bool) (f : Filing) :
    Filing :=
  f.produce 0 code.code (some (s, tag)) time args own

/-- An item joins the tail of the deferred list. -/
def Filing.defer (d : Deferred) (f : Filing) : Filing :=
  { f with posting := { f.posting with deferred := f.posting.deferred ++ [d] } }

/-- Executes a request of slot s and reports it (R159): the result is produced behind its notices when none of them had
to wait and the ring is not full, else it becomes the head of the deferred list. It carries the time of the execution
(R153). -/
def Filing.runRequest (s tag : Nat) (k : RequestKind) (ops : List Word) (f : Filing) : Filing :=
  let d := execute k ops f
  let g := d.filing
  if g.ring.pending.isEmpty && !g.ring.isFull then g.produceResult s tag d.code d.args g.now true
  else
    { g with posting := { g.posting with deferred := .result s tag d.code d.args g.now :: g.posting.deferred } }

/-- A taken request at its post word's drain (R151). -/
def Filing.takeRequest (s : Nat) (w : Word) (k : RequestKind) (f : Filing) : Filing :=
  let ops := (f.slot s).operands (postCount w)
  let f1 := f.setSlot s (f.slot s).take
  if f1.hasRoom then f1.runRequest s (postTag w) k ops else f1.defer (.request s (postTag w) k ops)

/-- A refusal that the Posting Unit has decided, at its post word's drain (R149, R151). -/
def Filing.refusePost (s : Nat) (w : Word) (code : ResultCode) (args : List Word) (f : Filing) : Filing :=
  let f1 := f.setSlot s (f.slot s).take
  if f1.hasRoom then f1.produceResult s (postTag w) code args f.now true
  else f1.defer (.result s (postTag w) code args f.now)

/-- MALFORMED: the word count and the written set (R149, R194). -/
def Filing.malformedPost (s : Nat) (w : Word) (f : Filing) : Filing :=
  f.refusePost s w .malformed [argNat (postCount w), argNat (f.slot s).written.toNat]

/-- UNKNOWN: the kind as given (R149, R194). -/
def Filing.unknownPost (s : Nat) (w : Word) (f : Filing) : Filing := f.refusePost s w .unknown [argNat (postKind w)]

/-- The deferred list with the BUSY item of slot s replaced in its place (R151). -/
def replaceBusy (s tag : Nat) (time : Time) (ds : List Deferred) : List Deferred :=
  ds.map (fun d => match d with
    | .busy x _ _ => if x = s then .busy s tag time else d
    | _ => d)

/-- The deferred list holds a BUSY item of slot s. -/
def hasBusy (s : Nat) (ds : List Deferred) : Bool :=
  ds.any (fun d => match d with
    | .busy x _ _ => x == s
    | _ => false)

/-- BUSY (R149, R151): not the slot's own result. -/
def Filing.busyPost (s : Nat) (w : Word) (f : Filing) : Filing :=
  if f.hasRoom then f.produceResult s (postTag w) .busy [] f.now false
  else if hasBusy s f.posting.deferred then
    { f with posting := { f.posting with deferred := replaceBusy s (postTag w) f.now f.posting.deferred } }
  else f.defer (.busy s (postTag w) f.now)

/-- A narrow post word (R149): it marks the slot malformed unless the slot is TAKEN. -/
def Filing.narrowPost (s : Nat) (f : Filing) : Filing :=
  let x := f.slot s
  match x.state with
  | .taken => f
  | _ => f.setSlot s { x with state := .filling, malformed := true }

/-! ## Filling and the consumer word -/

/-- Takes the head of the deferred list (R158). -/
def Filing.fillDeferred (f : Filing) : Filing :=
  match f.posting.deferred with
  | [] => f
  | d :: ds =>
    let f1 : Filing := { f with posting := { f.posting with deferred := ds } }
    match d with
    | .request s tag k ops => f1.runRequest s tag k ops
    | .result s tag code args time => f1.produceResult s tag code args time true
    | .busy s tag time => f1.produceResult s tag .busy [] time false

/-- One step of filling: a pending notice, else the head of the deferred list (R158). -/
def Filing.fillOne (f : Filing) : Filing :=
  match f.ring.pending with
  | n :: ns => ({ f with ring := { f.ring with pending := ns } } : Filing).produceNotice n
  | [] => f.fillDeferred

/-- Fills the ring: at most `n` steps, none once it is full. -/
def Filing.fillSteps : Nat → Filing → Filing
  | 0, f => f
  | n + 1, f =>
    if f.ring.isFull || (f.ring.pending.isEmpty && f.posting.deferred.isEmpty) then f
    else Filing.fillSteps n f.fillOne

/-- Fills the ring (R158). Each step produces at least one entry, so 256 steps fill it. -/
def Filing.fill (f : Filing) : Filing := Filing.fillSteps 256 f

/-- The consumer copy after a consumer word of value c (R154). -/
def Ring.consume (c : BitVec 8) (r : Ring) : BitVec 8 := if c - r.consumer ≤ r.unconsumed then c else r.producer

/-- A consumer word of value c drains (R154): the copy moves, its change is dirty, and the freed positions are filled. -/
def Filing.consumerWord (c : BitVec 8) (f : Filing) : Filing :=
  let new := f.ring.consume c
  if new = f.ring.consumer then f
  else (({ f with ring := { f.ring with consumer := new } } : Filing).mark .status).fill

/-- BRESET at the Posting Unit and the Result Writer (R160): slots, deferred list and indices are reset, the consumer word
is owed as 0, and the pending notices are produced. -/
def Filing.resetPosting (f : Filing) : Filing :=
  let f1 : Filing :=
    { f with posting := { slots := [], deferred := [] }
             ring := { f.ring with production := 0, producer := 0, consumer := 0, waiting := [], resetWaits := true } }
  (if f.ring.producer = 0 ∧ f.ring.consumer = 0 then f1 else f1.mark .status).fill

end Sys2Proof.Machine
end

