-- ==== Sys2Proof/Machine/Board.lean ====
section
/-! DEFINITION. The board path: the Zone Decoder's classes and master checks (R2 to R7), the Board Port (R1), the Write
Staging Queue (R9 to R11), and the conditions a held read meets (R12, R13, R163). -/

namespace Sys2Proof.Machine

/-! ## Zone Decoder -/

/-- Z (R2). -/
def Straps.zoneBase (st : Straps) : Nat := st.zone * (64 * Config.mib)
/-- Gt (R2). -/
def Straps.generalTop (st : Straps) : Nat := st.gtop * (16 * Config.mib)
/-- D (R2). -/
def Straps.displaced (st : Straps) : Nat := min (64 * Config.mib) (st.generalTop - st.zoneBase)
/-- W, meant only where D is above 0 (R2). -/
def Straps.window (st : Straps) : Nat := max st.generalTop (st.zoneBase + 64 * Config.mib)

/-- The class of a zone offset (R4). -/
def Straps.classifyZone (st : Straps) (z : Nat) : AddrClass :=
  if z < 0x100000 then .control z
  else if z < 0x800000 then .zoneUnbacked
  else if z < 0x2000000 then
    let c := (z - 0x800000) / 0x100000 + 1
    if c ≤ st.channels then .landing c (z % 0x100000) else .zoneUnbacked
  else if z < 0x3800000 then
    let c := (z - 0x2000000) / 0x100000 + 1
    if c ≤ st.channels then .forward c (z % 0x100000) else .zoneUnbacked
  else .review ((z - 0x3800000) / 0x100000) (z % 0x100000)

/-- The class of a board address (R3, R4). -/
def Straps.classify (st : Straps) (a : Nat) : AddrClass :=
  if st.zoneBase ≤ a ∧ a < st.zoneBase + 64 * Config.mib then st.classifyZone (a - st.zoneBase)
  else if a < st.generalTop then .plain a
  else if 0 < st.displaced ∧ st.window ≤ a ∧ a < st.window + st.displaced then
    .relocated (a - st.window + st.zoneBase)
  else .unbacked

/-- The class of a write or read at a board address. -/
def State.classify (s : State) (addr : Word) : AddrClass := s.board.straps.classify addr.toNat

/-- The general bank address of a class (R3). -/
def AddrClass.general : AddrClass → Option Nat
  | .plain g => some g
  | .relocated g => some g
  | _ => none

/-- The class is an aperture. -/
def AddrClass.isAperture : AddrClass → Bool
  | .landing _ _ => true
  | .forward _ _ => true
  | .review _ _ => true
  | _ => false

/-- The class has master checks (R6). -/
def AddrClass.isZone : AddrClass → Bool
  | .control _ => true
  | c => c.isAperture

/-- First offset of the trailer or confirm slot (R4). -/
def lateSlot : Nat := 1048512
/-- The offset of the call word (R4). -/
def callWordAt : Nat := 1048508
/-- The offset of the trailer word and of the confirm word (R4). -/
def lastWordAt : Nat := 1048572

/-- A zone offset lies in the posting slots. -/
def inSlots (z : Nat) : Bool := decide (Config.slotBase ≤ z) && decide (z < Config.slotBase + 64 * Config.slotCount)

/-- A zone offset lies in the consumer word. -/
def inConsumer (z : Nat) : Bool := decide (Config.consumerBase ≤ z) && decide (z < Config.consumerBase + 4)

/-- Table 6, reads. -/
def AddrClass.readAllowed (m : Nat) : AddrClass → Bool
  | .control _ => decide (m ≤ Config.channelCount)
  | .landing _ _ => false
  | .forward c _ => m == c
  | .review _ _ => m == 0
  | _ => true

/-- Table 6, writes. -/
def AddrClass.writeAllowed (m : Nat) : AddrClass → Bool
  | .control z => (inSlots z || inConsumer z) && m == 0
  | .landing c o => if o < Config.dataAreaBytes then m == c else m == c || m == 0
  | .forward c o => decide (lateSlot ≤ o) && (m == c || m == 0)
  | .review _ _ => false
  | _ => true

/-- The byte of the control window at which byte o of an aperture's slots lies (R8). -/
def recordByte (c o : Nat) : Nat := Config.channelBase + 0x100 * (c - 1) + (o - Config.dataAreaBytes)

/-! ## Board Port -/

/-- The Start-up Controller has halted E2h or E3h (R179). -/
def Phase.halted : Phase → Bool
  | .haltShort => true
  | .haltWrapped => true
  | _ => false

/-- The port takes a transaction offered now: the straps are good, it is idle, and neither PWARN nor BRESET is asserted
(R1, R17). -/
def State.canTake (s : State) : Bool :=
  s.board.port == .idle && !s.board.pwarn && !s.board.breset && s.filing.boot.phase != .off &&
    s.filing.boot.phase != .haltStraps

/-- The port is idle and the board bus shows the data of a served read. -/
def Board.serve (m : BitVec 5) (addr : Word) (w : Width) (bytes : List Byte) (b : Board) : Board :=
  { b with port := .idle, reply := some { master := m, addr := addr, width := w, data := bytesWord (bytes.take w.bytes) } }

/-- Serves a read with every byte the same. -/
def Board.serveAll (m : BitVec 5) (addr : Word) (w : Width) (x : Byte) (b : Board) : Board :=
  b.serve m addr w (List.replicate 4 x)

/-- A write joins the queue's tail (R9). -/
def Board.accept (w : BoardWrite) (b : Board) : Board :=
  { b with queue := b.queue ++ [{ write := w, cls := b.straps.classify w.addr.toNat }] }

/-- The queue has space (R9). -/
def Board.hasSpace (b : Board) : Bool := decide (b.queue.length < Config.queueDepth)

/-! ## Records of the control window (Table 37) -/

/-- Where a control window byte lies in a mirrored record: the record, and whether the byte is in its first or its last
word (R164, R165, R189). -/
structure RecordPlace where
  record : RecordId
  first : Bool
  last : Bool
  deriving DecidableEq, Repr

/-- The place in an area of equal records of `size` bytes from `base` on. -/
def areaPlace (base size count z : Nat) (mk : Nat → RecordId) : Option RecordPlace :=
  if base ≤ z ∧ z < base + size * count then
    let w := (z - base) % size / 4
    some { record := mk ((z - base) / size), first := w == 0, last := w + 1 == size / 4 }
  else none

/-- The mirrored record that a zone offset lies in; `blocks` is N. A page's last word is its close time word (R189). -/
def recordAt (blocks z : Nat) : Option RecordPlace :=
  (areaPlace Config.headerBase 32 1 z (fun _ => .layoutHeader)).or <|
  (areaPlace Config.statusBase 64 1 z (fun _ => .status)).or <|
  (areaPlace Config.channelBase 256 Config.channelCount z (fun i => .channel (i + 1))).or <|
  (areaPlace Config.mailboxBase 64 Config.mailboxCount z .mailbox).or <|
  (areaPlace Config.routeBase 16 Config.routeCount z .route).or <|
  (areaPlace Config.policyBase 64 1 z (fun _ => .policy)).or <|
  (areaPlace Config.docBase 256 Config.docSlots z .document).or <|
  ((areaPlace Config.pageBase 16 Config.pageRecords z .page).map (fun x => { x with last := false })).or <|
  ((areaPlace Config.pageTimeBase 4 Config.pageRecords z .page).map (fun x => { x with first := false })).or <|
  areaPlace Config.blockBase 4 blocks z .block

/-- A zone offset lies in the fault word (R175). -/
def inFaultWord (z : Nat) : Bool := decide (Config.statusBase ≤ z) && decide (z < Config.statusBase + 4)

/-! ## Held reads -/

/-- A staged write still stands in the way of a read (R12, R13). -/
def Board.holds (m : BitVec 5) (cls : AddrClass) (b : Board) : Bool :=
  match cls.general with
  | some g => b.queue.any (fun x => match x.cls.general with
    | some g' => g' / 32 == g / 32
    | none => false)
  | none => b.queue.any (fun x => x.write.master == m)

/-- The block whose write-ahead entry the drained head waits for. -/
def Board.ahead (b : Board) : Option Nat := b.head.bind (·.ahead)

/-- The record is guarded (R164). -/
def Filing.isGuarded (r : RecordId) (f : Filing) : Bool := match f.mirror.guarded with
  | some g => g.1 == r
  | none => false

/-- A read of a dirty record demands its flush: the record moves to the front of the flush list (R163). A layout header whose
rewrite waits joins it there; the rewrite is that flush (log entry 44). -/
def Filing.demand (r : RecordId) (f : Filing) : Filing :=
  if f.dirty r then
    { f with mirror := { f.mirror with flushList := r :: f.mirror.flushList.filter (fun x => decide (x ≠ r)) } }
  else f

/-- A read of record r, its same-master condition met, waits for its flush or for the store bus (R163). A layout header whose
rewrite waits is dirty (log entry 44). -/
def State.readRecord (h : HeldRead) (r : RecordId) (s : State) : State :=
  let waitsAhead : Bool := match s.board.ahead with
    | some n => r == .block n
    | none => false
  if (s.filing.dirty r || waitsAhead) && !s.filing.isGuarded r then
    { s with board := { s.board with port := .readHeld { h with phase := .flush r } }, filing := s.filing.demand r }
  else { s with board := { s.board with port := .readHeld { h with phase := .store } } }

/-- The read waits for the store bus as kind 1. -/
def State.readStore (h : HeldRead) (s : State) : State :=
  { s with board := { s.board with port := .readHeld { h with phase := .store } } }

/-- A forward data read that its owner answers with zero bytes; its service restarts the confirm timer (R114, R116). -/
def State.forwardZero (h : HeldRead) (c : Nat) (s : State) : State :=
  { s with board := s.board.serveAll h.master h.addr h.width 0, filing := s.filing.forwardServed c }

/-- A review data read that its owner answers with zero bytes (R134). -/
def State.reviewZero (h : HeldRead) (s : State) : State :=
  { s with board := s.board.serveAll h.master h.addr h.width 0 }

/-- A zone read after a halt: every byte is FFh, with no store access and no fault (R179; log entry 45). -/
def State.haltedRead (h : HeldRead) (s : State) : Bool := s.filing.boot.phase.halted && h.cls.isZone

/-- The read's ordering condition is met: its owner decides what it waits for next (R12 to R14, R163). -/
def State.decideRead (h : HeldRead) (s : State) : State :=
  if s.haltedRead h then { s with board := s.board.serveAll h.master h.addr h.width 0xFF }
  else match h.cls with
  | .control z =>
    if h.master = 0 ∧ s.filing.running then
      match recordAt s.filing.blockCount z with
      | some p => s.readRecord h p.record
      | none => s.readStore h
    else s.readStore h
  | .forward c o =>
    if o < Config.dataAreaBytes then
      if (s.filing.translateForward c o).isSome then s.readStore h else s.forwardZero h c
    else s.readRecord h (.channel c)
  | .review r o => if (s.filing.translateReview r o).isSome then s.readStore h else s.reviewZero h
  | _ => s.readStore h

/-- Takes a read into READ_HELD; it goes on at once when no staged write holds it (R1, R12, R13). -/
def State.holdRead (h : HeldRead) (s : State) : State :=
  if s.board.holds h.master h.cls then { s with board := { s.board with port := .readHeld { h with phase := .writes } } }
  else s.decideRead h

/-- Lets a held read go on once no staged write holds it any more. -/
def State.recheckRead (s : State) : State :=
  match s.board.port with
  | .readHeld h => if h.phase = .writes ∧ s.board.holds h.master h.cls = false then s.decideRead h else s
  | _ => s

/-- A record has been written: a read that waited for its flush waits for the store bus (R163). -/
def State.wakeRead (r : RecordId) (s : State) : State :=
  match s.board.port with
  | .readHeld h => if h.phase = .flush r then s.readStore h else s
  | _ => s

/-- The head leaves the queue (R10). -/
def State.leaveQueue (s : State) : State :=
  State.recheckRead { s with board := { s.board with queue := s.board.queue.tail, head := none } }

/-! ## Store destinations (Table 7) -/

/-- The store destination that Table 7 fixes for a write other than a landing data write. -/
def AddrClass.dest : AddrClass → Option Dest
  | .plain g => some (.general g)
  | .relocated g => some (.general g)
  | .unbacked => none
  | .zoneUnbacked => none
  | .control z => some (.page z)
  | .landing c o => some (.page (recordByte c o))
  | .forward c o => some (.page (recordByte c o + 128))
  | .review _ _ => none

/-- A write has drained: it waits at the head for its store write, or leaves the queue (R10). -/
def State.drained (dest : Option Dest) (ahead : Option Nat) (s : State) : State :=
  match dest with
  | some d => { s with board := { s.board with head := some { dest := d, ahead := ahead } } }
  | none => s.leaveQueue

end Sys2Proof.Machine
end

