-- ==== Sys2Proof/Machine/Mirror.lean ====
section
/-! DEFINITION. The Mirror Unit: the words of every mirrored record (R189, R190, R192, R195, R196), check words (R166), the
places a flush writes, and what the flush of a record releases (R29, R90, R162, R163). -/

namespace Sys2Proof.Machine

/-! ## Check words -/

/-- The sum of words modulo 2^32. -/
def wordSum (ws : List Word) : Word := ws.foldl (· + ·) 0

/-- The check word over a record's other words (R166). -/
def checkWord (ws : List Word) : Word := 0xFFFFFFFF#32 - wordSum ws

/-- A record whose words sum to FFFFFFFFh (R166). -/
def checkGood (ws : List Word) : Bool := wordSum ws == 0xFFFFFFFF#32

/-- A record of `n` words with its check word last, unused words zero. -/
def sealed (n : Nat) (ws : List Word) : List Word :=
  let body := (ws ++ List.replicate n 0).take (n - 1)
  body ++ [checkWord body]

/-! ## Fields -/

/-- A byte string padded with zeros to n words. -/
def paddedWords (n : Nat) (bs : List Byte) : List Word := bytesWords n ((bs ++ List.replicate (4 * n) 0).take (4 * n))

/-- A digit string as n words of character codes (R190). -/
def digitWords (n : Nat) (ds : List Digit) : List Word := paddedWords n (ds.map digitByte)

/-- A time; none is 0 (R190). -/
def timeWord (t : Option Time) : Word := t.getD 0

/-- A reference that fills a word; none is FFFFFFFFh (R190). -/
def refWord (r : Option Nat) : Word := argDoc r

/-! ## Records -/

/-- The layout header (Table 38). -/
def Filing.headerWords (f : Filing) : List Word :=
  sealed 8 [Config.signature, argNat f.mirror.sizeMiB, argNat (flag f.mirror.clean), f.mirror.saved]

/-- The capture's four words: all zero when it is empty (R192). -/
def captureWords : Option Capture → List Word
  | none => [0, 0, 0, 0]
  | some k => [packWord [(0, 8, k.monitor.code), (8, 8, small k.channel), (16, 8, small k.master), (31, 1, 1)],
               refWord k.doc, k.detail, k.time]

/-- The status record (Table 38). -/
def Filing.statusWords (f : Filing) : List Word :=
  [f.faultWord, f.faultWord] ++ captureWords f.monitors.capture ++
    [argNat f.freeCount, argNat f.scrubCount,
     packWord [(0, 8, f.boot.phase.progress), (8, 1, flag f.clock.stale)],
     packWord [(0, 8, f.ring.producer.toNat), (8, 8, f.ring.consumer.toNat)], argNat f.ring.lost, 0, 0, 0, 0, 0]

/-- Words 32 to 47 of a channel record: the part's own fields (R195). -/
def Channel.words (ch : Channel) : List Word :=
  [refWord ch.info.doc, packWord [(0, 8, ch.info.recipient), (16, 16, ch.info.seq)], argNat ch.info.length,
   argNat ch.info.pages,
   packWord [(0, 8, ch.state.code), (8, 8, small (ch.lastFault.map Monitor.code)), (16, 1, flag ch.lockPending)],
   refWord ch.doc, refWord ch.openPage, refWord ch.mark, argNat ch.stallTime, argNat ch.gapTime, argNat ch.confirmTime,
   0, 0, 0, 0, 0]

/-- The i-th default recipient's digits. -/
def Mailbox.target (b : Mailbox) (i : Nat) : List Digit := b.defaults.getD i []

/-- A mailbox record (Table 43). -/
def Mailbox.words (b : Mailbox) : List Word :=
  sealed 16
    ([packWord [(0, 4, flag b.shut), (4, 4, b.cls.code), (8, 1, flag b.strict), (9, 1, flag b.overQuota), (12, 4, b.group),
                (16, 16, b.excludes.toNat)],
      argNat b.quota, argNat b.usage, argNat b.hours,
      packWord [(0, 8, b.defaults.length), (8, 8, (b.target 0).length), (16, 8, (b.target 1).length)]] ++
      digitWords 5 (b.target 0) ++ digitWords 5 (b.target 1))

/-- The code of a match kind; empty is 0 (Table 43). -/
def MatchKind.code : MatchKind → Nat
  | .exact => 1
  | .leading => 2

/-- A routing record (Table 43). -/
def routeWords : Option Route → List Word
  | none => sealed 4 []
  | some r => sealed 4 [packWord [(0, 8, r.kind.code), (8, 8, r.pattern.length), (16, 8, r.mailbox)],
                        patternWord r.pattern, patternWord (r.pattern.drop 8)]

/-- The policy record (Table 43). -/
def Policy.words (p : Policy) : List Word :=
  sealed 16 [argNat p.floor, argNat (flag p.lockout), argNat p.masks.toNat, argNat p.retryBase]

/-- The ten words of a recipient place (R196). -/
def Recipient.words (r : Recipient) : List Word :=
  [packWord [(0, 8, r.state.code), (8, 8, r.cls.code), (16, 8, r.target.length), (24, 8, r.attempts)],
   packWord [(0, 16, r.nextPage), (16, 8, r.resend), (24, 8, small r.channel)], timeWord r.retryDue] ++
    digitWords 5 r.target ++ [0, 0]

/-- A document record (Table 44). -/
def Doc.words (d : Doc) : List Word :=
  sealed 64
    ([packWord [(0, 8, d.state.code), (8, 8, d.closure.code), (16, 8, d.mailbox), (24, 8, small d.channel)],
      packWord [(0, 8, d.gen), (8, 1, flag d.hold), (9, 1, flag d.expired), (10, 1, flag d.rerouted),
                (11, 1, flag d.damaged), (12, 1, flag d.retention.isSome), (16, 8, d.digits.length),
                (24, 8, d.caller.length)],
      timeWord d.arrival, timeWord d.closed, timeWord d.retention, argNat d.pageCount, refWord d.firstPage,
      argNat d.blockTotal] ++ digitWords 4 d.digits ++ paddedWords 5 d.caller ++ [0, 0, 0] ++
      places.flatMap (fun k => (d.recipient k).words))

/-- A page record's five words: the entry with its check word, and the close time word (R189, R196). -/
def Page.words (g : Page) : List Word :=
  let w0 := packWord [(0, 2, g.state.code), (2, 4, g.flagBits), (6, 8, g.holes), (14, 10, g.seq), (24, 8, g.count)]
  let w1 := packWord [(0, 21, g.length), (21, 10, g.owner)]
  let w2 := packWord [(0, 16, if g.count = 0 then 0 else g.first.getD 0), (16, 14, g.next.getD 0x3FFF)]
  let t := timeWord g.closed
  [w0, w1, w2, checkWord [w0, w1, w2, t], t]

/-- A block table entry's word: the next link is written for LANDING and FILED only (R24, R196). A logical index that is none,
and the next block where there is no link, are written as zero (DESIGN CHOICE, log entry 46). -/
def BlockEntry.word (b : BlockEntry) : Word :=
  let link := if b.state = .landing ∨ b.state = .filed then b.next else none
  packWord [(0, 3, b.state.code), (8, 7, b.index), (15, 1, flag link.isSome), (16, 16, link.getD 0)]

/-- The runs of words that a flush of a record writes, each with its page bank byte (R162, R189). -/
def Filing.segments (r : RecordId) (f : Filing) : List (Nat × List Word) :=
  match r with
  | .layoutHeader => [(Config.headerBase, f.headerWords)]
  | .status => [(Config.statusBase, f.statusWords)]
  | .channel c => [(Config.channelBase + 0x100 * (c - 1) + 128, (f.chan c).words)]
  | .mailbox m => [(Config.mailboxBase + 0x40 * m, (f.mailbox m).words)]
  | .route e => [(Config.routeBase + 0x10 * e, routeWords (f.route e))]
  | .policy => [(Config.policyBase, f.monitors.policy.words)]
  | .document s => [(Config.docBase + 0x100 * s, (f.doc s).words)]
  | .page p => [(Config.pageBase + 0x10 * p, (f.page p).words.take 4), (Config.pageTimeBase + 4 * p, (f.page p).words.drop 4)]
  | .block n => [(Config.blockBase + 4 * n, [(f.block n).word])]

/-- Writes runs of words into the page bank. -/
def Store.writeSegments (segs : List (Nat × List Word)) (st : Store) : Store :=
  { st with page := segs.foldl (fun m x => m.write x.1 (wordsBytes x.2)) st.page }

/-- The record written whole, as it stands (R162). -/
def State.writeRecord (r : RecordId) (s : State) : State :=
  { s with store := s.store.writeSegments (s.filing.segments r) }

/-! ## Flushes -/

/-- The block in which the drained head's store write lands. -/
def Board.headBlock (b : Board) : Option Nat :=
  match b.head with
  | some w => match w.dest with
    | .page a => some (a / Config.blockBytes)
    | .general _ => none
  | none => none

/-- Both conditions of R29 for beginning block n. -/
def State.scrubReady (n : Nat) (s : State) : Bool :=
  !s.filing.dirty (.block n) && s.board.ahead != some n && s.board.headBlock != some n

/-- The Scrub Unit takes the scrub chain's head: SCRUBBING from line 0 where R29 allows it, else WAITING; IDLE on an empty
chain. -/
def State.beginScrub (s : State) : State :=
  { s with filing := { s.filing with scrubber :=
      match s.filing.blocks.scrub with
      | [] => .idle
      | n :: _ => if s.scrubReady n then .scrubbing n 0 else .waiting n } }

/-- A Scrub Unit in WAITING begins once both conditions hold (R29). -/
def State.wakeScrub (s : State) : State :=
  match s.filing.scrubber with
  | .waiting n => if s.scrubReady n then { s with filing := { s.filing with scrubber := .scrubbing n 0 } } else s
  | _ => s

/-- The slots held back by page record p are held back no longer (R90). -/
def Filing.pageFlushed (p : Nat) (f : Filing) : Filing :=
  { f with dir := { f.dir with withheld := f.dir.withheld.filter (fun x => decide (x.2 ≠ p)) } }

/-- A record has been written: it is clean, and what waited for it goes on (R29, R90, R162, R163). -/
def State.recordWritten (r : RecordId) (s : State) : State :=
  let f1 := s.filing.unmark r
  let f2 := match r with
    | .page p => f1.pageFlushed p
    | _ => f1
  (State.wakeRead r { s with filing := f2 }).wakeScrub

/-- A record's flush (R162). -/
def State.flushRecord (r : RecordId) (s : State) : State := (s.writeRecord r).recordWritten r

end Sys2Proof.Machine
end

