-- ==== Sys2Proof/Machine/Arbiter.lean ====
section
/-! DEFINITION. The Store Arbiter: which kinds wait, which is granted (R15), the starvation count (R16), and the unit of
work that each kind carries out. -/

namespace Sys2Proof.Machine

/-- The six kinds of R15. -/
inductive Kind where
  | read
  | ahead
  | head
  | result
  | flush
  | scrub
  deriving DecidableEq, Repr

/-- A kind-5 unit of the running part (R15, R162, R187). -/
inductive FlushUnit where
  /-- The layout header, its clean flag cleared, ahead of every flush. -/
  | rewrite
  /-- The layout header with the clean flag set. -/
  | clean
  /-- A record's flush. -/
  | record (r : RecordId)
  deriving DecidableEq, Repr

/-- A record may be flushed: it is not guarded, and no draining write waits for it as a write-ahead entry (R15, R162). -/
def State.mayFlush (s : State) (r : RecordId) : Bool :=
  !s.filing.isGuarded r && match s.board.ahead with
    | some n => r != .block n
    | none => true

/-- The power-warning drain is complete but for its header write (R187). -/
def State.cleanDue (s : State) : Bool :=
  s.board.pwarn && s.filing.mirror.flushList.isEmpty && s.board.queue.isEmpty && !s.filing.mirror.clean

/-- The kind-5 unit that waits from READY onwards: a header write, else the first record of the flush list that may be
flushed. A demanded record stands at the list's front (R163). -/
def State.flushUnit (s : State) : Option FlushUnit :=
  if s.filing.mirror.rewrite then some .rewrite
  else if s.cleanDue then some .clean
  else (s.filing.mirror.flushList.find? s.mayFlush).map .record

/-- The Start-up Controller has store work of its own (R15, R181). -/
def Phase.startsUp : Phase → Bool
  | .sizing => true
  | .headerCheck => true
  | .formatting => true
  | .formatted => true
  | .walking => true
  | .rebuilding => true
  | .rebuilt => true
  | _ => false

/-- A kind has work waiting for the store bus (R15). -/
def State.waits (s : State) : Kind → Bool
  | .read => match s.board.port with
    | .readHeld h => h.phase == .store
    | _ => false
  | .ahead => s.board.ahead.isSome
  | .head => match s.board.head with
    | some w => w.ahead.isNone
    | none => false
  | .result => s.filing.ring.resetWaits || !s.filing.ring.waiting.isEmpty
  | .flush =>
    if s.filing.running then s.flushUnit.isSome else s.filing.boot.phase.startsUp && !s.board.pwarn
  | .scrub => match s.filing.scrubber with
    | .scrubbing _ _ => true
    | _ => false

/-- Some of the part's own work waits: kinds 4 to 6 (R16). -/
def State.internalWaits (s : State) : Bool := s.waits .result || s.waits .flush || s.waits .scrub

/-- The kinds in the order in which the next grant considers them (R15, R16). -/
def State.order (s : State) : List Kind :=
  if Config.starveLimit ≤ s.board.starve ∧ s.internalWaits then [.result, .flush, .scrub]
  else [.read, .ahead, .head, .result, .flush, .scrub]

/-- The kind that the next grant goes to. -/
def State.nextKind (s : State) : Option Kind := s.order.find? s.waits

/-- Kinds 1 to 3. -/
def Kind.isBoard : Kind → Bool
  | .read => true
  | .ahead => true
  | .head => true
  | _ => false

/-- The starvation count after a grant (R16). -/
def State.starveAfter (s : State) (k : Kind) : Nat :=
  if k.isBoard && s.internalWaits then s.board.starve + 1 else 0

/-- The bookkeeping of a grant. -/
def State.granted (k : Kind) (s : State) : State := { s with board := { s.board with starve := s.starveAfter k } }

/-- The fitted page bank holds the bytes from a on, n of them. -/
def Store.has (st : Store) (a n : Nat) : Bool := decide (a + n ≤ st.bankMiB * Config.mib)

/-! ## Kind 1 -/

/-- The bytes a read returns, those at or beyond the length as zero (R115, R135). -/
def cutBytes (o length : Nat) (bs : List Byte) : List Byte :=
  bs.zipIdx.map (fun x => if length ≤ o + x.2 then 0 else x.1)

/-- What the store access of a held read finds at its grant (R14). -/
inductive Access where
  /-- The general bank. -/
  | general (a : Nat)
  /-- The control window. -/
  | window (z : Nat)
  /-- A page's block, at aperture offset o of the page's length. -/
  | data (t : Translation) (o : Nat)
  /-- No block: zero bytes, the grant given back unused. -/
  | unused
  /-- A zone read in hand at a halt: all ones, the grant given back unused (R179). -/
  | ones
  deriving DecidableEq, Repr

/-- The access of a data area read. -/
def dataAccess (t : Option Translation) (o : Nat) : Access := match t with
  | some x => .data x o
  | none => .unused

/-- The access of a held read, fixed at its grant (R14). -/
def State.access (h : HeldRead) (s : State) : Access :=
  if s.haltedRead h then .ones
  else match h.cls with
  | .plain g => .general g
  | .relocated g => .general g
  | .control z => .window z
  | .forward c o => if o < Config.dataAreaBytes then dataAccess (s.filing.grantForward c o) o
    else .window (recordByte c o + 128)
  | .review r o => dataAccess (s.filing.grantReview r o) o
  | _ => .unused

/-- The page bank byte of an access. -/
def Access.byte : Access → Option Nat
  | .window z => some z
  | .data t o => some (t.block * Config.blockBytes + o % Config.blockBytes)
  | _ => none

/-- The bytes that a store access returns, before any cut: those of the error report where there is one. -/
def State.accessBytes (err : Option Word) (w : Width) (x : Access) (s : State) : List Byte :=
  match err, x with
  | _, .unused => List.replicate w.bytes 0
  | _, .ones => List.replicate w.bytes 0xFF
  | some d, _ => (wordBytes d).take w.bytes
  | none, .general a => s.store.general.readBytes a w.bytes
  | none, .window z => s.store.page.readBytes z w.bytes
  | none, .data t o => s.store.page.readBytes (t.block * Config.blockBytes + o % Config.blockBytes) w.bytes

/-- The bytes served (R14, R115, R135). -/
def Access.served (x : Access) (bs : List Byte) : List Byte := match x with
  | .data t o => cutBytes o t.length bs
  | _ => bs

/-- A data error is handed to the owner of the address read (R14, R86, R172). -/
def Filing.readError (h : HeldRead) (x : Access) (f : Filing) : Filing :=
  match x, h.cls with
  | .window _, _ => f.latch { monitor := .parity, channel := none, master := some h.master.toNat, doc := none,
                              detail := 0xFFFFFFFF#32 }
  | .data t _, .forward c _ => f.parityOnPage (some c) none t.page
  | .data t _, _ => f.parityOnPage none (some 0) t.page
  | _, _ => f

/-- The guard at the service of a master-0 read of a mirrored record (R164, R165): word 0 of a document, page, mailbox or
channel record opens or reloads it, the guarded record's last word closes it. -/
def Filing.guardServed (p : RecordPlace) (f : Filing) : Filing :=
  let guardable : Bool := match p.record with
    | .document _ => true
    | .page _ => true
    | .mailbox _ => true
    | .channel _ => true
    | _ => false
  if p.first && guardable then { f with mirror := { f.mirror with guarded := some (p.record, 2) } }
  else if p.last && f.isGuarded p.record then f.closeGuard
  else f

/-- What the service of a read brings about (R14, R116, R164, R165, R175). A read taken before READY and served after it acts on
the guard, and clears what it noted, which is nothing (DEDUCED, log entry 54). -/
def Filing.readServed (h : HeldRead) (f : Filing) : Filing :=
  match h.cls with
  | .control z =>
    if h.master = 0 ∧ f.running then
      match h.noted with
      | some n => (f.clearLatches n.1 n.2).unlockAll
      | none => match recordAt f.blockCount z with
        | some p => f.guardServed p
        | none => f
    else f
  | .forward c _ => f.forwardServed c
  | _ => f

/-- The held read is carried out and served (R14). A data error is handed to its owner ahead of what the service brings about,
the fault word's clearing too (DESIGN CHOICE, log entry 64). -/
def State.serveRead (h : HeldRead) (err : Option Word) (s : State) : State :=
  let x := s.access h
  let bytes := x.served (s.accessBytes err h.width x)
  let f1 := if err.isSome then s.filing.readError h x else s.filing
  { s with board := s.board.serve h.master h.addr h.width bytes, filing := f1.readServed h }

/-! ## Kinds 2 to 4 -/

/-- The write-ahead entry of block n is written as it stands (R23). -/
def State.writeAhead (n : Nat) (s : State) : State :=
  let s1 := s.writeRecord (.block n)
  let s2 : State :=
    { s1 with board := { s1.board with head := s1.board.head.map (fun w => { w with ahead := none }) } }
  s2.recordWritten (.block n)

/-- The head's store write is carried out and the head leaves the queue (R10). -/
def State.storeHead (w : HeadWork) (bs : List Byte) (s : State) : State :=
  let st := match w.dest with
    | .general a => { s.store with general := s.store.general.write a bs }
    | .page a => { s.store with page := s.store.page.write a bs }
  (State.leaveQueue { s with store := st }).wakeScrub

/-- The consumer word is written 0 (R160). -/
def State.writeConsumerZero (s : State) : State :=
  { s with store := s.store.writeSegments [(Config.consumerBase, [0])]
           filing := { s.filing with ring := { s.filing.ring with resetWaits := false } } }

/-- The slot of an own result returns to IDLE (R150). -/
def Filing.slotDone (e : Entry) (f : Filing) : Filing :=
  match e.own, e.slot with
  | true, some (x, _) => f.setSlot x { f.slot x with state := .idle }
  | _, _ => f

/-- A produced entry is written: the producer index advances past it, the status record is dirty (R152). -/
def State.writeEntry (e : Entry) (rest : List Entry) (s : State) : State :=
  let f1 : Filing := { s.filing with ring := { s.filing.ring with waiting := rest, producer := e.pos + 1 } }
  { s with store := s.store.writeSegments [(Config.ringBase + 0x20 * e.pos.toNat, e.words)]
           filing := (f1.slotDone e).mark .status }

/-! ## Kind 5 -/

/-- The layout header is written with its clean flag clear (R187). -/
def State.rewriteHeader (s : State) : State :=
  State.flushRecord .layoutHeader
    { s with filing := { s.filing with mirror := { s.filing.mirror with clean := false, rewrite := false } } }

/-- The layout header is written with the clean flag set and T as the saved clock (R187). -/
def State.cleanHeader (s : State) : State :=
  State.flushRecord .layoutHeader
    { s with filing := { s.filing with mirror := { s.filing.mirror with clean := true, saved := s.filing.now } } }

/-! ## Kind 6 -/

/-- Line i of block n is zeroed (R30). -/
def State.scrubLine (n i : Nat) (s : State) : State :=
  let s1 : State :=
    { s with store := { s.store with page := s.store.page.write (n * Config.blockBytes + 32 * i) (List.replicate 32 0) } }
  if i + 1 < Config.linesPerBlock then
    { s1 with filing := { s1.filing with scrubber := .scrubbing n (i + 1) } }
  else State.beginScrub { s1 with filing := s1.filing.scrubComplete n }

end Sys2Proof.Machine
end

