-- ==== Sys2Proof/Machine/Restore.lean ====
section
/-! DEFINITION. Reading mirrored records back at recovery (R184): the check word test, the judgement of every code and value
against the tables of 12_control_window_layouts.md, and the restored record. `none` is a torn record. Fields that recovery
recounts are not judged: U, OVER, page count, block total. -/

namespace Sys2Proof.Machine

/-- Word i of a record. -/
def wordAt (ws : List Word) (i : Nat) : Word := ws.getD i 0

/-- Words i to i + n − 1 of a record as bytes. -/
def bytesAt (ws : List Word) (i n : Nat) : List Byte := wordsBytes ((numbers i n).map (wordAt ws))

/-- A digit string of a stated length in n words from word i on; none where a position is no digit or the length is above
the field (R190). -/
def digitsAt (ws : List Word) (i n len : Nat) : Option (List Digit) :=
  if 4 * n < len then none else allDigits ((bytesAt ws i n).take len)

/-- A reference of the given bits: all ones is none, a value at or above the limit is outside (R190). -/
def refOf (ones limit v : Nat) : Option (Option Nat) :=
  if v = ones then some none else if v < limit then some (some v) else none

/-- A small channel field: 1 to 24, or FFh for none (R190). -/
def channelOf (v : Nat) : Option (Option Nat) :=
  if v = 0xFF then some none else if 1 ≤ v ∧ v ≤ Config.channelCount then some (some v) else none

/-! ## Codes -/

/-- Document states (Table 44). -/
def docStateOf : Nat → Option DocState
  | 0 => some .free
  | 1 => some .receiving
  | 2 => some .filed
  | 3 => some .review
  | _ => none

/-- Closures (Table 40). -/
def closureOf : Nat → Option Closure
  | 0 => some .opened
  | 1 => some .lastPage
  | 2 => some .callEnded
  | 3 => some .stalled
  | 4 => some .gapExpired
  | 5 => some .aborted
  | 6 => some .refused
  | 7 => some .recovered
  | _ => none

/-- Recipient states (R196). -/
def recipientStateOf : Nat → Option RecipientState
  | 0 => some .empty
  | 1 => some .pending
  | 2 => some .ready
  | 3 => some .active
  | 4 => some .retryWait
  | 5 => some .done
  | 6 => some .failed
  | 7 => some .cancelled
  | _ => none

/-- Page states (R196). -/
def pageStateOf : Nat → Option PageState
  | 0 => some .free
  | 1 => some .landing
  | 2 => some .closed
  | _ => none

/-- Block states; the invalid codes 5 to 7 are treated as RESERVED is (R185, R196). -/
def blockStateOf : Nat → BlockState
  | 1 => .free
  | 2 => .scrub
  | 3 => .landing
  | 4 => .filed
  | _ => .reserved

/-! ## Records -/

/-- A mailbox record (Table 43, R62). Lengths and digits of default recipients beyond its count are not judged (DESIGN
CHOICE, log entry 68). -/
def restoreMailbox (ws : List Word) : Option Mailbox :=
  let w := wordAt ws 0
  let v := wordAt ws 4
  let count := bits v 0 8
  let target (i len : Nat) : Option (List Digit) := if len = 0 then none else digitsAt ws (5 + 5 * i) 5 len
  let defaults : Option (List (List Digit)) :=
    match count with
    | 0 => some []
    | 1 => (target 0 (bits v 8 8)).map (fun t => [t])
    | 2 => match target 0 (bits v 8 8), target 1 (bits v 16 8) with
      | some t, some u => some [t, u]
      | _, _ => none
    | _ => none
  match classOf (bits w 4 4), defaults with
  | some cls, some ds =>
    if checkGood ws && decide (bits w 0 4 < 2) && decide ((wordAt ws 1).toNat ≤ 65535) &&
        decide ((wordAt ws 3).toNat ≤ Config.maxRetention) then
      some { shut := bits w 0 4 == 1, quota := (wordAt ws 1).toNat, usage := (wordAt ws 2).toNat,
             overQuota := bits w 9 1 == 1, group := bits w 12 4, excludes := BitVec.ofNat 16 (bits w 16 16), cls := cls,
             hours := (wordAt ws 3).toNat, strict := bits w 8 1 == 1, defaults := ds }
    else none
  | _, _ => none

/-- A routing record (Table 43, R70): `some none` is an empty entry, whatever pattern length, pattern and mailbox it shows
(DESIGN CHOICE, log entry 68). -/
def restoreRoute (ws : List Word) : Option (Option Route) :=
  let w := wordAt ws 0
  let len := bits w 8 8
  let full (k : MatchKind) : Option (Option Route) :=
    if len = 0 ∨ 16 < len ∨ Config.mailboxCount ≤ bits w 16 8 then none
    else (codesDigits ((nibbles (wordAt ws 1) (wordAt ws 2)).take len)).map
      (fun p => some { kind := k, pattern := p, mailbox := bits w 16 8 })
  if !checkGood ws then none
  else match bits w 0 8 with
    | 0 => some none
    | 1 => full .exact
    | 2 => full .leading
    | _ => none

/-- The policy record (Table 43, R177); a floor above N − 128 is clamped, not judged (R184). -/
def restorePolicy (blocks : Nat) (ws : List Word) : Option Policy :=
  let masks : BitVec 10 := (wordAt ws 2).setWidth 10
  if checkGood ws && decide ((wordAt ws 1).toNat < 2) && decide ((wordAt ws 2) = (masks &&& maskableBits).setWidth 32) &&
      decide (10 ≤ (wordAt ws 3).toNat) && decide ((wordAt ws 3).toNat ≤ 3600) then
    some { floor := min (wordAt ws 0).toNat (blocks - Config.reservedBlocks), lockout := wordAt ws 1 == 1, masks := masks,
           retryBase := (wordAt ws 3).toNat }
  else none

/-- A recipient place (R104, R196). In RETRY_WAIT a retry due word of 0 is the due time 0 (DEDUCED, log entry 50); in
other states the word is not judged (DESIGN CHOICE, log entry 68). -/
def restoreRecipient (ws : List Word) (i : Nat) : Option Recipient :=
  let w := wordAt ws i
  let v := wordAt ws (i + 1)
  match recipientStateOf (bits w 0 8), classOf (bits w 8 8), digitsAt ws (i + 3) 5 (bits w 16 8), channelOf (bits v 24 8)
    with
  | some st, some cls, some target, some chan =>
    if decide (bits w 24 8 ≤ Config.maxAttempts) && decide (bits v 0 16 ≤ Config.maxPages) && decide (bits v 16 8 ≤ 3) &&
        (st == .empty || (decide (0 < bits w 16 8) && decide (0 < bits v 0 16))) then
      some (if st = .empty then Recipient.vacant
        else { state := st, cls := cls, target := target, attempts := bits w 24 8, nextPage := bits v 0 16,
               resend := bits v 16 8, retryDue := if st = .retryWait then some (wordAt ws (i + 2)) else none,
               channel := chan })
    else none
  | _, _, _, _ => none

/-- A document record (Table 44, R80). Fields without a meaning in its state are judged as log entries 29 and 68 say. -/
def restoreDoc (ws : List Word) : Option Doc :=
  let w := wordAt ws 0
  let v := wordAt ws 1
  match docStateOf (bits w 0 8), closureOf (bits w 8 8), channelOf (bits w 24 8),
      refOf 0xFFFFFFFF Config.pageRecords (wordAt ws 6).toNat, digitsAt ws 8 4 (bits v 16 8) with
  | some st, some cl, some chan, some first, some digits =>
    match restoreRecipient ws 20, restoreRecipient ws 30, restoreRecipient ws 40, restoreRecipient ws 50 with
    | some r0, some r1, some r2, some r3 =>
      if checkGood ws && decide (bits w 16 8 < Config.mailboxCount) && decide (bits v 0 8 < 64) &&
          decide (bits v 24 8 ≤ 20) && (st == .free || chan.isSome) then
        some (if st = .free then Doc.freed (bits v 0 8)
          else { state := st, closure := cl, gen := bits v 0 8, mailbox := bits w 16 8, channel := chan,
                 arrival := some (wordAt ws 2),
                 closed := if st = .receiving then none else some (wordAt ws 3),
                 retention := if bits v 12 1 = 1 then some (wordAt ws 4) else none,
                 hold := bits v 8 1 == 1, expired := bits v 9 1 == 1, rerouted := bits v 10 1 == 1,
                 damaged := bits v 11 1 == 1, pageCount := (wordAt ws 5).toNat, firstPage := first,
                 blockTotal := (wordAt ws 7).toNat, digits := digits,
                 caller := (bytesAt ws 12 5).take (bits v 24 8),
                 recipients := ([(0, r0), (1, r1), (2, r2), (3, r3)] : Tbl Recipient).filter
                   (fun x => x.2.state != .empty) })
      else none
    | _, _, _, _ => none
  | _, _, _, _, _ => none

/-- The generation that a torn document record leaves its slot: the one it shows modulo 64, advanced by one (R184). -/
def tornGeneration (ws : List Word) : Nat := (bits (wordAt ws 1) 0 8 % 64 + 1) % 64

/-- A page record's five words (R85, R196): entry, then close time word. Fields without a meaning in its state are judged as
log entries 29 and 68 say. -/
def restorePage (ws : List Word) : Option Page :=
  let w := wordAt ws 0
  let v := wordAt ws 1
  let x := wordAt ws 2
  let len := bits v 0 21
  match pageStateOf (bits w 0 2), refOf 0x3FFF Config.pageRecords (bits x 16 14) with
  | some st, some next =>
    let lengthOk : Bool := match st with
      | .free => decide (len ≤ Config.dataAreaBytes)
      | .landing => len == 0
      | .closed => decide (1 ≤ len) && decide (len ≤ Config.dataAreaBytes)
    if checkGood ws && decide (bits w 6 8 ≤ Config.pageIndices) && decide (bits w 24 8 ≤ Config.pageIndices) &&
        decide (bits w 14 10 ≤ Config.maxPages) && (st == .free || decide (1 ≤ bits w 14 10)) && lengthOk then
      some (if st = .free then Page.freed
        else { state := st, owner := bits v 21 10, seq := bits w 14 10, length := len,
               first := if bits w 24 8 = 0 then none else some (bits x 0 16), count := bits w 24 8, holes := bits w 6 8,
               truncated := bits w 2 1 == 1, estimated := bits w 3 1 == 1, short := bits w 4 1 == 1,
               parity := bits w 5 1 == 1, closed := if st = .closed then some (wordAt ws 4) else none, next := next })
    else none
  | _, _ => none

/-- A block table entry's word (R196). -/
def restoreBlock (w : Word) : BlockEntry :=
  { state := blockStateOf (bits w 0 3), index := bits w 8 7, next := if bits w 15 1 = 1 then some (bits w 16 16) else none }

/-- The channel that a channel record's words 32 to 47 leave at recovery: IDLE, its timer settings clamped to their ranges
(R37, R185). -/
def restoreChannel (ws : List Word) : Channel :=
  { Channel.fresh with stallTime := clamp 1 120 (wordAt ws 8).toNat, gapTime := clamp 5 300 (wordAt ws 9).toNat,
                       confirmTime := clamp 5 120 (wordAt ws 10).toNat }

end Sys2Proof.Machine
end

