-- ==== Sys2Proof/Machine/Startup.lean ====
section
/-! DEFINITION. The Start-up Controller: sizing (R180), the layout header (R182), fresh format (R183), recovery walk (R184),
rebuild (R185) and READY (R186). -/

namespace Sys2Proof.Machine

/-! ## Sizing (R180) -/

/-- What a probe finds. -/
inductive Probe where
  | pass
  | plain
  | aliased
  deriving DecidableEq, Repr

/-- The probe at boundary b of the fitted bank: a boundary that the bank's wiring wraps onto offset 0 fails as an alias; one
past the bank's bytes reads back nothing, and it and a data error fail plainly. The probe puts back every word it wrote,
so it leaves the bank as it was. -/
def Store.probe (b : Nat) (dataError : Bool) (st : Store) : Probe :=
  if 0 < st.wrapMiB ∧ b % st.wrapMiB = 0 then .aliased
  else if dataError ∨ st.bankMiB ≤ b then .plain
  else .pass

/-- The greatest boundary that is probed. -/
def lastBoundary : Nat := 511

/-- Sizing ends with a size in MiB: N is fixed, or the controller halts (R179, R180). The code of step 03h is a change of the
status record. -/
def Filing.sized (mib : Nat) (stopped : Probe) (f : Filing) : Filing :=
  if 8 ≤ mib then
    ({ f with boot := { f.boot with phase := .headerCheck, sizeMiB := mib } } : Filing).mark .status
  else { f with boot := { f.boot with phase := if stopped = .aliased then .haltWrapped else .haltShort } }

/-- One probe (R180); the first also reads the reference. -/
def State.sizingProbe (dataError : Bool) (s : State) : State :=
  let b := s.filing.boot.boundary
  let f : Filing :=
    { s.filing with boot := { s.filing.boot with reference := s.filing.boot.reference.or (some (s.store.page.readWord 0)) } }
  { s with filing :=
      match s.store.probe b dataError with
      | .pass => if b < lastBoundary then { f with boot := { f.boot with boundary := b + 1 } } else f.sized (b + 1) .pass
      | x => f.sized b x }

/-! ## TORN (R172) -/

/-- The area code and number of a record (Table 41). The policy record and the layout header, which have no number, show 0
(DESIGN CHOICE, log entry 70). -/
def tornArea : RecordId → Nat × Nat
  | .document s => (0, s)
  | .page p => (1, p)
  | .mailbox m => (2, m)
  | .route e => (3, e)
  | .policy => (4, 0)
  | _ => (5, 0)

/-- A torn record latches TORN (R172). -/
def Filing.latchTorn (r : RecordId) (doc : Option Nat) (f : Filing) : Filing :=
  ({ f with boot := { f.boot with tornCount := f.boot.tornCount + 1 } } : Filing).latch
    { monitor := .torn, channel := none, master := none, doc := doc,
      detail := packWord [(0, 16, (tornArea r).2), (24, 8, (tornArea r).1)] }

/-! ## Layout header (R182) -/

/-- The three classes of a layout header. -/
inductive HeaderClass where
  | invalid
  | valid
  | torn
  deriving DecidableEq, Repr

/-- The class of the header's eight words. -/
def headerClass (dataError : Bool) (ws : List Word) : HeaderClass :=
  if dataError then .torn
  else if wordAt ws 0 ≠ Config.signature then .invalid
  else if checkGood ws ∧ 8 ≤ (wordAt ws 1).toNat ∧ (wordAt ws 1).toNat ≤ 512 then .valid
  else .torn

/-- The filing blocks once the header is classified. -/
def Filing.headerFound (cls : HeaderClass) (ws : List Word) (f : Filing) : Filing :=
  let take (size : Nat) (clean torn : Bool) (saved : Time) : Filing :=
    { f with boot := { f.boot with phase := .walking, recordedMiB := size, cleanFound := clean, tornHeader := torn }
             clock := { f.clock with now := saved }
             mirror := { f.mirror with sizeMiB := size, clean := false, saved := saved } }
  match cls with
  | .invalid => { f with boot := { f.boot with phase := .formatting } }
  | .valid => (take (wordAt ws 1).toNat (wordAt ws 2 == 1) false (wordAt ws 3)).mark .status
  | .torn => ((take f.boot.sizeMiB false true 0).latchTorn .layoutHeader none).mark .status

/-- The header check: before recovery writes anything else, the header is written with its clean flag clear (R182). -/
def State.headerCheck (dataError : Bool) (s : State) : State :=
  let ws := s.store.page.readWords Config.headerBase 8
  let cls := headerClass dataError ws
  let s1 : State := { s with filing := s.filing.headerFound cls ws }
  if cls = .invalid then s1 else s1.writeRecord .layoutHeader

/-! ## Writing every mirror -/

/-- The records of every table, area by area, in the order of R183; the status record and the layout header follow. -/
def Filing.tableSegments (f : Filing) : List (Nat × List Word) :=
  [(Config.mailboxBase, (numbers 0 Config.mailboxCount).flatMap (fun m => (f.mailbox m).words)),
   (Config.routeBase, (numbers 0 Config.routeCount).flatMap (fun e => routeWords (f.route e))),
   (Config.policyBase, f.monitors.policy.words),
   (Config.docBase, (numbers 0 Config.docSlots).flatMap (fun s => (f.doc s).words)),
   (Config.pageBase, (numbers 0 Config.pageRecords).flatMap (fun p => (f.page p).words.take 4)),
   (Config.pageTimeBase, (numbers 0 Config.pageRecords).flatMap (fun p => (f.page p).words.drop 4))] ++
  channelNumbers.flatMap (fun c => f.segments (.channel c)) ++
  [(Config.blockBase, (numbers 0 f.blockCount).map (fun n => (f.block n).word))]

/-! ## Fresh format (R183) -/

/-- The blocks that are not RESERVED (R18). -/
def usableBlocks (blocks : Nat) : List Nat := numbers Config.reservedBlocks (blocks - Config.reservedBlocks)

/-- A block on the scrub chain. -/
def BlockEntry.scrubbed : BlockEntry := { state := .scrub, index := 0, next := none }
/-- A block on the free chain. -/
def BlockEntry.freed : BlockEntry := { state := .free, index := 0, next := none }

/-- Every table empty (R183). -/
def Filing.formatTables (f : Filing) : Filing :=
  { f with
    boot := { f.boot with phase := .formatted, recordedMiB := f.boot.sizeMiB }
    clock := { f.clock with now := 0, deadlines := [] }
    blocks := { entries := (usableBlocks f.blockCount).map (fun n => (n, BlockEntry.scrubbed)), free := [],
                scrub := usableBlocks f.blockCount }
    dir := { docs := [], pages := [], freePages := numbers 0 Config.pageRecords, withheld := [] }
    channels := []
    boxes := { mailboxes := [], routes := [] }
    queue := { urgent := [], normal := [], bulk := [] }
    mirror := { f.mirror with sizeMiB := f.boot.sizeMiB, clean := false, saved := 0 }
    monitors := { f.monitors with policy := Policy.fresh } }

/-- The fresh format: every table empty, every mirror written, the layout header last (R183). -/
def State.freshFormat (s : State) : State :=
  let f := s.filing.formatTables
  { s with filing := f
           store := s.store.writeSegments (f.tableSegments ++ f.segments .status ++ f.segments .layoutHeader) }

/-! ## Recovery walk: check words (R184) -/

/-- The words of a record as the store bus returns them; none on a data error. -/
def Store.recordWords (st : Store) (errs : List RecordId) (r : RecordId) (a n : Nat) : Option (List Word) :=
  if r ∈ errs then none else some (st.page.readWords a n)

/-- The words of document record s. -/
def Store.docWords (st : Store) (s : Nat) : List Word := st.page.readWords (Config.docBase + 0x100 * s) 64

/-- The five words of page record p. -/
def Store.pageWords (st : Store) (p : Nat) : List Word :=
  st.page.readWords (Config.pageBase + 0x10 * p) 4 ++ st.page.readWords (Config.pageTimeBase + 4 * p) 1

/-- The identifier that a document record shows. -/
def Store.shownId (st : Store) (s : Nat) : Nat := s * 64 + bits (wordAt (st.docWords s) 1) 0 8 % 64

/-- Document record s is restored, or its slot becomes FREE with the next generation (R184). A record read with a data error
shows the generation that the bank holds (DESIGN CHOICE, log entry 61). -/
def Filing.restoreDocAt (errs : List RecordId) (st : Store) (s : Nat) (f : Filing) : Filing :=
  match (st.recordWords errs (.document s) (Config.docBase + 0x100 * s) 64).bind restoreDoc with
  | some d => f.setDoc s d
  | none => (f.setDoc s (Doc.freed (tornGeneration (st.docWords s)))).latchTorn (.document s) (some (st.shownId s))

/-- Page record p is restored, or becomes FREE (R184). A record read with a data error shows the owner slot that the bank holds
(DESIGN CHOICE, log entry 61). -/
def Filing.restorePageAt (errs : List RecordId) (st : Store) (p : Nat) (f : Filing) : Filing :=
  let ws := st.pageWords p
  match (if RecordId.page p ∈ errs then none else restorePage ws) with
  | some g => if g.state = .free then f else f.setPage p g
  | none => f.latchTorn (.page p) (some (st.shownId (bits (wordAt ws 1) 21 10)))

/-- Mailbox record m is restored, or takes its fresh-format values; mailbox 0 is never CLOSED (R79). -/
def Filing.restoreMailboxAt (errs : List RecordId) (st : Store) (m : Nat) (f : Filing) : Filing :=
  match (st.recordWords errs (.mailbox m) (Config.mailboxBase + 0x40 * m) 16).bind restoreMailbox with
  | some b => f.setBox m { b with shut := b.shut && m != 0 }
  | none => f.latchTorn (.mailbox m) none

/-- Routing entry e is restored, or is empty; of two entries with one kind and pattern the lower is kept, and the other's
record is dirty (R79). -/
def Filing.restoreRouteAt (errs : List RecordId) (st : Store) (e : Nat) (f : Filing) : Filing :=
  match (st.recordWords errs (.route e) (Config.routeBase + 0x10 * e) 4).bind restoreRoute with
  | some (some r) => if (f.duplicateRoute e r.kind r.pattern).isSome then f.mark (.route e) else f.setRoute e (some r)
  | some none => f
  | none => f.latchTorn (.route e) none

/-- The policy record is restored, or takes its fresh-format values (R178). -/
def Filing.restorePolicyAt (errs : List RecordId) (st : Store) (f : Filing) : Filing :=
  match (st.recordWords errs .policy Config.policyBase 16).bind (restorePolicy f.blockCount) with
  | some p => { f with monitors := { f.monitors with policy := p } }
  | none => ({ f with monitors := { f.monitors with policy := Policy.fresh } } : Filing).latchTorn .policy none

/-- Channel c takes its timer settings from its record, or the defaults (R184, R185). -/
def Filing.restoreChannelAt (errs : List RecordId) (st : Store) (c : Nat) (f : Filing) : Filing :=
  match st.recordWords errs (.channel c) (Config.channelBase + 0x100 * (c - 1) + 128) 16 with
  | some ws => f.setChan c (restoreChannel ws)
  | none => f.setChan c Channel.fresh

/-- Tables with nothing restored: every record reads as a fresh format leaves it (R62, R70, R103). -/
def Filing.emptyTables (f : Filing) : Filing :=
  { f with dir := { f.dir with docs := [], pages := [] }, boxes := { mailboxes := [], routes := [] } }

/-- Every record with a check word is tested and restored, and every channel record read (R184). -/
def Filing.restoreRecords (errs : List RecordId) (st : Store) (f : Filing) : Filing :=
  let f1 := (numbers 0 Config.docSlots).foldl (fun f s => f.restoreDocAt errs st s) f.emptyTables
  let f2 := (numbers 0 Config.pageRecords).foldl (fun f p => f.restorePageAt errs st p) f1
  let f3 := (numbers 0 Config.mailboxCount).foldl (fun f m => f.restoreMailboxAt errs st m) f2
  let f4 := (numbers 0 Config.routeCount).foldl (fun f e => f.restoreRouteAt errs st e) f3
  let f5 := f4.restorePolicyAt errs st
  channelNumbers.foldl (fun f c => f.restoreChannelAt errs st c) f5

/-! ## Recovery walk: the pages of each document (R184) -/

/-- The pages that name slot s, in ascending record number. -/
def Filing.namingPages (s : Nat) (f : Filing) : List Nat :=
  (f.dir.pages.filter (fun x => x.2.state != .free && x.2.owner == s)).map (fun x => x.1)

/-- Of the pages of one sequence number, the one reached first, else the lowest. -/
def Filing.keptPage (reached cands : List Nat) (seq : Nat) (f : Filing) : Option Nat :=
  (reached.find? (fun p => decide (p ∈ cands) && (f.page p).seq == seq)).or
    (cands.find? (fun p => (f.page p).seq == seq))

/-- Links pages in the given order. -/
def Filing.linkPages : List Nat → Filing → Filing
  | [], f => f
  | p :: ps, f => Filing.linkPages ps (f.setPage p { f.page p with next := ps.head? })

/-- Settles the pages of the document in slot s; `recorded` is the page table as restored. -/
def Filing.settlePages (recorded : Tbl Page) (s : Nat) (f : Filing) : Filing :=
  let d := f.doc s
  let cands := f.namingPages s
  if d.state = .free then cands.foldl (fun f p => f.setPage p Page.freed) f
  else
    let reached := followPages recorded Config.pageRecords d.firstPage
    let kept := sortBy (fun p => (f.page p).seq)
      (cands.filter (fun p => f.keptPage reached cands (f.page p).seq == some p))
    let dropped := cands.filter (fun p => decide (p ∉ kept))
    let f1 := (dropped.foldl (fun f p => f.setPage p Page.freed) f).linkPages kept
    f1.setDoc s { d with pageCount := kept.length, firstPage := kept.head?,
                         damaged := d.damaged || !dropped.isEmpty || kept.length != d.pageCount }

/-! ## Recovery walk: page chains (R184) -/

/-- The block table mirror's entry of block n as recovery reads it: a data error gives an invalid state, blocks 0 to 127 are
RESERVED whatever their words show (R18; log entry 53), and the blocks that a smaller recorded size did not have read SCRUB
(R182, R184). -/
def Filing.mirrorEntry (errs : List RecordId) (st : Store) (n : Nat) (f : Filing) : BlockEntry :=
  if RecordId.block n ∈ errs ∨ n < Config.reservedBlocks then BlockEntry.reserved
  else if f.boot.recordedMiB * Config.blocksPerMiB ≤ n ∧ n < f.blockCount then BlockEntry.scrubbed
  else restoreBlock (st.page.readWord (Config.blockBase + 4 * n))

/-- The chain walk is skipped (R184). -/
def Boot.skipsWalk (b : Boot) : Bool := b.cleanFound && !b.tornHeader && b.recordedMiB == b.sizeMiB

/-- What the walk of one page holds to: whether the page is CLOSED, whether its chain is trusted (the chain walk is skipped),
its keep count and its recorded block count. -/
structure WalkRule where
  closed : Bool
  trusted : Bool
  keep : Nat
  count : Nat
  deriving DecidableEq, Repr

/-- A block may be taken into the page's chain (R184): a trusted chain gives the page its LANDING and FILED blocks.
A block that the page's own chain has taken is not taken again (DESIGN CHOICE, log entry 72). A LANDING page takes two blocks
of one logical index, which R184 does not exclude; what its close makes of them is log entry 77. -/
def WalkRule.takes (rule : WalkRule) (taken : List Nat) (last : Option Nat) (n : Nat) (b : BlockEntry) : Bool :=
  decide (n ∉ taken) &&
    if rule.closed && !rule.trusted then
      b.state == .filed && decide (b.index < rule.keep) && match last with
        | some j => decide (j < b.index)
        | none => true
    else b.state == .filed || b.state == .landing

/-- The walk ends at the recorded block count (R184; for a trusted chain log entry 24). -/
def WalkRule.bounded (rule : WalkRule) : Bool := rule.closed || rule.trusted

/-- Walks a page chain: the blocks taken, in order. `seen` counts the links followed, blocks dropped included
(log entry 25); `last` is the index of the last block taken, dropped blocks apart (DESIGN CHOICE, log entry 71). The first
argument of the recursion is the number of links that may still be followed: at 0 the walk stops with the blocks taken so
far, which only a loop through dropped blocks reaches (DESIGN CHOICE, log entry 76). -/
def walkChain (blocks : Nat) (entry : Nat → BlockEntry) (rule : WalkRule) :
    Nat → List Nat → Option Nat → Option Nat → Nat → List Nat
  | 0, _, _, _, _ => []
  | _ + 1, _, _, none, _ => []
  | fuel + 1, taken, last, some n, seen =>
    if rule.bounded && seen == rule.count then []
    else if blocks ≤ n then walkChain blocks entry rule fuel taken last (entry n).next (seen + 1)
    else if rule.takes taken last n (entry n) then
      n :: walkChain blocks entry rule fuel (n :: taken) (some (entry n).index) (entry n).next (seen + 1)
    else []

/-- Links blocks of the table in the given order. -/
def Filing.linkBlocks : List Nat → Filing → Filing
  | [], f => f
  | n :: ns, f => Filing.linkBlocks ns (f.setBlock n { f.block n with next := ns.head? })

/-- The links a walk follows at most. A chain that meets no block twice is shorter; one whose links at blocks numbered N or
above form a loop, which R184 follows on without end for a LANDING page, is left here (DESIGN CHOICE, log entry 76). -/
def walkFuel : Nat := 131072

/-- Walks the chain of page p and makes the blocks taken its chain; answers them with the blocks taken before. A trusted chain
that is whole leaves the page as recorded; one that breaks at an entry which is not LANDING or FILED, or is another page's,
is cut there, as R184 cuts a chain that it walks (DESIGN CHOICE, log entry 51). -/
def Filing.walkPage (errs : List RecordId) (st : Store) (x : Filing × List Nat) (p : Nat) : Filing × List Nat :=
  let f := x.1
  let g := f.page p
  let trusted := f.boot.skipsWalk
  let rule : WalkRule := { closed := g.state == .closed, trusted := trusted, keep := keepCount g.length, count := g.count }
  let ns := walkChain f.blockCount (fun n => f.mirrorEntry errs st n) rule walkFuel x.2 none g.first 0
  let f1 := (f.linkBlocks ns).setPage p { g with first := ns.head?, count := ns.length }
  let f2 :=
    if g.state = .closed ∧ ¬ (trusted ∧ ns.length = g.count) then
      f1.setPage p { f1.page p with holes := f1.chainHoles p (keepCount g.length) }
    else f1
  (f2, ns ++ x.2)

/-- The pages of every document, slots ascending, sequence numbers ascending. -/
def Filing.allPages (f : Filing) : List Nat := (numbers 0 Config.docSlots).flatMap (fun s => f.docPages s)

/-- The Block Table as the mirror shows it, RESERVED blocks apart. -/
def Filing.readBlocks (errs : List RecordId) (st : Store) (f : Filing) : Filing :=
  { f with blocks := { entries := (usableBlocks f.blockCount).map (fun n => (n, f.mirrorEntry errs st n)), free := [],
                       scrub := [] } }

/-- Step 04h (R184). -/
def Filing.recoveryWalk (errs : List RecordId) (st : Store) (f : Filing) : Filing :=
  let f1 := f.restoreRecords errs st
  let f2 := (numbers 0 Config.docSlots).foldl (fun g s => g.settlePages f1.dir.pages s) f1
  let f3 := f2.readBlocks errs st
  let f4 := (f3.allPages.foldl (Filing.walkPage errs st) (f3, [])).1
  ({ f4 with boot := { f4.boot with phase := .rebuilding } } : Filing).mark .status

/-! ## Rebuild (R185) -/

/-- An entry as step 05h leaves it: orphans and entries of no state become SCRUB. -/
def BlockEntry.rebuilt (reached : Bool) (b : BlockEntry) : BlockEntry :=
  match b.state with
  | .free => BlockEntry.freed
  | .scrub => BlockEntry.scrubbed
  | .reserved => BlockEntry.scrubbed
  | .landing => if reached then b else BlockEntry.scrubbed
  | .filed => if reached then b else BlockEntry.scrubbed

/-- The blocks of a state, ascending. -/
def blocksIn (st : BlockState) (es : Tbl BlockEntry) : List Nat :=
  (es.filter (fun x => x.2.state == st)).map (fun x => x.1)

/-- R185, item 1. -/
def Filing.rebuildBlocks (f : Filing) : Filing :=
  let reached := f.allPages.flatMap (fun p => f.pageChain p)
  let es : Tbl BlockEntry := f.blocks.entries.map (fun x => (x.1, x.2.rebuilt (decide (x.1 ∈ reached))))
  { f with blocks := { entries := es, free := blocksIn .free es, scrub := blocksIn .scrub es } }

/-- The slots of the documents that pass a test, ascending. -/
def Filing.slotsOf (f : Filing) (test : Doc → Bool) : List Nat :=
  (numbers 0 Config.docSlots).filter (fun s => test (f.doc s))

/-- Each document's block total is the sum of its pages' block counts (R185, item 7). -/
def Filing.countBlocks (f : Filing) : Filing :=
  (f.slotsOf (fun d => d.state != .free)).foldl (fun f s =>
    f.setDoc s { f.doc s with blockTotal := ((f.docPages s).map (fun p => (f.page p).count)).sum }) f

/-- A torn header's saved clock bears no relation to the restored due times (R182). -/
def Filing.dropDues (f : Filing) : Filing :=
  let far : Time := ticks (Config.maxRetention * Config.ticksPerHour)
  { f with dir := { f.dir with docs := f.dir.docs.map (fun x =>
      (x.1, { x.2 with retention := if x.2.expired then x.2.retention else x.2.retention.map (fun _ => far)
                       recipients := x.2.recipients.map (fun r => (r.1, { r.2 with retryDue := r.2.retryDue.map (fun _ => 0) }))
                     })) } }

/-- The length at which recovery closes a LANDING page: its blocks' bytes, the data area at most. DEDUCED: a page with no
block takes length 1, since every closed page has a length of 1 at least (R46). -/
def recoveredLength (count : Nat) : Nat := max 1 (min (count * Config.blockBytes) Config.dataAreaBytes)

/-- A LANDING page is closed (R185, item 2). Where its walked chain holds two blocks of one logical index the close files both
(`Filing.completePage`; DESIGN CHOICE, log entry 77). -/
def Filing.recoverPage (s p : Nat) (f : Filing) : Filing :=
  if (f.page p).state = .landing then
    let l := recoveredLength (f.page p).count
    f.closePage ((f.doc s).channel.getD 0) s p l true true (f.chainHoles p (keepCount l))
  else f

/-- The interrupted call of slot s: its LANDING pages in ascending sequence number, then the document (R185, item 2). -/
def Filing.recoverDoc (s : Nat) (f : Filing) : Filing :=
  let f1 := (f.docPages s).foldl (fun f p => f.recoverPage s p) f
  if (f.doc s).state = .receiving then
    let f2 := f1.closeDoc ((f.doc s).channel.getD 0) s .recovered
    { f2 with boot := { f2.boot with recovered := f2.boot.recovered + 1 } }
  else f1

/-- A recipient as recovery leaves it: ACTIVE becomes READY; a RETRY_WAIT with no due time takes the restored clock
(R185, items 3 and 5). -/
def Recipient.recover (now : Time) (r : Recipient) : Recipient :=
  match r.state with
  | .active => { r with state := .ready, channel := none }
  | .retryWait => { r with retryDue := r.retryDue.or (some now) }
  | _ => r

/-- Every recipient as recovery leaves it. -/
def Filing.recoverRecipients (f : Filing) : Filing :=
  { f with dir := { f.dir with docs := f.dir.docs.map (fun x =>
      (x.1, { x.2 with recipients := x.2.recipients.map (fun r => (r.1, r.2.recover f.now)) })) } }

/-- The READY recipients of a class, by slot and index (R185, item 4). -/
def Filing.readyOf (cls : MailClass) (f : Filing) : List (Nat × Nat) :=
  (f.slotsOf (fun d => d.state != .free)).flatMap (fun s =>
    (places.filter (fun k => ((f.doc s).recipient k).state == .ready && ((f.doc s).recipient k).cls == cls)).map
      (fun k => (s, k)))

/-- The forward queue (R185, item 4). -/
def Filing.rebuildQueue (f : Filing) : Filing :=
  { f with queue := { urgent := f.readyOf .urgent, normal := f.readyOf .normal, bulk := f.readyOf .bulk } }

/-- The deadline entries of the document in slot s, RETAIN first (R185, item 5). A document whose EXPIRED is set has no
RETAIN entry (R142). -/
def Filing.deadlinesOf (s : Nat) (f : Filing) : List Deadline :=
  let d := f.doc s
  let own : List Deadline := match d.retention with
    | some t => if d.expired then [] else [{ kind := .retain, slot := s, gen := d.gen, due := t }]
    | none => []
  own ++ places.filterMap (fun k =>
    if (d.recipient k).state = .retryWait then
      (d.recipient k).retryDue.map (fun t => { kind := .retry k, slot := s, gen := d.gen, due := t })
    else none)

/-- The deadline list (R185, item 5). -/
def Filing.rebuildDeadlines (f : Filing) : Filing :=
  ((f.slotsOf (fun d => d.state != .free)).flatMap (fun s => f.deadlinesOf s)).foldl (fun f e => f.place e)
    { f with clock := { f.clock with deadlines := [] } }

/-- A mailbox's usage recounted, its OVER flag with it (R79). -/
def Filing.recountBox (m : Nat) (f : Filing) : Filing :=
  let u := ((f.slotsOf (fun d => d.state != .free && d.mailbox == m)).map (fun s => (f.doc s).blockTotal)).sum
  let b := f.mailbox m
  f.setBox m { b with usage := u, overQuota := decide (b.quota < u) }

/-- The free page list, ascending (R185, item 7). -/
def Filing.rebuildFreePages (f : Filing) : Filing :=
  { f with dir := { f.dir with
      freePages := (numbers 0 Config.pageRecords).filter (fun p => (f.page p).state == .free), withheld := [] } }

/-- Step 05h, its items in their order (R185): the block totals are recounted last, so the closes and releases before take
the restored ones (log entry 52). The closes of item 2 and the release checks of item 6 go by ascending slot (DESIGN CHOICE,
log entry 62). The layout header takes the detected size with the rest (log entry 22). -/
def Filing.rebuild (f : Filing) : Filing :=
  let f1 := f.rebuildBlocks
  let f2 := if f1.boot.tornHeader then f1.dropDues else f1
  let f3 := (numbers 0 Config.docSlots).foldl (fun f s => f.recoverDoc s) f2
  let f4 := f3.recoverRecipients.rebuildQueue.rebuildDeadlines
  let f5 := (f4.slotsOf (fun d => d.state == .filed || d.state == .review)).foldl (fun f s => f.checkRelease s) f4
  let f6 := (numbers 0 Config.mailboxCount).foldl (fun f m => f.recountBox m) f5.countBlocks
  let f7 := f6.rebuildFreePages
  { f7 with boot := { f7.boot with phase := .rebuilt }
            mirror := { f7.mirror with sizeMiB := f7.boot.sizeMiB } }

/-- Step 05h with every record written (R185), the layout header last. The status record, whose latches, F and progress code
steps 04h and 05h change, is not among them: it is written once, with READY (DESIGN CHOICE, log entry 75). -/
def State.rebuild (s : State) : State :=
  let f := s.filing.rebuild
  { s with filing := f, store := s.store.writeSegments (f.tableSegments ++ f.segments .layoutHeader) }

/-! ## READY (R186) -/

/-- STARTED (R186, Table 40). -/
def Filing.startedNotice (formatted : Bool) (f : Filing) : Notice :=
  { key := { kind := .started, doc := none, item := .none }
    code := if formatted then 1 else 2
    args := [argNat (1 + (if f.boot.sizeMiB < f.boot.recordedMiB then 2 else 0) +
                         (if f.boot.recordedMiB < f.boot.sizeMiB then 4 else 0)),
             argNat f.boot.sizeMiB, argNat f.boot.tornCount, argNat f.boot.recovered]
    time := f.now }

/-- The filing blocks run: the clock is stale and counts its saves from 0, the ring is empty, no record is dirty, and what
was held takes the clock's value as its time (R172, R186). -/
def Filing.begin (f : Filing) : Filing :=
  { f with
    boot := { f.boot with phase := .running }
    clock := { f.clock with stale := true, saveCount := 0, saveOwed := false, examining := false }
    ring := { f.ring with production := 0, producer := 0, consumer := 0, sequence := 0, waiting := [], resetWaits := true,
                          pending := f.ring.pending.map (fun n => { n with time := f.now }) }
    mirror := { f.mirror with flushList := [] }
    monitors := { f.monitors with capture := f.monitors.capture.map (fun k => { k with time := f.now }) } }

/-- READY: the status record is written with code 0Fh, and takes here what start-up changed in it (DESIGN CHOICE, log entry
75); the scrub begins, STARTED takes position 0 and the held notices follow it (R186). -/
def State.ready (s : State) : State :=
  let formatted := s.filing.boot.phase == .formatted
  let s1 : State := { s with filing := s.filing.begin }
  let s2 := (s1.writeRecord .status).beginScrub
  { s2 with filing := (s2.filing.produceNotice (s2.filing.startedNotice formatted)).fill }

end Sys2Proof.Machine
end

