-- ==== Sys2Proof/Machine/ExecStartup.lean ====
section
/-! DEFINITION. The meanings of the start-up, power and reset commands (R17, R31, R179 to R188). Every meaning of a command
whose event cannot occur in the state answers that state: the command waits (log entry 9). -/

namespace Sys2Proof.Machine

/-- What a meaning answers. -/
abbrev Answer := Host.Outcome State Fault Refusal

/-! ## Power-on and start-up -/

/-- The straps as step 01h takes them; CHANS above 24 reads as 24 (R2). -/
def readStraps (zone : BitVec 4) (gtop : BitVec 6) (chans : BitVec 5) (clksel : BitVec 2) : Straps :=
  { zone := zone.toNat, gtop := gtop.toNat, channels := min chans.toNat Config.channelCount, clksel := clksel.toNat }

/-- ZONE 0 and CLKSEL 3 halt start-up (R179). -/
def Straps.halt (st : Straps) : Bool := st.zone == 0 || st.clksel == 3

/-- POWER_ON (R179). Step 01h is whole in it: the lines go from 00h to 02h or E1h, and no state shows 01h (DESIGN CHOICE,
log entry 74). -/
def execPowerOn (zone : BitVec 4) (gtop : BitVec 6) (chans : BitVec 5) (clksel : BitVec 2) (bankMiB wrapMiB : Nat)
    (s : State) : Answer :=
  if bankMiB = 0 then .refused .illFormed
  else if s.filing.boot.phase ≠ .off then .next s
  else
    let st := readStraps zone gtop chans clksel
    .next { s with board := { s.board with straps := st }
                   store := { s.store with bankMiB := bankMiB, wrapMiB := wrapMiB }
                   filing := { s.filing with boot :=
                     { s.filing.boot with phase := if st.halt then .haltStraps else .sizing } } }

/-- A step of the Start-up Controller acts in its phase, with the store bus's kind 5 grant (R15). -/
def State.startUnit (inPhase : Phase → Bool) (act : State → State) (s : State) : Answer :=
  if inPhase s.filing.boot.phase && s.nextKind == some .flush then .next (act (s.granted .flush)) else .next s

/-- SIZING_PROBE (R180). -/
def execSizingProbe (dataError : Bool) (s : State) : Answer :=
  s.startUnit (fun p => p == .sizing) (State.sizingProbe dataError)

/-- LAYOUT_HEADER_CHECK (R182). -/
def execLayoutHeaderCheck (dataError : Bool) (s : State) : Answer :=
  s.startUnit (fun p => p == .headerCheck) (State.headerCheck dataError)

/-- FRESH_FORMAT (R183). -/
def execFreshFormat (s : State) : Answer := s.startUnit (fun p => p == .formatting) State.freshFormat

/-- RECOVERY_WALK (R184). -/
def execRecoveryWalk (dataErrors : List RecordId) (s : State) : Answer :=
  s.startUnit (fun p => p == .walking) (fun s => { s with filing := s.filing.recoveryWalk dataErrors s.store })

/-- REBUILD (R185). -/
def execRebuild (s : State) : Answer := s.startUnit (fun p => p == .rebuilding) State.rebuild

/-- READY (R186). -/
def execReady (s : State) : Answer := s.startUnit (fun p => p == .formatted || p == .rebuilt) State.ready

/-! ## Power warning -/

/-- The Scrub Unit pauses (R31). -/
def ScrubUnit.pause : ScrubUnit → ScrubUnit
  | .scrubbing n l => .paused (some (n, l))
  | .paused h => .paused h
  | _ => .paused none

/-- The filing blocks at PWARN (R187): the guard closes, the Scrub Unit pauses. -/
def Filing.warn (f : Filing) : Filing := { f.closeGuard with scrubber := f.scrubber.pause }

/-- PWARN_ASSERT (R187). Before READY only the Board Port and the Start-up Controller heed it (R181). -/
def execPwarnAssert (s : State) : Answer :=
  if s.filing.boot.phase = .off ∨ s.board.pwarn then .next s
  else
    let s1 := s.settle
    .next { s1 with board := { s1.board with pwarn := true }
                    filing := if s1.filing.running then s1.filing.warn else s1.filing }

/-- The clean flag is cleared, and its header write waits (R187). -/
def Filing.unwarn (f : Filing) : Filing := { f with mirror := { f.mirror with clean := false, rewrite := true } }

/-- The Scrub Unit leaves PAUSED (R31). -/
def State.resumeScrub (s : State) : State :=
  match s.filing.scrubber with
  | .paused (some (n, l)) => { s with filing := { s.filing with scrubber := .scrubbing n l } }
  | .paused none => s.beginScrub
  | _ => s

/-- PWARN_WITHDRAW (R187). -/
def execPwarnWithdraw (s : State) : Answer :=
  if s.board.pwarn = false then .next s
  else
    let s1 := s.settle
    let s2 : State := { s1 with board := { s1.board with pwarn := false } }
    if s2.filing.running then .next (State.resumeScrub { s2 with filing := s2.filing.unwarn }) else .next s2

/-- CLEAN_HEADER_WRITE (R187). -/
def execCleanHeaderWrite (s : State) : Answer :=
  let s1 := s.settle
  if s1.filing.running && s1.nextKind == some .flush && s1.flushUnit == some .clean then
    .next (s1.granted .flush).cleanHeader
  else .next s1

/-! ## Board reset -/

/-- BRESET at the board path (R17): nothing in service, nothing staged, count 0; the straps are kept. -/
def Board.abandon (b : Board) : Board := { b with port := .idle, queue := [], head := none, starve := 0, breset := true }

/-- The write-ahead entry of an abandoned head stays dirty (R17, R23); it joins the flush list's tail at the BRESET (DESIGN
CHOICE, log entry 55). -/
def Filing.keepAhead (ahead : Option Nat) (f : Filing) : Filing := match ahead with
  | some n => f.mark (.block n)
  | none => f

/-- Every review binding is broken without a notice, and release is checked for each document that was bound (R136,
R188). -/
def Filing.resetBindings (f : Filing) : Filing :=
  let docs := f.boundDocs (fun _ => true)
  ({ f with bindings := [] } : Filing).checkReleases docs

/-- BRESET at the filing blocks, in the order of R188. -/
def Filing.boardReset (ahead : Option Nat) (f : Filing) : Filing :=
  ((f.keepAhead ahead).resetPosting.closeGuard.resetChannels).resetBindings

/-- BRESET (R188). Before READY it reaches the board path only (R181). -/
def execBreset (s : State) : Answer :=
  if s.filing.boot.phase = .off ∨ s.board.breset then .next s
  else
    let s1 := s.settle
    let s2 : State :=
      { s1 with board := s1.board.abandon
                filing := if s1.filing.running then s1.filing.boardReset s1.board.ahead else s1.filing }
    .next s2.wakeScrub

/-- BRESET_WITHDRAW (R17). -/
def execBresetWithdraw (s : State) : Answer := .next { s with board := { s.board with breset := false } }

/-! ## Power loss -/

/-- The words of a kind-5 unit, each with its page bank byte, in the order in which they are written. -/
def State.unitWords (s : State) : FlushUnit → List (Nat × Word)
  | .rewrite => addressed ({ s.filing with mirror := { s.filing.mirror with clean := false } } : Filing) .layoutHeader
  | .clean =>
    addressed ({ s.filing with mirror := { s.filing.mirror with clean := true, saved := s.filing.now } } : Filing)
      .layoutHeader
  | .record r => addressed s.filing r
where
  /-- The words of a record's flush, each with its place. -/
  addressed (f : Filing) (r : RecordId) : List (Nat × Word) :=
    (f.segments r).flatMap (fun x => x.2.zipIdx.map (fun y => (x.1 + 4 * y.2, y.1)))

/-- The words that a flush in hand at the loss has written (R166, R182). -/
def State.tornWords (written : Nat) (s : State) : List (Nat × List Word) :=
  if s.filing.running && s.nextKind == some .flush then
    match s.flushUnit with
    | some u => ((s.unitWords u).zipIdx.filter (fun x => written.testBit x.2)).map (fun x => (x.1.1, [x.1.2]))
    | none => []
  else []

/-- POWER_LOSS (R32, R167): the page bank keeps its bytes, with the words that a flush in hand had written; everything on
chip and in the general bank is gone. -/
def execPowerLoss (written : Nat) (s : State) : Answer :=
  if s.filing.boot.phase = .off then .next s
  else
    .next { s with board := Board.reset
                   store := { s.store.writeSegments (s.tornWords written) with general := [] }
                   filing := Filing.reset }

end Sys2Proof.Machine
end

