-- ==== Sys2Proof/Machine/ExecBoard.lean ====
section
/-! DEFINITION. The meanings of the board transactions at the Board Port: writes offered and accepted (R1, R9), and reads
(R1, R5, R7, R8, R12, R13, R134, R163, R175). The board traffic before READY is that of R181. -/

namespace Sys2Proof.Machine

/-! ## Writes -/

/-- WRITE_ACCEPT (R9). -/
def execWriteAccept (master : BitVec 5) (addr : Word) (width : Width) (data : Word) (s : State) : Answer :=
  if aligned addr width then
    if s.canTake && s.board.hasSpace then
      .next { s with board := s.board.accept { master := master, addr := addr, width := width, data := data } }
    else .next s
  else .refused .illFormed

/-- WRITE_QUEUE_FULL (R1, R9). -/
def execWriteQueueFull (master : BitVec 5) (addr : Word) (width : Width) (data : Word) (s : State) : Answer :=
  if aligned addr width then
    if s.canTake && !s.board.hasSpace then
      .next { s with board :=
        { s.board with port := .writeHeld { master := master, addr := addr, width := width, data := data } } }
    else .next s
  else .refused .illFormed

/-- HELD_WRITE_ACCEPT (R1). -/
def execHeldWriteAccept (s : State) : Answer :=
  match s.board.port with
  | .writeHeld w =>
    if s.board.hasSpace then .next { s with board := { s.board.accept w with port := .idle } } else .next s
  | _ => .next s

/-! ## Reads -/

/-- The rows of the table that a board read can be. -/
inductive ReadRow where
  | board
  | unbacked
  | refused
  | mirror
  | faultWord
  | forwardData
  | forwardSlot
  | review
  deriving DecidableEq, Repr

/-- The row of a read: by its class and its master alone (R4, R6). -/
def readRow (m : Nat) (cls : AddrClass) : ReadRow :=
  match cls with
  | .plain _ => .board
  | .relocated _ => .board
  | .unbacked => .unbacked
  | .zoneUnbacked => .unbacked
  | .control z =>
    if !cls.readAllowed m then .refused else if m = 0 ∧ inFaultWord z then .faultWord else .mirror
  | .landing _ _ => .refused
  | .forward _ o =>
    if !cls.readAllowed m then .refused else if o < Config.dataAreaBytes then .forwardData else .forwardSlot
  | .review _ _ => if !cls.readAllowed m then .refused else .review

/-- The read as the port takes it. -/
def heldRead (m : BitVec 5) (addr : Word) (w : Width) (cls : AddrClass) (noted : Option (BitVec 10 × Bool)) : HeldRead :=
  { master := m, addr := addr, width := w, cls := cls, phase := .writes, noted := noted }

/-- A read of the given row is taken by the port, if it takes one now. -/
def State.readAs (row : ReadRow) (act : AddrClass → State → State) (m : BitVec 5) (addr : Word) (w : Width) (s : State) :
    Answer :=
  if aligned addr w then
    let s1 := s.settle
    let cls := s1.classify addr
    if s1.canTake && readRow m.toNat cls == row then .next (act cls s1) else .next s1
  else .refused .illFormed

/-- Served at once with every byte FFh (R5, R7, R179, R181). -/
def State.allOnes (m : BitVec 5) (addr : Word) (w : Width) (s : State) : State :=
  { s with board := s.board.serveAll m addr w 0xFF }

/-- Served at once with zero bytes (R8). -/
def State.allZero (m : BitVec 5) (addr : Word) (w : Width) (s : State) : State :=
  { s with board := s.board.serveAll m addr w 0 }

/-- BOARD_READ (R12). -/
def execBoardRead (m : BitVec 5) (addr : Word) (w : Width) (s : State) : Answer :=
  s.readAs .board (fun cls s => s.holdRead (heldRead m addr w cls none)) m addr w

/-- UNBACKED_READ (R5). -/
def execUnbackedRead (m : BitVec 5) (addr : Word) (w : Width) (s : State) : Answer :=
  s.readAs .unbacked (fun _ s => s.allOnes m addr w) m addr w

/-- A refused access latches PROTECTION, but for an aperture before READY and any zone access after a halt (R7, R179,
R181). -/
def State.latchesRefusal (cls : AddrClass) (s : State) : Bool :=
  s.filing.running || (!cls.isAperture && !s.filing.boot.phase.halted)

/-- The PROTECTION event of a refused access. -/
def State.refusal (m : BitVec 5) (cls : AddrClass) (s : State) : State :=
  if s.latchesRefusal cls then { s with filing := s.filing.latchProtection m cls } else s

/-- REFUSED_READ (R7). -/
def execRefusedRead (m : BitVec 5) (addr : Word) (w : Width) (s : State) : Answer :=
  s.readAs .refused (fun cls s => (s.refusal m cls).allOnes m addr w) m addr w

/-- MIRROR_READ (R8, R163). After a halt every zone read is all ones (R179). -/
def execMirrorRead (m : BitVec 5) (addr : Word) (w : Width) (s : State) : Answer :=
  s.readAs .mirror (fun cls s =>
    if s.filing.boot.phase.halted then s.allOnes m addr w else s.holdRead (heldRead m addr w cls none)) m addr w

/-- The read's set: the latches then set and whether the capture is full (R175); none before READY, when the read clears
nothing (R181), at a service after READY either (DEDUCED, log entry 54). -/
def Filing.readSet (f : Filing) : Option (BitVec 10 × Bool) :=
  if f.running then some (f.monitors.latches, f.monitors.capture.isSome) else none

/-- FAULT_WORD_READ (R175): the set is noted as the port takes the read; the clearing is at its service. -/
def execFaultWordRead (m : BitVec 5) (addr : Word) (w : Width) (s : State) : Answer :=
  s.readAs .faultWord (fun cls s =>
    if s.filing.boot.phase.halted then s.allOnes m addr w
    else s.holdRead (heldRead m addr w cls s.filing.readSet)) m addr w

/-- FORWARD_DATA_READ (R13, R114). -/
def execForwardDataRead (m : BitVec 5) (addr : Word) (w : Width) (s : State) : Answer :=
  s.readAs .forwardData (fun cls s =>
    if s.filing.running then s.holdRead (heldRead m addr w cls none) else s.allOnes m addr w) m addr w

/-- FORWARD_SLOT_READ (R13, R116). -/
def execForwardSlotRead (m : BitVec 5) (addr : Word) (w : Width) (s : State) : Answer :=
  s.readAs .forwardSlot (fun cls s =>
    if s.filing.running then s.holdRead (heldRead m addr w cls none) else s.allOnes m addr w) m addr w

/-- The class is a review aperture's tail (R4). -/
def AddrClass.isTail : AddrClass → Bool
  | .review _ o => decide (Config.dataAreaBytes ≤ o)
  | _ => false

/-- REVIEW_DATA_READ (R8, R13, R134). -/
def execReviewDataRead (m : BitVec 5) (addr : Word) (w : Width) (s : State) : Answer :=
  s.readAs .review (fun cls s =>
    if !s.filing.running then s.allOnes m addr w
    else if cls.isTail then s.allZero m addr w
    else s.holdRead (heldRead m addr w cls none)) m addr w

end Sys2Proof.Machine
end

