-- ==== Sys2Proof/Machine/ExecDrain.lean ====
section
/-! DEFINITION. The meanings of the drains (R10, R11): what the owner of each class and part does when a write reaches the
head of the Write Staging Queue. A drain acts on the head, and only when the head is a write of its row. -/

namespace Sys2Proof.Machine

/-- The rows of the table that a drain can be. -/
inductive DrainRow where
  | plain
  | refused
  | postingWord
  | narrowPost
  | busy
  | malformed
  | unknown
  | request (k : RequestKind)
  | consumer
  | header
  | opens
  | ends
  | otherCall
  | data
  | trailer
  | ok
  | resend
  | abandon
  | confirmOut
  deriving DecidableEq, Repr

/-- The posting slot that a zone offset lies in. -/
def slotIndex (z : Nat) : Nat := (z - Config.slotBase) / 64

/-- The word of a posting slot that a zone offset lies in. -/
def slotWord (z : Nat) : Nat := (z - Config.slotBase) % 64 / 4

/-- The write is 32 bits wide. -/
def BoardWrite.full (w : BoardWrite) : Bool := w.width == .full

/-- The row of a post word (R149). -/
def Filing.postRow (s : Nat) (w : BoardWrite) (f : Filing) : DrainRow :=
  match (f.slot s).judge w.full w.data with
  | .narrow => .narrowPost
  | .busy => .busy
  | .malformed => .malformed
  | .unknown => .unknown
  | .taken k => .request k

/-- The row of a call word (R39). -/
def callRow (w : BoardWrite) : DrainRow :=
  if w.full then
    match callKind w.data with
    | .opens => .opens
    | .ends => .ends
    | .other => .otherCall
  else .otherCall

/-- The row of a confirm word (R117). -/
def Filing.confirmRow (c : Nat) (w : BoardWrite) (f : Filing) : DrainRow :=
  let ch := f.chan c
  if ch.state = .send ∧ w.full ∧ confirmEcho w.data = ch.info.seq then
    match confirmKind w.data with
    | .ok => .ok
    | .resend => .resend
    | .abandon => .abandon
    | .other => .confirmOut
  else .confirmOut

/-- The row of an allowed write from READY onwards (Table 7). -/
def Filing.drainRow (x : Staged) (f : Filing) : DrainRow :=
  match x.cls with
  | .control z =>
    if inConsumer z then .consumer
    else if slotWord z = 15 then f.postRow (slotIndex z) x.write
    else .postingWord
  | .landing _ o =>
    if o < Config.dataAreaBytes then .data
    else if o < callWordAt then .header
    else if o < lateSlot then callRow x.write
    else if o < lastWordAt then .plain
    else .trailer
  | .forward c o => if o < lastWordAt then .plain else f.confirmRow c x.write
  | _ => .plain

/-- The row of the write at the head. Before READY every control window and aperture write is discarded, a refused control
window write latching PROTECTION (R181); after a halt every zone write is discarded with no fault (R179). -/
def State.drainRow (x : Staged) (s : State) : DrainRow :=
  if x.cls.writeAllowed x.write.master.toNat then
    if s.filing.running then s.filing.drainRow x else .plain
  else if s.latchesRefusal x.cls then .refused
  else .plain

/-- A drain of the given row acts on an undrained head of that row. -/
def State.drainAs (row : DrainRow) (act : Staged → State → State) (s : State) : Answer :=
  let s1 := s.settle
  match s1.board.head, s1.board.queue with
  | none, x :: _ => if s1.drainRow x = row then .next (act x s1) else .next s1
  | _, _ => .next s1

/-- The owner's part of a drain, then the store destination of Table 7. -/
def State.drainTo (x : Staged) (f : Filing) (s : State) : State := State.drained x.cls.dest none { s with filing := f }

/-- The channel and aperture offset of a landing or forward class. -/
def AddrClass.channelOffset : AddrClass → Nat × Nat
  | .landing c o => (c, o)
  | .forward c o => (c, o)
  | _ => (0, 0)

/-- The zone offset of a control window class. -/
def AddrClass.zoneOffset : AddrClass → Nat
  | .control z => z
  | _ => 0

/-! ## Writes with no behaviour of their own -/

/-- The store destination of a plain drain: none for a zone write that start-up discards. -/
def State.plainDest (x : Staged) (s : State) : Option Dest :=
  if x.cls.isZone && !s.filing.running then none else x.cls.dest

/-- WRITE_DRAIN (R5, R11, R181). -/
def execWriteDrain (s : State) : Answer := s.drainAs .plain (fun x s => s.drained (s.plainDest x) none)

/-- REFUSED_WRITE (R7). -/
def execRefusedWrite (s : State) : Answer :=
  s.drainAs .refused (fun x s =>
    State.drained none none { s with filing := s.filing.latchProtection x.write.master x.cls })

/-! ## Posting slots and the consumer word -/

/-- POSTING_WORD_CAPTURE (R148). -/
def execPostingWordCapture (s : State) : Answer :=
  s.drainAs .postingWord (fun x s =>
    let z := x.cls.zoneOffset
    s.drainTo x (s.filing.captureWord (slotIndex z) (slotWord z) x.write.full x.write.data))

/-- NARROW_POST_WORD (R149). -/
def execNarrowPostWord (s : State) : Answer :=
  s.drainAs .narrowPost (fun x s => s.drainTo x (s.filing.narrowPost (slotIndex x.cls.zoneOffset)))

/-- BUSY (R149, R151). -/
def execBusy (s : State) : Answer :=
  s.drainAs .busy (fun x s => s.drainTo x (s.filing.busyPost (slotIndex x.cls.zoneOffset) x.write.data))

/-- MALFORMED (R149, R151). -/
def execMalformed (s : State) : Answer :=
  s.drainAs .malformed (fun x s => s.drainTo x (s.filing.malformedPost (slotIndex x.cls.zoneOffset) x.write.data))

/-- UNKNOWN (R149, R151). -/
def execUnknown (s : State) : Answer :=
  s.drainAs .unknown (fun x s => s.drainTo x (s.filing.unknownPost (slotIndex x.cls.zoneOffset) x.write.data))

/-- The consumer word's value once the write's bytes have landed, modulo 256 (R154). -/
def State.consumerValue (x : Staged) (s : State) : BitVec 8 :=
  (overlayWord (s.store.page.readWord Config.consumerBase) (x.cls.zoneOffset - Config.consumerBase) x.write.bytes).setWidth 8

/-- CONSUMER_WORD (R154, R158). -/
def execConsumerWord (s : State) : Answer :=
  s.drainAs .consumer (fun x s => s.drainTo x (s.filing.consumerWord (s.consumerValue x)))

/-! ## Intake -/

/-- The filing blocks with a header slot write captured (R35, R38). The call word is captured like the others, since R35 holds
all 16 words as last written (DEDUCED, log entry 59). -/
def Filing.captureWrite (x : Staged) (f : Filing) : Filing :=
  let c := x.cls.channelOffset
  let o := c.2 - Config.dataAreaBytes
  f.captureHeader c.1 (o / 4) (o % 4) x.write.bytes

/-- HEADER_WORD (R38). -/
def execHeaderWord (s : State) : Answer :=
  s.drainAs .header (fun x s => s.drainTo x (s.filing.captureWrite x))

/-- OPEN (R40, R41). -/
def execOpenCall (s : State) : Answer :=
  s.drainAs .opens (fun x s => s.drainTo x ((s.filing.captureWrite x).openCall x.cls.channelOffset.1))

/-- END (R42). -/
def execEndCall (s : State) : Answer :=
  s.drainAs .ends (fun x s => s.drainTo x ((s.filing.captureWrite x).endCall x.cls.channelOffset.1))

/-- OTHER_CALL_KIND (R39). -/
def execOtherCallKind (s : State) : Answer :=
  s.drainAs .otherCall (fun x s => s.drainTo x ((s.filing.captureWrite x).stray x.cls.channelOffset.1 .callWord))

/-- DATA_WRITE (R43, R45): the Channel Controller places the write or finds that it has no destination. -/
def execDataWrite (s : State) : Answer :=
  s.drainAs .data (fun x s =>
    let c := x.cls.channelOffset
    let p := s.filing.dataWrite c.1 c.2 x.write.width.bytes
    State.drained (p.dest.map .page) p.ahead { s with filing := p.filing })

/-- TRAILER_WORD (R47, R52). -/
def execTrailerWord (s : State) : Answer :=
  s.drainAs .trailer (fun x s => s.drainTo x (s.filing.trailerWord x.cls.channelOffset.1 x.write.full x.write.data))

/-! ## Confirm words -/

/-- OK (R118). -/
def execConfirmOk (s : State) : Answer :=
  s.drainAs .ok (fun x s => s.drainTo x (s.filing.confirmOk x.cls.channelOffset.1))

/-- RESEND (R119). -/
def execConfirmResend (s : State) : Answer :=
  s.drainAs .resend (fun x s => s.drainTo x (s.filing.confirmResend x.cls.channelOffset.1))

/-- ABANDON (R120). -/
def execConfirmAbandon (s : State) : Answer :=
  s.drainAs .abandon (fun x s => s.drainTo x (s.filing.confirmAbandon x.cls.channelOffset.1))

/-- CONFIRM_WORD_OUT_OF_PLACE (R117). -/
def execConfirmWordOutOfPlace (s : State) : Answer :=
  s.drainAs .confirmOut (fun x s => s.drainTo x (s.filing.confirmStray x.cls.channelOffset.1))

end Sys2Proof.Machine
end

