-- ==== Sys2Proof/Machine/ExecGrants.lean ====
section
/-! DEFINITION. The meanings of the store bus grants (R14, R15, R16, R23, R30, R152, R160, R162). A grant's command acts only
when the Store Arbiter's next grant goes to its kind. -/

namespace Sys2Proof.Machine

/-- The next grant goes to the given kind: its unit is carried out, the count follows R16. -/
def State.grantAs (k : Kind) (act : State → Answer) (s : State) : Answer :=
  let s1 := s.settle
  if s1.nextKind = some k then act (s1.granted k) else .next s1

/-- A page bank access at a byte that the fitted bank does not have is no access (R18). -/
def State.onBank (a : Option Nat) (n : Nat) (act : State → State) (s : State) : Answer :=
  match a with
  | some x => if s.store.has x n then .next (act s) else .fault (.noSuchByte x)
  | none => .next (act s)

/-- BOARD_READ_GRANT (R14). -/
def execBoardReadGrant (dataError : Option Word) (s : State) : Answer :=
  s.grantAs .read (fun s =>
    match s.board.port with
    | .readHeld h => s.onBank (s.access h).byte h.width.bytes (State.serveRead h dataError)
    | _ => .next s)

/-- WRITE_AHEAD_WRITE (R23). -/
def execWriteAheadWrite (s : State) : Answer :=
  s.grantAs .ahead (fun s =>
    match s.board.ahead with
    | some n => .next (s.writeAhead n)
    | none => .next s)

/-- The page bank byte of a store destination. -/
def Dest.pageByte : Dest → Option Nat
  | .page a => some a
  | .general _ => none

/-- HEAD_STORE_WRITE (R10). -/
def execHeadStoreWrite (s : State) : Answer :=
  s.grantAs .head (fun s =>
    match s.board.head, s.board.queue with
    | some w, x :: _ => s.onBank w.dest.pageByte x.write.bytes.length (State.storeHead w x.write.bytes)
    | _, _ => .next s)

/-- CONSUMER_WORD_RESET (R160, R186). -/
def execConsumerWordReset (s : State) : Answer :=
  s.grantAs .result (fun t => if t.filing.ring.resetWaits then .next t.writeConsumerZero else .next s.settle)

/-- RESULT_ENTRY_WRITE (R152): behind the consumer word's reset (R160). -/
def execResultEntryWrite (s : State) : Answer :=
  s.grantAs .result (fun t =>
    match t.filing.ring.resetWaits, t.filing.ring.waiting with
    | false, e :: rest => .next (t.writeEntry e rest)
    | _, _ => .next s.settle)

/-- RECORD_FLUSH (R162), the header write that clears the clean flag among the flushes (R187). -/
def execRecordFlush (s : State) : Answer :=
  s.grantAs .flush (fun t =>
    match t.filing.running, t.flushUnit with
    | true, some .rewrite => .next t.rewriteHeader
    | true, some (.record r) => .next (t.flushRecord r)
    | _, _ => .next s.settle)

/-- SCRUB_BEGIN (R29). -/
def execScrubBegin (s : State) : Answer :=
  let s1 := s.settle
  match s1.filing.scrubber with
  | .idle => if s1.filing.running then .next s1.beginScrub else .next s1
  | .waiting _ => if s1.filing.running then .next s1.beginScrub else .next s1
  | _ => .next s1

/-- SCRUB_LINE (R30). -/
def execScrubLine (s : State) : Answer :=
  s.grantAs .scrub (fun s =>
    match s.filing.scrubber with
    | .scrubbing n i => s.onBank (some (n * Config.blockBytes + 32 * i)) 32 (State.scrubLine n i)
    | _ => .next s)

end Sys2Proof.Machine
end

