-- ==== Sys2Proof/Machine/ExecTime.lean ====
section
/-! DEFINITION. The meanings of the tick and of the events that a tick leaves owed (R36, R53, R83, R123, R124, R138, R145,
R147, R165). A tick's event acts when it is owed; any other command takes what is owed first (log entry 8). -/

namespace Sys2Proof.Machine

/-- The prescaler runs: from the straps on, but not when they halt start-up (R138, R179). -/
def Phase.clocked : Phase → Bool
  | .off => false
  | .haltStraps => false
  | _ => true

/-- The filing blocks at a tick: the prescaler restarts, the three owners count (R138). -/
def State.takeTick (s : State) : State :=
  { s with filing := { s.filing with clock := { s.filing.clock with prescaler := 0 } }.tick }

/-- TICK (R138). -/
def execTick (s : State) : Answer :=
  let s1 := s.settle
  if s1.filing.boot.phase.clocked then .next s1.takeTick else .next s1

/-- P, by CLKSEL (R138); CLKSEL 3 halts start-up, so its prescaler never runs. -/
def Straps.divisor (st : Straps) : Nat :=
  match st.clksel with
  | 0 => 250000
  | 1 => 400000
  | _ => 500000

/-- One bus clock cycle: the prescaler advances, and at P it returns to 0 and a tick is delivered (R138). -/
def State.busCycle (s : State) : State :=
  if s.filing.boot.phase.clocked then
    if s.filing.clock.prescaler + 1 < s.board.straps.divisor then
      { s with filing := { s.filing with clock := { s.filing.clock with prescaler := s.filing.clock.prescaler + 1 } } }
    else s.settle.takeTick
  else s

/-- An event of channel c. -/
def State.channelEvent (st : ChannelState) (c : Nat) (act : Filing → Filing) (s : State) : Answer :=
  if isChannel c then
    if s.filing.expired st c then .next { s with filing := act s.filing } else .next s
  else .refused .illFormed

/-- STALL_EXPIRY (R53). -/
def execStallExpiry (c : Nat) (s : State) : Answer := s.channelEvent .page c (Filing.stallExpiry c)

/-- GAP_EXPIRY (R53). -/
def execGapExpiry (c : Nat) (s : State) : Answer := s.channelEvent .gap c (Filing.gapExpiry c)

/-- CONFIRM_TIMEOUT (R124). -/
def execConfirmTimeout (c : Nat) (s : State) : Answer := s.channelEvent .send c (Filing.confirmTimeout c)

/-- RETAIN_DEADLINE (R83, R145). -/
def execRetainDeadline (s : State) : Answer :=
  if s.filing.deadlineDue true then .next { s with filing := s.filing.fireHead } else .next s

/-- RETRY_DEADLINE (R123, R145). -/
def execRetryDeadline (s : State) : Answer :=
  if s.filing.deadlineDue false then .next { s with filing := s.filing.fireHead } else .next s

/-- CLOCK_SAVE (R147). -/
def execClockSave (s : State) : Answer :=
  if s.filing.clock.saveOwed then .next { s with filing := s.filing.saveClock } else .next s

/-- GUARD_EXPIRY (R165). -/
def execGuardExpiry (s : State) : Answer :=
  if s.filing.guardOut then .next { s with filing := s.filing.closeGuard } else .next s

end Sys2Proof.Machine
end

