-- ==== Sys2Proof/Machine/ExecRequests.lean ====
section
/-! DEFINITION. The meanings of the twenty requests: a post word of the kind drains, the request is taken (R149), and it is
executed within the drain or deferred (R151). What its owner does is in Requests.lean. -/

namespace Sys2Proof.Machine

/-- A post word of kind k drains into its slot and the request is taken (R149, R151). -/
def State.postAs (k : RequestKind) (s : State) : Answer :=
  s.drainAs (.request k) (fun x s =>
    s.drainTo x (s.filing.takeRequest (slotIndex x.cls.zoneOffset) x.write.data k))

/-- SET_MAILBOX (R64). -/
def execSetMailbox (s : State) : Answer := s.postAs .setMailbox

/-- SET_ROUTE (R71). -/
def execSetRoute (s : State) : Answer := s.postAs .setRoute

/-- CLEAR_ROUTE (R72). -/
def execClearRoute (s : State) : Answer := s.postAs .clearRoute

/-- SET_POLICY (R177). -/
def execSetPolicy (s : State) : Answer := s.postAs .setPolicy

/-- SET_CHANNEL_TIMES (R37). -/
def execSetChannelTimes (s : State) : Answer := s.postAs .setChannelTimes

/-- ABORT_INTAKE (R54). -/
def execAbortIntake (s : State) : Answer := s.postAs .abortIntake

/-- ACCEPT (R94). -/
def execAccept (s : State) : Answer := s.postAs .accept

/-- HOLD (R95). -/
def execHold (s : State) : Answer := s.postAs .hold

/-- LIFT_HOLD (R95). -/
def execLiftHold (s : State) : Answer := s.postAs .liftHold

/-- RETAIN (R96). -/
def execRetain (s : State) : Answer := s.postAs .retain

/-- RELEASE (R97). -/
def execRelease (s : State) : Answer := s.postAs .release

/-- PURGE (R100). -/
def execPurge (s : State) : Answer := s.postAs .purge

/-- REFILE (R101). -/
def execRefile (s : State) : Answer := s.postAs .refile

/-- ADD_RECIPIENT (R106). -/
def execAddRecipient (s : State) : Answer := s.postAs .addRecipient

/-- CANCEL_RECIPIENT (R107). -/
def execCancelRecipient (s : State) : Answer := s.postAs .cancelRecipient

/-- TAKE_FORWARD (R110). -/
def execTakeForward (s : State) : Answer := s.postAs .takeForward

/-- DROP_FORWARD (R125). -/
def execDropForward (s : State) : Answer := s.postAs .dropForward

/-- BIND_REVIEW (R131). -/
def execBindReview (s : State) : Answer := s.postAs .bindReview

/-- UNBIND_REVIEW (R133). -/
def execUnbindReview (s : State) : Answer := s.postAs .unbindReview

/-- SET_CLOCK (R146). -/
def execSetClock (s : State) : Answer := s.postAs .setClock

end Sys2Proof.Machine
end

