-- ==== Sys2Proof/Machine/Dispatch.lean ====
section
/-! DEFINITION. One arm per command of the table, in the table's order. -/

namespace Sys2Proof.Machine

def exec (i : Instr) (s : State) : Host.Outcome State Fault Refusal :=
  match i with
  | .powerOn zone gtop chans clksel bankMiB wrapMiB => Sys2Proof.Machine.execPowerOn zone gtop chans clksel bankMiB wrapMiB s
  | .sizingProbe dataError => Sys2Proof.Machine.execSizingProbe dataError s
  | .layoutHeaderCheck dataError => Sys2Proof.Machine.execLayoutHeaderCheck dataError s
  | .freshFormat => Sys2Proof.Machine.execFreshFormat s
  | .recoveryWalk dataErrors => Sys2Proof.Machine.execRecoveryWalk dataErrors s
  | .rebuild => Sys2Proof.Machine.execRebuild s
  | .ready => Sys2Proof.Machine.execReady s
  | .pwarnAssert => Sys2Proof.Machine.execPwarnAssert s
  | .cleanHeaderWrite => Sys2Proof.Machine.execCleanHeaderWrite s
  | .pwarnWithdraw => Sys2Proof.Machine.execPwarnWithdraw s
  | .breset => Sys2Proof.Machine.execBreset s
  | .consumerWordReset => Sys2Proof.Machine.execConsumerWordReset s
  | .writeAccept master addr width data => Sys2Proof.Machine.execWriteAccept master addr width data s
  | .heldWriteAccept => Sys2Proof.Machine.execHeldWriteAccept s
  | .writeDrain => Sys2Proof.Machine.execWriteDrain s
  | .refusedWrite => Sys2Proof.Machine.execRefusedWrite s
  | .postingWordCapture => Sys2Proof.Machine.execPostingWordCapture s
  | .unknown => Sys2Proof.Machine.execUnknown s
  | .consumerWord => Sys2Proof.Machine.execConsumerWord s
  | .headerWord => Sys2Proof.Machine.execHeaderWord s
  | .openCall => Sys2Proof.Machine.execOpenCall s
  | .endCall => Sys2Proof.Machine.execEndCall s
  | .otherCallKind => Sys2Proof.Machine.execOtherCallKind s
  | .dataWrite => Sys2Proof.Machine.execDataWrite s
  | .trailerWord => Sys2Proof.Machine.execTrailerWord s
  | .confirmOk => Sys2Proof.Machine.execConfirmOk s
  | .confirmResend => Sys2Proof.Machine.execConfirmResend s
  | .confirmAbandon => Sys2Proof.Machine.execConfirmAbandon s
  | .boardRead master addr width => Sys2Proof.Machine.execBoardRead master addr width s
  | .unbackedRead master addr width => Sys2Proof.Machine.execUnbackedRead master addr width s
  | .refusedRead master addr width => Sys2Proof.Machine.execRefusedRead master addr width s
  | .mirrorRead master addr width => Sys2Proof.Machine.execMirrorRead master addr width s
  | .faultWordRead master addr width => Sys2Proof.Machine.execFaultWordRead master addr width s
  | .forwardDataRead master addr width => Sys2Proof.Machine.execForwardDataRead master addr width s
  | .forwardSlotRead master addr width => Sys2Proof.Machine.execForwardSlotRead master addr width s
  | .reviewDataRead master addr width => Sys2Proof.Machine.execReviewDataRead master addr width s
  | .boardReadGrant dataError => Sys2Proof.Machine.execBoardReadGrant dataError s
  | .writeAheadWrite => Sys2Proof.Machine.execWriteAheadWrite s
  | .headStoreWrite => Sys2Proof.Machine.execHeadStoreWrite s
  | .resultEntryWrite => Sys2Proof.Machine.execResultEntryWrite s
  | .recordFlush => Sys2Proof.Machine.execRecordFlush s
  | .scrubBegin => Sys2Proof.Machine.execScrubBegin s
  | .scrubLine => Sys2Proof.Machine.execScrubLine s
  | .tick => Sys2Proof.Machine.execTick s
  | .stallExpiry c => Sys2Proof.Machine.execStallExpiry c s
  | .gapExpiry c => Sys2Proof.Machine.execGapExpiry c s
  | .confirmTimeout c => Sys2Proof.Machine.execConfirmTimeout c s
  | .retainDeadline => Sys2Proof.Machine.execRetainDeadline s
  | .retryDeadline => Sys2Proof.Machine.execRetryDeadline s
  | .clockSave => Sys2Proof.Machine.execClockSave s
  | .guardExpiry => Sys2Proof.Machine.execGuardExpiry s
  | .setMailbox => Sys2Proof.Machine.execSetMailbox s
  | .setRoute => Sys2Proof.Machine.execSetRoute s
  | .clearRoute => Sys2Proof.Machine.execClearRoute s
  | .setPolicy => Sys2Proof.Machine.execSetPolicy s
  | .setChannelTimes => Sys2Proof.Machine.execSetChannelTimes s
  | .abortIntake => Sys2Proof.Machine.execAbortIntake s
  | .accept => Sys2Proof.Machine.execAccept s
  | .hold => Sys2Proof.Machine.execHold s
  | .liftHold => Sys2Proof.Machine.execLiftHold s
  | .retain => Sys2Proof.Machine.execRetain s
  | .release => Sys2Proof.Machine.execRelease s
  | .purge => Sys2Proof.Machine.execPurge s
  | .refile => Sys2Proof.Machine.execRefile s
  | .addRecipient => Sys2Proof.Machine.execAddRecipient s
  | .cancelRecipient => Sys2Proof.Machine.execCancelRecipient s
  | .takeForward => Sys2Proof.Machine.execTakeForward s
  | .dropForward => Sys2Proof.Machine.execDropForward s
  | .bindReview => Sys2Proof.Machine.execBindReview s
  | .unbindReview => Sys2Proof.Machine.execUnbindReview s
  | .setClock => Sys2Proof.Machine.execSetClock s
  | .writeQueueFull master addr width data => Sys2Proof.Machine.execWriteQueueFull master addr width data s
  | .malformed => Sys2Proof.Machine.execMalformed s
  | .busy => Sys2Proof.Machine.execBusy s
  | .narrowPostWord => Sys2Proof.Machine.execNarrowPostWord s
  | .confirmWordOutOfPlace => Sys2Proof.Machine.execConfirmWordOutOfPlace s
  | .powerLoss written => Sys2Proof.Machine.execPowerLoss written s
  | .bresetWithdraw => Sys2Proof.Machine.execBresetWithdraw s

end Sys2Proof.Machine
end

