-- ==== Sys2Proof/Safety.lean ====
section
/-! DEFINITION. The terms the statements use: a sound state of the part, the banks canonical and the board path within its
limits, which every step keeps; the conditions of a command's event; the entries of the result ring and its filling; the words
of entries and records, spelled from the tables; what a close and a release bring about. -/

namespace Sys2Proof.Machine

/-- Both banks are in canonical form. -/
def Store.canonical (st : Store) : Bool := st.general.wf && st.page.wf

/-- The Write Staging Queue holds at most 16 writes, the starvation count is at most 16 (R9, R16). -/
def Board.bounded (b : Board) : Bool :=
  decide (b.queue.length ≤ Config.queueDepth) && decide (b.starve ≤ Config.starveLimit)

/-- The queue's head alone can have drained: there is no head work on an empty queue (R10). -/
def Board.headStaged (b : Board) : Bool := b.head.isNone || !b.queue.isEmpty

/-- A sound state. -/
def State.sound (s : State) : Bool := s.store.canonical && s.board.bounded && s.board.headStaged

/-! ## Conditions in which a command's event occurs -/

/-- The part runs and no event of the last tick is owed. -/
def State.calm (s : State) : Bool := s.filing.running && s.filing.settled

/-- The write at the queue's head has not drained, and it is x. -/
def State.offers (s : State) (x : Staged) : Bool := s.board.head.isNone && s.board.queue.head? == some x

/-- The write at the queue's head has not drained, it is x, and the master check allows it. -/
def State.drains (s : State) (x : Staged) : Bool :=
  s.calm && s.offers x && x.cls.writeAllowed x.write.master.toNat

/-- A read that the port would take now. -/
def State.reads (s : State) (addr : Word) (w : Width) : Bool := s.calm && s.canTake && aligned addr w

/-- The next grant goes to kind k. -/
def State.grants (s : State) (k : Kind) : Bool := s.calm && s.nextKind == some k

/-- The Start-up Controller stands at phase p, and the next grant is its own. -/
def State.startsAt (s : State) (p : Phase) : Bool := s.filing.boot.phase == p && s.nextKind == some .flush

/-- The command whose unit the next grant carries out, from READY onwards. -/
def State.grantCommand (s : State) : Option Instr :=
  match s.nextKind with
  | some .read => some (.boardReadGrant none)
  | some .ahead => some .writeAheadWrite
  | some .head => some .headStoreWrite
  | some .result => some (if s.filing.ring.resetWaits then .consumerWordReset else .resultEntryWrite)
  | some .flush => some (if s.flushUnit = some .clean then .cleanHeaderWrite else .recordFlush)
  | some .scrub => some .scrubLine
  | none => none

/-- The command that a read of a class is (R3 to R6). -/
def readCommand (m : BitVec 5) (addr : Word) (w : Width) : AddrClass → Instr
  | .plain _ => .boardRead m addr w
  | .relocated _ => .boardRead m addr w
  | .unbacked => .unbackedRead m addr w
  | .zoneUnbacked => .unbackedRead m addr w
  | .control z =>
    if 24 < m.toNat then .refusedRead m addr w
    else if m = 0 ∧ inFaultWord z = true then .faultWordRead m addr w
    else .mirrorRead m addr w
  | .landing _ _ => .refusedRead m addr w
  | .forward c o =>
    if m.toNat ≠ c then .refusedRead m addr w
    else if o < 1048448 then .forwardDataRead m addr w
    else .forwardSlotRead m addr w
  | .review _ _ => if m ≠ 0 then .refusedRead m addr w else .reviewDataRead m addr w

/-- The command that posts a request. -/
def requestCommand : RequestKind → Instr
  | .setMailbox => .setMailbox
  | .setRoute => .setRoute
  | .clearRoute => .clearRoute
  | .setPolicy => .setPolicy
  | .setChannelTimes => .setChannelTimes
  | .abortIntake => .abortIntake
  | .accept => .accept
  | .hold => .hold
  | .liftHold => .liftHold
  | .release => .release
  | .purge => .purge
  | .refile => .refile
  | .retain => .retain
  | .addRecipient => .addRecipient
  | .cancelRecipient => .cancelRecipient
  | .takeForward => .takeForward
  | .dropForward => .dropForward
  | .bindReview => .bindReview
  | .unbindReview => .unbindReview
  | .setClock => .setClock

/-- Two states of the filing blocks agree but for what reports an event: the ring, the dirty marks and the monitors. -/
def Filing.agrees (f g : Filing) : Prop :=
  f.boot = g.boot ∧ f.clock = g.clock ∧ f.blocks = g.blocks ∧ f.scrubber = g.scrubber ∧ f.dir = g.dir ∧
    f.channels = g.channels ∧ f.boxes = g.boxes ∧ f.queue = g.queue ∧ f.bindings = g.bindings ∧ f.posting = g.posting

/-! ## Notices -/

/-- A notice raised between f and g is told at g: it is produced behind what waited before, or stands in the pending notice
set, or a full set has lost it, the lost count rising to 65,535 at most (R153, R156, R157). -/
def Filing.tells (f g : Filing) (kind : NoticeKind) (doc : Option Nat) (item : KeyItem) (code : Nat) (args : List Word) :
    Prop :=
  let n : Notice := { key := { kind := kind, doc := doc, item := item }, code := code, args := args, time := f.now }
  (∃ e ∈ g.ring.waiting.drop f.ring.waiting.length, e.kind = kind.code ∧ e.code = code ∧ e.slot = none ∧
    e.time = f.now ∧ e.args = args) ∨
  n ∈ g.ring.pending ∨
  (256 ≤ g.ring.pending.length ∧ (∀ x ∈ g.ring.pending, x.key ≠ n.key) ∧
    (f.ring.lost < g.ring.lost ∨ 65535 ≤ g.ring.lost))

/-- What an empty first-fault capture takes of a LOW latch event (R169, Tables 33 and 41). -/
def lowCapture (free floor : Nat) (now : Time) : Capture :=
  { monitor := .low, channel := none, master := none, doc := none,
    detail := packWord [(0, 16, free), (16, 16, floor)], time := now }

/-- STORE_LOW and FAULT are told of a LOW latch event at F = free and Rf = floor (R171, R173). -/
def Filing.lowTold (f g : Filing) (free floor : Nat) : Prop :=
  f.tells g .storeLow none .none 0 [argNat free, argNat floor] ∧
  f.tells g .fault none (.monitor .low) 4
    [packWord [(0, 8, 0xFF), (8, 8, 0xFF)], 0xFFFFFFFF#32, packWord [(0, 16, free), (16, 16, floor)]]

/-! ## Results and the result ring -/

/-- The result codes, in the order of their codes 00h to 0Bh (R193). -/
def resultCodes : List ResultCode :=
  [.ok, .empty, .busy, .malformed, .unknown, .range, .noEntry, .state, .wall, .held, .full, .duplicate]

/-- The notices, in the order of their kinds 01h to 0Dh (Table 40). -/
def noticeKinds : List NoticeKind :=
  [.intakeOpened, .intakeRefused, .pageClosed, .docClosed, .recipientDone, .recipientRetry, .recipientFailed, .unbound,
   .released, .mailboxOver, .storeLow, .fault, .started]

/-- The monitors, in the order of their codes 0 to 9 (Table 41). -/
def monitorOrder : List Monitor :=
  [.stall, .gap, .confirm, .short, .low, .overQuota, .stray, .protection, .parity, .torn]

/-- f with an entry produced (R152): it has the position at the production index and the sequence number, both advance, and it
waits behind the entries produced before. -/
def Filing.withEntry (f : Filing) (kind code : Nat) (slot : Option (Nat × Nat)) (time : Time) (args : List Word) (own : Bool) :
    Filing :=
  { f with ring := { f.ring with
      production := f.ring.production + 1, sequence := f.ring.sequence + 1
      waiting := f.ring.waiting ++ [{ pos := f.ring.production, seq := f.ring.sequence, kind := kind, code := code,
                                      slot := slot, time := time, args := args, own := own }] } }

/-- f with a RESULT entry of kind 00h produced, with slot, tag, code, arguments and time (R153, R193). `own`: its writing returns
the slot to IDLE, as that of a BUSY does not (R150). -/
def Filing.withResult (f : Filing) (slot tag : Nat) (code : ResultCode) (args : List Word) (time : Time) (own : Bool) :
    Filing :=
  f.withEntry 0 (resultCodes.idxOf code) (some (slot, tag)) time args own

/-- f with the entry of a notice produced, its kind 01h to 0Dh, no slot and no tag (R153, R193). -/
def Filing.withNotice (f : Filing) (n : Notice) : Filing :=
  f.withEntry (noticeKinds.idxOf n.key.kind + 1) n.code none n.time n.args false

/-- The ring has a position to produce into (R152). -/
abbrev Filing.ringRoom (f : Filing) : Prop := f.ring.production - f.ring.consumer ≠ 255#8

/-- The ring has room and nothing waits for it (R151). -/
abbrev Filing.roomy (f : Filing) : Prop := f.ringRoom ∧ f.ring.pending = [] ∧ f.posting.deferred = []

/-- g is f with one step of the filling taken (R158): while the ring has room the first pending notice is produced; with none
pending the head of the deferred list is taken: a result or BUSY is produced, a request is executed in the state it then
finds, its result produced behind its notices where none of them waits and the ring has room, and else placed at the list's
head (R159). -/
def Filing.fillsOne (f g : Filing) : Prop :=
  f.ringRoom ∧
  ((∃ n ns, f.ring.pending = n :: ns ∧
      g = ({ f with ring := { f.ring with pending := ns } } : Filing).withNotice n) ∨
   (f.ring.pending = [] ∧ ∃ d ds, f.posting.deferred = d :: ds ∧
      let h : Filing := { f with posting := { f.posting with deferred := ds } }
      match d with
      | .result k tag code args time => g = h.withResult k tag code args time true
      | .busy k tag time => g = h.withResult k tag .busy [] time false
      | .request k tag kind ops =>
        let e := execute kind ops h
        (e.filing.ring.pending = [] ∧ e.filing.ringRoom →
          g = e.filing.withResult k tag e.code e.args e.filing.now true) ∧
        (¬ (e.filing.ring.pending = [] ∧ e.filing.ringRoom) →
          g = { e.filing with posting := { e.filing.posting with
            deferred := .result k tag e.code e.args e.filing.now :: e.filing.posting.deferred } })))

/-- g is f filled in n steps: the ring is full, or nothing waits for it any longer (R158). -/
def Filing.fills : Nat → Filing → Filing → Prop
  | 0, f, g => g = f ∧ (¬ f.ringRoom ∨ (f.ring.pending = [] ∧ f.posting.deferred = []))
  | n + 1, f, g => ∃ h, f.fillsOne h ∧ Filing.fills n h g

/-! ## The words of entries and records -/

/-- A small field; none is FFh (R190). -/
def fieldOf (v : Option Nat) : Nat := v.getD 0xFF

/-- A reference that fills a word; none is FFFFFFFFh (R190). -/
def referenceOf (v : Option Nat) : Word := match v with
  | some n => BitVec.ofNat 32 n
  | none => 0xFFFFFFFF#32

/-- The bit of a flag. -/
def bitOf (b : Bool) : Nat := if b then 1 else 0

/-- n words of a byte string, first byte first, zero beyond its length (R190; which byte of a word is the first, log entry
1). -/
def textWords (n : Nat) (bs : List Byte) : List Word :=
  (List.range n).map (fun i => packWord ((List.range 4).map (fun j => (8 * j, 8, (bs.getD (4 * i + j) 0).toNat))))

/-- The character codes of a digit string: 0 to 9, then * and # (R190). -/
def textOf (ds : List Digit) : List Byte :=
  let codes : List Byte := [0x30, 0x31, 0x32, 0x33, 0x34, 0x35, 0x36, 0x37, 0x38, 0x39, 0x2A, 0x23]
  ds.map (fun d => codes.getD d.val 0)

/-- A record's other words with its check word behind them, which makes their sum FFFFFFFFh (R166). -/
def withCheck (ws : List Word) : List Word := ws ++ [0xFFFFFFFF#32 - ws.foldl (· + ·) 0]

/-- The eight words of an entry (R193, R194). -/
def Entry.layout (e : Entry) : List Word :=
  [packWord [(0, 16, e.seq.toNat), (16, 8, e.kind), (24, 8, e.code)],
   (match e.slot with
    | some (k, tag) => packWord [(0, 8, k), (16, 16, tag)]
    | none => 0),
   e.time, 0, e.args.getD 0 0, e.args.getD 1 0, e.args.getD 2 0, e.args.getD 3 0]

/-- The status record from READY onwards, where the progress code is 0Fh (Table 38, R179): the fault word twice, the capture's
four words, F, the scrub count, progress and CLOCK_STALE, the two indices, the lost count. -/
def Filing.statusLayout (f : Filing) : List Word :=
  let fault := packWord [(0, 10, f.monitors.latches.toNat),
    (16, 1, bitOf (decide (f.blocks.free.length ≤ f.monitors.policy.floor)))]
  [fault, fault] ++
    (match f.monitors.capture with
     | none => [0, 0, 0, 0]
     | some k => [packWord [(0, 8, monitorOrder.idxOf k.monitor), (8, 8, fieldOf k.channel), (16, 8, fieldOf k.master), (31, 1, 1)],
                  referenceOf k.doc, k.detail, k.time]) ++
    [BitVec.ofNat 32 f.blocks.free.length, BitVec.ofNat 32 f.blocks.scrub.length,
     packWord [(0, 8, 0x0F), (8, 1, bitOf f.clock.stale)],
     packWord [(0, 8, f.ring.producer.toNat), (8, 8, f.ring.consumer.toNat)],
     BitVec.ofNat 32 f.ring.lost, 0, 0, 0, 0, 0]

/-- Words 32 to 47 of a channel record (Table 42). -/
def Channel.layout (ch : Channel) : List Word :=
  let states : List ChannelState := [.idle, .gap, .page, .discard, .send, .locked]
  [referenceOf ch.info.doc, packWord [(0, 8, ch.info.recipient), (16, 16, ch.info.seq)], BitVec.ofNat 32 ch.info.length,
   BitVec.ofNat 32 ch.info.pages,
   packWord [(0, 8, states.idxOf ch.state), (8, 8, fieldOf (ch.lastFault.map (fun m => monitorOrder.idxOf m))),
             (16, 1, bitOf ch.lockPending)],
   referenceOf ch.doc, referenceOf ch.openPage, referenceOf ch.mark, BitVec.ofNat 32 ch.stallTime,
   BitVec.ofNat 32 ch.gapTime, BitVec.ofNat 32 ch.confirmTime, 0, 0, 0, 0, 0]

/-- A mailbox record (Table 43). -/
def Mailbox.layout (b : Mailbox) : List Word :=
  let classes : List MailClass := [.urgent, .normal, .bulk]
  let target (i : Nat) : List Digit := b.defaults.getD i []
  withCheck
    ([packWord [(0, 4, bitOf b.shut), (4, 4, classes.idxOf b.cls), (8, 1, bitOf b.strict), (9, 1, bitOf b.overQuota),
                (12, 4, b.group), (16, 16, b.excludes.toNat)],
      BitVec.ofNat 32 b.quota, BitVec.ofNat 32 b.usage, BitVec.ofNat 32 b.hours,
      packWord [(0, 8, b.defaults.length), (8, 8, (target 0).length), (16, 8, (target 1).length)]] ++
      textWords 5 (textOf (target 0)) ++ textWords 5 (textOf (target 1)))

/-- A routing record (Table 43): the pattern's 4-bit codes from bit 0 of its first word on (R190). -/
def routeLayout (r : Option Route) : List Word := match r with
  | none => withCheck [0, 0, 0]
  | some r =>
    let digits (ds : List Digit) : Word := packWord ((ds.take 8).zipIdx.map (fun x => (4 * x.2, 4, x.1.val)))
    withCheck
      [packWord [(0, 8, if r.kind = .exact then 1 else 2), (8, 8, r.pattern.length), (16, 8, r.mailbox)], digits r.pattern,
       digits (r.pattern.drop 8)]

/-- The policy record (Table 43). -/
def Policy.layout (p : Policy) : List Word :=
  withCheck ([BitVec.ofNat 32 p.floor, BitVec.ofNat 32 (bitOf p.lockout), BitVec.ofNat 32 p.masks.toNat,
    BitVec.ofNat 32 p.retryBase] ++ List.replicate 11 0)

/-- The ten words of a recipient place (R196; an EMPTY one, log entry 57). -/
def Recipient.layout (r : Recipient) : List Word :=
  let states : List RecipientState := [.empty, .pending, .ready, .active, .retryWait, .done, .failed, .cancelled]
  let classes : List MailClass := [.urgent, .normal, .bulk]
  [packWord [(0, 8, states.idxOf r.state), (8, 8, classes.idxOf r.cls), (16, 8, r.target.length), (24, 8, r.attempts)],
   packWord [(0, 16, r.nextPage), (16, 8, r.resend), (24, 8, fieldOf r.channel)], r.retryDue.getD 0] ++
    textWords 5 (textOf r.target) ++ [0, 0]

/-- A document record (Table 44). -/
def Doc.layout (d : Doc) : List Word :=
  let states : List DocState := [.free, .receiving, .filed, .review]
  let closures : List Closure := [.opened, .lastPage, .callEnded, .stalled, .gapExpired, .aborted, .refused, .recovered]
  withCheck
    ([packWord [(0, 8, states.idxOf d.state), (8, 8, closures.idxOf d.closure), (16, 8, d.mailbox), (24, 8, fieldOf d.channel)],
      packWord [(0, 8, d.gen), (8, 1, bitOf d.hold), (9, 1, bitOf d.expired), (10, 1, bitOf d.rerouted),
                (11, 1, bitOf d.damaged), (12, 1, bitOf d.retention.isSome), (16, 8, d.digits.length), (24, 8, d.caller.length)],
      d.arrival.getD 0, d.closed.getD 0, d.retention.getD 0, BitVec.ofNat 32 d.pageCount, referenceOf d.firstPage,
      BitVec.ofNat 32 d.blockTotal] ++ textWords 4 (textOf d.digits) ++ textWords 5 d.caller ++ [0, 0, 0] ++
      (d.recipient 0).layout ++ (d.recipient 1).layout ++ (d.recipient 2).layout ++ (d.recipient 3).layout ++ [0, 0, 0])

/-- The three words of a page entry ahead of its check word, and the page's close time word (R189, R196). -/
def Page.layout (g : Page) : List Word × Word :=
  let states : List PageState := [.free, .landing, .closed]
  ([packWord [(0, 2, states.idxOf g.state), (2, 1, bitOf g.truncated), (3, 1, bitOf g.estimated), (4, 1, bitOf g.short),
              (5, 1, bitOf g.parity), (6, 8, g.holes), (14, 10, g.seq), (24, 8, g.count)],
    packWord [(0, 21, g.length), (21, 10, g.owner)],
    packWord [(0, 16, if g.count = 0 then 0 else g.first.getD 0), (16, 14, g.next.getD 0x3FFF)]], g.closed.getD 0)

/-- A block table entry's word (R196): a LANDING or FILED block shows its next link (R24; the index bits of any other, and the
block bits without a link, log entry 46). -/
def BlockEntry.layout (b : BlockEntry) : Word :=
  let states : List BlockState := [.reserved, .free, .scrub, .landing, .filed]
  match (if b.state = .landing ∨ b.state = .filed then b.next else none) with
  | some n => packWord [(0, 3, states.idxOf b.state), (8, 7, b.index), (15, 1, 1), (16, 16, n)]
  | none => packWord [(0, 3, states.idxOf b.state), (8, 7, b.index)]

/-- What stands in the page bank once record r has been flushed from READY onwards: runs of words, each with its page bank byte
(Table 37). -/
def Filing.layout (f : Filing) : RecordId → List (Nat × List Word)
  | .layoutHeader =>
    [(0, withCheck [0x24160001#32, BitVec.ofNat 32 f.mirror.sizeMiB, BitVec.ofNat 32 (bitOf f.mirror.clean), f.mirror.saved,
                    0, 0, 0])]
  | .status => [(0x40, f.statusLayout)]
  | .channel c => [(0x4000 + 0x100 * (c - 1) + 128, (f.chan c).layout)]
  | .mailbox m => [(0x6000 + 0x40 * m, (f.mailbox m).layout)]
  | .route e => [(0x7000 + 0x10 * e, routeLayout (f.route e))]
  | .policy => [(0x7800, f.monitors.policy.layout)]
  | .document k => [(0x8000 + 0x100 * k, (f.doc k).layout)]
  | .page p =>
    let g := (f.page p).layout
    [(0x48000 + 0x10 * p, g.1 ++ [0xFFFFFFFF#32 - (g.1 ++ [g.2]).foldl (· + ·) 0]), (0x68000 + 4 * p, [g.2])]
  | .block n => [(0xC0000 + 4 * n, [(f.block n).layout])]

/-! ## What a close and a release bring about -/

/-- Channel c closes its open page p of the document in slot k with length l, from f to g (R25, R26, R48): the page record is
complete, its blocks below ⌈l / 8,192⌉ are FILED and chained in rising index, the others are at the scrub chain's tail in
rising index, usage and block total lose those, and PAGE_CLOSED is told (Table 40). -/
def Filing.pageClosed (f g : Filing) (c p k l : Nat) (forced est : Bool) : Prop :=
  let ch := f.chan c
  let m := (f.doc k).mailbox
  let chain := f.pageChain p
  let index (n : Nat) : Nat := (f.block n).index
  let keep := (l + 8191) / 8192
  let kept := chain.filter (fun n => decide (index n < keep))
  let trimmed := chain.filter (fun n => decide (keep ≤ index n))
  g.page p = { f.page p with
    state := .closed, length := l, first := (g.page p).first, count := kept.length
    holes := ((List.range keep).filter (fun j => (Tbl.find ch.map j).isNone)).length
    truncated := (f.page p).truncated || forced, estimated := (f.page p).estimated || est, closed := some f.now } ∧
  (∀ n ∈ kept, (g.block n).state = .filed ∧ (g.block n).index = index n) ∧
  (∀ n ∈ trimmed, g.block n = { state := .scrub, index := 0, next := none }) ∧
  (∀ n, n ∉ chain → g.block n = f.block n) ∧ g.blocks.free = f.blocks.free ∧
  (∀ n ∈ chain, g.dirty (.block n) = true) ∧ g.dirty (.page p) = true ∧
  ((chain.map index).Nodup →
    (g.pageChain p).Perm kept ∧ (g.pageChain p).Pairwise (fun a b => index a < index b) ∧
    ∃ ts, ts.Perm trimmed ∧ ts.Pairwise (fun a b => index a < index b) ∧ g.blocks.scrub = f.blocks.scrub ++ ts) ∧
  ((f.doc k).pageCount ≠ 0 →
    (g.mailbox m).usage = (f.mailbox m).usage - trimmed.length ∧
    (g.doc k).blockTotal = (f.doc k).blockTotal - trimmed.length) ∧
  f.tells g .pageClosed (some (f.docId k)) (.channel c) 0
    [argNat (f.docId k), packWord [(0, 8, c), (16, 16, (f.page p).seq)], argNat l,
     packWord [(0, 8, (g.page p).holes), (8, 1, flag (g.page p).truncated), (9, 1, flag (g.page p).estimated),
               (10, 1, flag (g.page p).short), (11, 1, flag (g.page p).parity)]]

/-- The document in slot k, received on channel c, closes with closure cl, from f to g, its pages closed by then (R91 to
R93): with no page its slot is FREE; else it is FILED or REVIEW by the strict flag, the closure and its pages' damage, its
retention follows the mailbox's hours, and a FILED one's PENDING recipients are READY in ascending index. DOC_CLOSED is told
with the outcome EMPTY, FILED or REVIEW (Table 40). -/
def Filing.docClosed (f g : Filing) (c k : Nat) (cl : Closure) : Prop :=
  let d := f.doc k
  let b := f.mailbox d.mailbox
  let damaged := (f.docPages k).any (fun p => (g.page p).damaged)
  let st : DocState := if b.strict = true ∧ (cl ≠ .lastPage ∨ damaged = true) then .review else .filed
  let dueAt : Time := f.now + BitVec.ofNat 32 (b.hours * 360000)
  let joins (cls : MailClass) : List (Nat × Nat) :=
    if st = .filed then
      ([0, 1, 2, 3].filter (fun i => (d.recipient i).state == .pending && (d.recipient i).cls == cls)).map (fun i => (k, i))
    else []
  let told (code : Nat) (hurt : Bool) (total : Nat) : Prop :=
    f.tells g .docClosed (some (f.docId k)) (.channel c) code
      [argNat (f.docId k), packWord [(0, 8, c), (8, 8, d.mailbox), (16, 8, cl.code), (31, 1, flag hurt)],
       argNat d.pageCount, argNat total]
  (∀ j, j ≠ k → g.doc j = f.doc j) ∧
  (d.pageCount = 0 →
    g.doc k = Doc.freed ((d.gen + 1) % 64) ∧ g.queue = f.queue ∧
    g.clock.deadlines = f.clock.deadlines.filter (fun e => !(e.slot == k && e.gen == d.gen)) ∧
    ∃ total, total ≤ d.blockTotal ∧ ((f.chan c).openPage = none → total = d.blockTotal) ∧ told 3 d.damaged total) ∧
  (d.pageCount ≠ 0 →
    g.doc k = { d with
      state := st, closure := cl, closed := some f.now, damaged := d.damaged || damaged
      retention := if b.hours = 0 then none else some dueAt
      blockTotal := (g.doc k).blockTotal, recipients := (g.doc k).recipients } ∧
    (∀ i, i < 4 → (g.doc k).recipient i =
      if st = .filed ∧ (d.recipient i).state = .pending then { d.recipient i with state := .ready } else d.recipient i) ∧
    g.queue = { urgent := f.queue.urgent ++ joins .urgent, normal := f.queue.normal ++ joins .normal,
                bulk := f.queue.bulk ++ joins .bulk } ∧
    g.clock.deadlines =
      (if b.hours = 0 then f.clock.deadlines
       else placeDeadline f.now { kind := .retain, slot := k, gen := d.gen, due := dueAt } f.clock.deadlines) ∧
    told (if st = .filed then 1 else 2) (d.damaged || damaged) (g.doc k).blockTotal)

/-- RELEASED is told of the document that f holds in slot k, then filed to mailbox m (R99, Table 40). -/
def Filing.releaseTold (f g : Filing) (k m : Nat) : Prop :=
  f.tells g .released (some (f.docId k)) .none 0
    [argNat (f.docId k), argNat m, argNat (f.doc k).pageCount, argNat (f.doc k).blockTotal]

/-- The document in slot k is released, from f to g (R99): every block of every page is at the scrub chain's tail, pages and
blocks in order; every page record is FREE at the free page list's tail; the block total is returned from the mailbox's
usage; no deadline entry names it; its slot is FREE with the next generation; RELEASED is told. -/
def Filing.docReleased (f g : Filing) (k : Nat) : Prop :=
  let d := f.doc k
  let ps := f.docPages k
  let ns := ps.flatMap (fun p => f.pageChain p)
  g.doc k = Doc.freed ((d.gen + 1) % 64) ∧ g.dirty (.document k) = true ∧
  g.blocks.scrub = f.blocks.scrub ++ ns ∧ g.blocks.free = f.blocks.free ∧
  (∀ n ∈ ns, g.block n = { state := .scrub, index := 0, next := none } ∧ g.dirty (.block n) = true) ∧
  (∀ n, n ∉ ns → g.block n = f.block n) ∧
  (∀ p ∈ ps, g.page p = Page.freed ∧ g.dirty (.page p) = true) ∧ (∀ p, p ∉ ps → g.page p = f.page p) ∧
  g.dir.freePages = f.dir.freePages ++ ps ∧ g.dir.withheld = f.dir.withheld ++ ps.map (fun p => (k, p)) ∧
  (g.mailbox d.mailbox).usage = (f.mailbox d.mailbox).usage - d.blockTotal ∧ g.dirty (.mailbox d.mailbox) = true ∧
  (∀ m, m ≠ d.mailbox → g.mailbox m = f.mailbox m) ∧
  g.clock.deadlines = f.clock.deadlines.filter (fun e => !(e.slot == k && e.gen == d.gen)) ∧
  f.releaseTold g k d.mailbox

/-- The tables as the recovery walk leaves them for the rebuild (R184): the Block Table lists blocks 128 to N − 1; a FREE slot is
empty; a document's list holds its own pages, each once, as many as its count; the chain of a page that is not FREE is as
long as its count and takes LANDING and FILED blocks, each in one place of one chain. -/
def Filing.walked (f : Filing) : Prop :=
  let kept (p : Nat) : Prop := (f.page p).state ≠ .free
  f.blocks.entries.map (fun x => x.1) = (List.range (f.blockCount - 128)).map (128 + ·) ∧
  (∀ k, ((f.doc k).state = .free ∨ 1024 ≤ k) → f.doc k = Doc.freed (f.doc k).gen) ∧
  (∀ k, (f.docPages k).Nodup ∧ (f.docPages k).length = (f.doc k).pageCount ∧
    ∀ p ∈ f.docPages k, kept p ∧ (f.page p).owner = k) ∧
  (∀ p, kept p → p ∈ f.docPages (f.page p).owner ∧ (f.pageChain p).length = (f.page p).count ∧ (f.pageChain p).Nodup ∧
    ∀ n ∈ f.pageChain p, 128 ≤ n ∧ n < f.blockCount ∧ ((f.block n).state = .landing ∨ (f.block n).state = .filed)) ∧
  ∀ p q, kept p → kept q → p ≠ q → ∀ n ∈ f.pageChain p, n ∉ f.pageChain q

/-- The document in slot k is FREE after the rebuild: an interrupted call that has no page, or a document that nothing holds
once EXPIRED is set (R91, R98, R185). -/
def Filing.goesAtRebuild (f : Filing) (k : Nat) : Prop :=
  let d := f.doc k
  (d.state = .receiving ∧ d.pageCount = 0) ∨
    (d.hold = false ∧ d.expired = true ∧ d.anyLive = false ∧ f.bound (f.docId k) = false)

/-- A word of ones as wide as a transaction. -/
def onesWord (w : Width) : Word := bytesWord (List.replicate w.bytes 0xFF)

/-- The port idle, the read's data on the board bus. -/
def Board.served (b : Board) (m : BitVec 5) (addr : Word) (w : Width) (data : Word) : Board :=
  { b with port := .idle, reply := some { master := m, addr := addr, width := w, data := data } }

/-- The read in the port, waiting as given. -/
def Board.holding (b : Board) (m : BitVec 5) (addr : Word) (w : Width) (cls : AddrClass) (p : ReadPhase)
    (noted : Option (BitVec 10 × Bool)) : Board :=
  { b with port := .readHeld { master := m, addr := addr, width := w, cls := cls, phase := p, noted := noted } }

/-- The record whose flush a read may wait for, once no staged write stands in its way: that of a master-0 control window read
from READY onwards, and channel record c of a read of forward aperture c's slots (R163). -/
def State.readRecordOf (s : State) (h : HeldRead) : Option RecordId := match h.cls with
  | .control z =>
    if h.master = 0 ∧ s.filing.boot.phase = .running then (recordAt s.filing.blockCount z).map RecordPlace.record else none
  | .forward c o => if o < 1048448 then none else some (.channel c)
  | _ => none

/-- The page whose bytes a data area read shows (R114, R134). -/
def State.readPageOf (s : State) (h : HeldRead) : Option Nat := match h.cls with
  | .forward c _ => if (s.filing.chan c).state = .send then (s.filing.chan c).sending else none
  | .review r _ => (s.filing.binding r).map Binding.page
  | _ => none

/-- The read h has gone on at t, no staged write standing in its way (R12, R13, R114, R134, R163): one of a record that is dirty
and not guarded waits for the flush, which is demanded; a data area read that its owner answers with zero bytes is served;
every other waits for the store bus. -/
def State.readGoesOn (t : State) (h : HeldRead) : Prop :=
  let waitsFor (p : ReadPhase) : Prop := t.board.port = .readHeld { h with phase := p }
  let dataArea (o : Nat) : Prop :=
    let found : Prop := ∃ p n, t.readPageOf h = some p ∧ o < (t.filing.page p).length ∧
      t.filing.blockAt p (o / 8192) = some n
    (found → waitsFor .store) ∧
    (¬ found → t.board.port = .idle ∧
      t.board.reply = some { master := h.master, addr := h.addr, width := h.width, data := 0 })
  (∀ r, t.readRecordOf h = some r →
    (t.filing.dirty r = true → t.filing.isGuarded r = false →
      waitsFor (.flush r) ∧ t.filing.mirror.flushList.head? = some r) ∧
    ((t.filing.dirty r = false ∨ t.filing.isGuarded r = true) → waitsFor .store)) ∧
  (∀ c o, h.cls = .forward c o → o < 1048448 → dataArea o) ∧ (∀ r o, h.cls = .review r o → dataArea o) ∧
  (t.readRecordOf h = none → (∀ c o, h.cls ≠ .forward c o) → (∀ r o, h.cls ≠ .review r o) → waitsFor .store)

/-- A staged write stands in the way of the read: one to its 32-byte line of the general bank, or one of its master (R12,
R13). -/
def Board.bars (b : Board) (h : HeldRead) : Prop := match h.cls.general with
  | some g => ∃ x ∈ b.queue, ∃ g', x.cls.general = some g' ∧ g' / 32 = g / 32
  | none => ∃ x ∈ b.queue, x.write.master = h.master

/-- The store destination at the head of the queue, nothing waited for. -/
def Board.await (b : Board) (d : Dest) : Board := { b with head := some { dest := d, ahead := none } }

end Sys2Proof.Machine
end

