-- ==== Sys2Proof/Certificates/Slice0/Obligations.lean ====
section
/-! DEFINITION. The statements for the provers, by subject: the queue of commands and the invariant, the board path, drains,
grants, start-up and power, time, and the records of the page bank. -/

open Sys2Proof Sys2Proof.Machine

/-! ## The queue of commands, reset and the invariant -/

/-- A step takes the command at the front of the queue and runs it on the state with the queue's rest. -/
def Obligations.StepTakesFrontCommand : Prop :=
  ∀ (c : Instr) (s : State), step { s with pending := c :: s.pending } = exec c s

/-- Power-on values: board path (R1, R9, R16), Block Table and Scrub Unit (R19, R33), channels (R35, R37, R38), review
bindings (R130), clock (R139, R142), posting and ring (R148, R152, R155, R160), Mirror Unit (R167), monitors (R178).
That T and the timer settings have values here already, 0 and 20, 60 and 30, is the model's choice of what an unset
field reads as (log entry 4): R139 has T held at power-on, R35 has the settings restored by recovery or a fresh
format's. -/
def Obligations.ResetIsPowerOn : Prop :=
  let f := State.reset.filing
  (State.reset.board.port = .idle ∧ State.reset.board.queue = [] ∧ State.reset.board.head = none ∧
    State.reset.board.starve = 0) ∧
  (f.freeCount = 0 ∧ f.scrubCount = 0 ∧ f.scrubber = .idle ∧ f.blocks.entries = []) ∧
  (∀ c, (f.chan c).state = .idle ∧ (f.chan c).timer = none ∧ (f.chan c).doc = none ∧ (f.chan c).lastFault = none ∧
    (f.chan c).lockPending = false ∧ (∀ i, (f.chan c).headerWord i = 0) ∧
    (f.chan c).stallTime = 20 ∧ (f.chan c).gapTime = 60 ∧ (f.chan c).confirmTime = 30) ∧
  (∀ r, f.binding r = none) ∧
  (f.now = 0 ∧ f.clock.stale = true ∧ f.clock.deadlines = []) ∧
  (∀ x, (f.slot x).state = .idle ∧ (f.slot x).words = [] ∧ (f.slot x).written = 0 ∧ (f.slot x).malformed = false) ∧
  (f.posting.deferred = [] ∧ f.ring.pending = [] ∧ f.ring.production = 0 ∧ f.ring.producer = 0 ∧ f.ring.consumer = 0 ∧
    f.ring.sequence = 0 ∧ f.ring.lost = 0 ∧ State.reset.attn = false) ∧
  (f.mirror.flushList = [] ∧ f.mirror.guarded = none) ∧
  (f.monitors.latches = 0 ∧ f.monitors.capture = none)

/-- The invariant holds at reset. -/
def Obligations.SoundAtReset : Prop := State.reset.sound = true

/-- Every step keeps the invariant: both banks canonical, at most 16 staged writes (R9), a starvation count of at most
16 (R16), and head work only while a write is staged (R10). -/
def Obligations.StepKeepsSound : Prop :=
  ∀ s t : State, s.sound = true → step s = .next t → t.sound = true

/-! ## Zone Decoder -/

/-- R3, whole: outside the zone an address is plain, relocated or unbacked by the three tests; no plain address is one
of Z to Z + D − 1; the general addresses below Gt are each reached by exactly one board address; no master check
applies. -/
def Obligations.GeneralClasses : Prop :=
  ∀ st : Straps, 1 ≤ st.zone → st.zone ≤ 15 → st.gtop ≤ 63 →
    (∀ a, ¬ (st.zoneBase ≤ a ∧ a < st.zoneBase + 64 * 1048576) →
      (a < st.generalTop → st.classify a = .plain a) ∧
      (st.generalTop ≤ a → 0 < st.displaced → st.window ≤ a → a < st.window + st.displaced →
        st.classify a = .relocated (a - st.window + st.zoneBase)) ∧
      (st.generalTop ≤ a → ¬ (0 < st.displaced ∧ st.window ≤ a ∧ a < st.window + st.displaced) →
        st.classify a = .unbacked) ∧
      (∀ m, (st.classify a).readAllowed m = true ∧ (st.classify a).writeAllowed m = true)) ∧
    (∀ a, st.classify a = .plain a → ¬ (st.zoneBase ≤ a ∧ a < st.zoneBase + st.displaced)) ∧
    (∀ a b, st.classify a = .plain a → st.classify b ≠ .relocated a) ∧
    (∀ g, g < st.generalTop →
      ∃ a, a < 2 ^ 32 ∧ (st.classify a).general = some g ∧ ∀ b, (st.classify b).general = some g → b = a)

/-- Masters 25 to 31 are allowed nothing in the control window and the apertures (R6). -/
def Obligations.MastersAbove24AllowedNothing : Prop :=
  ∀ (st : Straps) (a m : Nat), st.channels ≤ 24 → 25 ≤ m → (st.classify a).isZone = true →
    (st.classify a).readAllowed m = false ∧ (st.classify a).writeAllowed m = false

/-! ## Board Port -/

/-- A write offered while the queue has space joins its tail and changes nothing else; one offered while it holds 16 is
held by the port; a held write joins once there is space (R1, R9). -/
def Obligations.BoardWritesAtThePort : Prop :=
  ∀ (s : State) (m : BitVec 5) (addr : Word) (w : Width) (d : Word),
    let x : BoardWrite := { master := m, addr := addr, width := w, data := d }
    (aligned addr w = true → s.canTake = true → s.board.queue.length < 16 →
      exec (.writeAccept m addr w d) s =
        .next { s with board := { s.board with queue := s.board.queue ++ [{ write := x, cls := s.classify addr }] } }) ∧
    (aligned addr w = true → s.canTake = true → 16 ≤ s.board.queue.length →
      exec (.writeQueueFull m addr w d) s = .next { s with board := { s.board with port := .writeHeld x } }) ∧
    (s.board.port = .writeHeld x → s.board.queue.length < 16 →
      exec .heldWriteAccept s =
        .next { s with board := { s.board with queue := s.board.queue ++ [{ write := x, cls := s.classify addr }],
                                               port := .idle } })

/-- A read that reaches nothing is served at once with every byte FFh, for every master, and changes nothing else (R5).
A refused read is served the same way and latches PROTECTION with the master and the region; it reaches no other state.
A control window read in hand at a halt is served the same way, with no fault (R7, R168, R169, R172, R179); that it
waits for its grant, if it waited for the store bus, is the model's choice (log entry 45); the FFh that PROTECTION's
detail shows in bits 8 to 15 for the control window is the model's inference from R190 (log entry 69). -/
def Obligations.ReadsServedAllOnes : Prop :=
  (∀ (s : State) (h : HeldRead) (z : Nat) (err : Option Word), s.filing.boot.phase.halted = true →
    s.filing.settled = true → s.board.port = .readHeld h → h.cls = .control z → s.nextKind = some .read →
    exec (.boardReadGrant err) s =
      .next { s with board := { s.board.served h.master h.addr h.width (onesWord h.width) with
                                starve := s.starveAfter .read } }) ∧
  ∀ (s : State) (m : BitVec 5) (addr : Word) (w : Width), s.reads addr w = true →
    ((s.classify addr = .unbacked ∨ s.classify addr = .zoneUnbacked) →
      exec (.unbackedRead m addr w) s = .next { s with board := s.board.served m addr w (onesWord w) }) ∧
    ((s.classify addr).isZone = true → (s.classify addr).readAllowed m.toNat = false →
      ∃ t, exec (.refusedRead m addr w) s = .next t ∧
        t.board = s.board.served m addr w (onesWord w) ∧ t.store = s.store ∧ t.pending = s.pending ∧
        t.filing.agrees s.filing ∧ t.filing.monitors.policy = s.filing.monitors.policy ∧
        t.filing.monitors.latches = s.filing.monitors.latches ||| 0x080#10 ∧
        t.filing.monitors.capture = s.filing.monitors.capture.or
          (some { monitor := .protection, channel := none, master := some m.toNat, doc := none,
                  detail := regionDetail (s.classify addr), time := s.filing.now }) ∧
        t.filing.dirty .status = true)

/-- A read of general memory is taken, and waits for staged writes exactly while one of them targets its 32-byte line,
else for the store bus; nothing else changes. At its grant it is served with the bytes that then stand, or with those
returned where the store bus reports a data error, which is no fault; only the starvation count moves (R12, R14,
R16). -/
def Obligations.GeneralReads : Prop :=
  (∀ (s : State) (m : BitVec 5) (addr : Word) (w : Width) (g : Nat), s.reads addr w = true →
    (s.classify addr).general = some g →
    ∃ p, exec (.boardRead m addr w) s =
        .next { s with board := s.board.holding m addr w (s.classify addr) p none } ∧
      (p = .writes ↔ ∃ x ∈ s.board.queue, ∃ g', x.cls.general = some g' ∧ g' / 32 = g / 32) ∧
      (p = .store ↔ ¬ ∃ x ∈ s.board.queue, ∃ g', x.cls.general = some g' ∧ g' / 32 = g / 32)) ∧
  (∀ (s : State) (h : HeldRead) (g : Nat), s.grants .read = true → s.board.port = .readHeld h →
    h.cls.general = some g →
    exec (.boardReadGrant none) s =
      .next { s with board :=
        { s.board.served h.master h.addr h.width (bytesWord (s.store.general.readBytes g h.width.bytes)) with
          starve := s.starveAfter .read } } ∧
    ∀ d, exec (.boardReadGrant (some d)) s =
      .next { s with board :=
        { s.board.served h.master h.addr h.width (bytesWord ((wordBytes d).take h.width.bytes)) with
          starve := s.starveAfter .read } })

/-- A master-0 control window read, and master c's read of forward aperture c's slots, once no write of the same master
is staged: a dirty record that is not guarded has its flush demanded, ahead of the flush list; a clean or guarded one is
read as it stands. At its grant a control window read returns the page bank's bytes; a master-0 read of word 0 of a
document, page, mailbox or channel record opens or reloads the guard, one of the guarded record's last word closes it,
and nothing else moves; a data error latches PARITY, and an empty capture takes it with the reading master and no
channel, document or page. A read of masters 1 to 24, or of bytes that mirror no record, waits for the store bus alone;
one of a block entry whose write-ahead write waits, for that write (R8, R13, R14, R116, R163, R164, R165, R172). That
any byte of word 0 or of the last word acts on the guard, also for a narrow read, is the model's choice (log entry 32);
who reports the data error is log entry 19; that a layout header whose rewrite waits counts as dirty is log entry 44. -/
def Obligations.MirrorReadsWaitForTheFlush : Prop :=
  (∀ (s : State) (h : HeldRead) (z : Nat), s.grants .read = true → s.board.port = .readHeld h →
    h.cls = .control z → h.noted = none → z + h.width.bytes ≤ s.store.bankMiB * 1048576 →
    let place := if h.master = 0 then recordAt s.filing.blockCount z else none
    let opens (p : RecordPlace) : Prop := p.first = true ∧
      ((∃ k, p.record = .document k) ∨ (∃ k, p.record = .page k) ∨ (∃ k, p.record = .mailbox k) ∨
        (∃ k, p.record = .channel k))
    let closes (p : RecordPlace) : Prop := p.last = true ∧ s.filing.isGuarded p.record = true
    ∃ t, exec (.boardReadGrant none) s = .next t ∧ t.store = s.store ∧ t.pending = s.pending ∧
      t.board = { s.board.served h.master h.addr h.width (bytesWord (s.store.page.readBytes z h.width.bytes)) with
                  starve := s.starveAfter .read } ∧
      t.filing = { s.filing with mirror := { s.filing.mirror with guarded := t.filing.mirror.guarded } } ∧
      (∀ p, place = some p → opens p → t.filing.mirror.guarded = some (p.record, 2)) ∧
      (∀ p, place = some p → ¬ opens p → closes p → t.filing.mirror.guarded = none) ∧
      (∀ p, place = some p → ¬ opens p → ¬ closes p → t.filing.mirror.guarded = s.filing.mirror.guarded) ∧
      (place = none → t.filing.mirror.guarded = s.filing.mirror.guarded) ∧
      ∀ d, ∃ u, exec (.boardReadGrant (some d)) s = .next u ∧ u.store = s.store ∧
        u.board = { s.board.served h.master h.addr h.width (bytesWord ((wordBytes d).take h.width.bytes)) with
                    starve := s.starveAfter .read } ∧
        u.filing.dir = s.filing.dir ∧
        u.filing.monitors.latches =
          (if s.filing.monitors.policy.masks.getLsbD 8 then s.filing.monitors.latches
           else s.filing.monitors.latches ||| 0x100#10) ∧
        u.filing.monitors.capture =
          (if s.filing.monitors.policy.masks.getLsbD 8 then s.filing.monitors.capture
           else s.filing.monitors.capture.or
             (some { monitor := .parity, channel := none, master := some h.master.toNat, doc := none,
                     detail := 0xFFFFFFFF#32, time := s.filing.now }))) ∧
  (∀ (s : State) (m : BitVec 5) (addr : Word) (w : Width) (z : Nat), s.reads addr w = true →
    s.classify addr = .control z → m.toNat ≤ 24 → (∀ x ∈ s.board.queue, x.write.master ≠ m) →
    ((m ≠ 0 ∨ (inFaultWord z = false ∧ recordAt s.filing.blockCount z = none)) →
      exec (.mirrorRead m addr w) s = .next { s with board := s.board.holding m addr w (.control z) .store none }) ∧
    (∀ n p, m = 0 → inFaultWord z = false → s.board.ahead = some n → recordAt s.filing.blockCount z = some p →
      p.record = .block n → s.filing.dirty (.block n) = false → s.filing.isGuarded (.block n) = false →
      exec (.mirrorRead m addr w) s =
        .next { s with board := s.board.holding m addr w (.control z) (.flush (.block n)) none })) ∧
  ∀ (s : State) (m : BitVec 5) (addr : Word) (w : Width) (r : RecordId) (i : Instr), s.reads addr w = true →
    (∀ x ∈ s.board.queue, x.write.master ≠ m) → (∀ n, s.board.ahead = some n → r ≠ .block n) →
    ((i = .mirrorRead m addr w ∧ m = 0 ∧ ∃ z p, s.classify addr = .control z ∧ inFaultWord z = false ∧
        recordAt s.filing.blockCount z = some p ∧ p.record = r) ∨
      (i = .forwardSlotRead m addr w ∧ ∃ c o, s.classify addr = .forward c o ∧ 1048448 ≤ o ∧ m.toNat = c ∧
        r = .channel c)) →
    (s.filing.dirty r = true → s.filing.isGuarded r = false →
      exec i s = .next { s with board := s.board.holding m addr w (s.classify addr) (.flush r) none
                                filing := { s.filing with mirror := { s.filing.mirror with
                                  flushList := r :: s.filing.mirror.flushList.filter (fun x => decide (x ≠ r)) } } }) ∧
    ((s.filing.dirty r = false ∨ s.filing.isGuarded r = true) →
      exec i s = .next { s with board := s.board.holding m addr w (s.classify addr) .store none })

/-- A master-0 read of the fault word notes, as the port takes it, the latches then set and whether the capture is full.
It waits while a write of master 0 is staged; with none, a dirty status record that is not guarded is flushed first,
ahead of the flush list, and else the read waits for the store bus (R13, R163). At its service every latch of that set
is cleared but a LOW whose condition is present, a capture that was full at the taking is cleared, and every LOCKED
channel enters IDLE with its last fault kept (R57, R175). A data error on the read itself is a PARITY event, which the
same read's clearing then meets (R14, R172). That a lock pending set in LOCKED is kept through it is the model's choice
(log entry 47), and so is that the PARITY event comes ahead of the clearing (log entry 64). -/
def Obligations.FaultWordRead : Prop :=
  (∀ (s : State) (addr : Word) (w : Width) (z : Nat), s.reads addr w = true → s.classify addr = .control z →
    0x40 ≤ z → z < 0x44 →
    let noted := some (s.filing.monitors.latches, s.filing.monitors.capture.isSome)
    ((∃ x ∈ s.board.queue, x.write.master = 0) →
      exec (.faultWordRead 0 addr w) s =
        .next { s with board := s.board.holding 0 addr w (.control z) .writes noted }) ∧
    ((∀ x ∈ s.board.queue, x.write.master ≠ 0) → s.filing.dirty .status = true → s.filing.isGuarded .status = false →
      exec (.faultWordRead 0 addr w) s =
        .next { s with board := s.board.holding 0 addr w (.control z) (.flush .status) noted
                       filing := { s.filing with mirror := { s.filing.mirror with
                         flushList := .status :: s.filing.mirror.flushList.filter (fun x => decide (x ≠ .status)) } } }) ∧
    ((∀ x ∈ s.board.queue, x.write.master ≠ 0) →
      (s.filing.dirty .status = false ∨ s.filing.isGuarded .status = true) →
      exec (.faultWordRead 0 addr w) s =
        .next { s with board := s.board.holding 0 addr w (.control z) .store noted })) ∧
  (∀ (s : State) (h : HeldRead) (z : Nat) (set : BitVec 10) (full : Bool), s.grants .read = true →
    s.board.port = .readHeld h → h.master = 0 → h.cls = .control z → 0x40 ≤ z → z < 0x44 →
    h.noted = some (set, full) → 1 ≤ s.store.bankMiB →
    let masked := s.filing.monitors.policy.masks.getLsbD 8
    let parity : Capture := { monitor := .parity, channel := none, master := some 0, doc := none,
                              detail := 0xFFFFFFFF#32, time := s.filing.now }
    let served (t : State) (data : List Byte) : Prop :=
      t.store = s.store ∧ t.pending = s.pending ∧
      t.board = { s.board.served 0 h.addr h.width (bytesWord data) with starve := s.starveAfter .read } ∧
      t.filing.monitors.policy = s.filing.monitors.policy ∧
      (∀ c, 1 ≤ c → c ≤ 24 → (s.filing.chan c).state = .locked →
        t.filing.chan c = { s.filing.chan c with state := .idle, timer := none }) ∧
      (∀ c, (s.filing.chan c).state ≠ .locked → t.filing.chan c = s.filing.chan c) ∧
      t.filing.dirty .status = true ∧ t.filing.dir = s.filing.dir
    (∃ t, exec (.boardReadGrant none) s = .next t ∧ served t (s.store.page.readBytes z h.width.bytes) ∧
      (∀ i, i < 10 → t.filing.monitors.latches.getLsbD i =
        (s.filing.monitors.latches.getLsbD i && (!set.getLsbD i || (i == 4 && s.filing.lowPresent)))) ∧
      t.filing.monitors.capture = (if full then none else s.filing.monitors.capture) ∧
      t.filing.ring = s.filing.ring) ∧
    ∀ d, ∃ t, exec (.boardReadGrant (some d)) s = .next t ∧ served t ((wordBytes d).take h.width.bytes) ∧
      (∀ i, i < 10 → t.filing.monitors.latches.getLsbD i =
        ((s.filing.monitors.latches.getLsbD i || (i == 8 && !masked)) &&
          (!set.getLsbD i || (i == 4 && s.filing.lowPresent)))) ∧
      t.filing.monitors.capture =
        (if full then none else if masked then s.filing.monitors.capture
         else s.filing.monitors.capture.or (some parity)))

/-- A data area read of a forward aperture, once no write of its master is staged: zero bytes outside SEND, with nothing
changed; zero bytes and the confirm timer reloaded in SEND at or beyond the length or in a hole; else it waits for the
store bus. At its grant a data area read returns the block's bytes, those at or beyond the length as zero, and zero
bytes where the translation then gives no block; a slot read returns its record's bytes; in SEND the confirm timer is
reloaded, and a data error on a page's block, at or beyond the length too, sets the page's PARITY and the document's
DAMAGED, and one on a slot read latches PARITY alone, an empty capture taking it with the reading master (R8, R14, R16,
R86, R114 to R116, R172). Who reports a slot read's data error is log entry 19. That a grant given back unused counts as
one of kind 1 is the model's choice (log entry 20). -/
def Obligations.ForwardReadIsDecided : Prop :=
  (∀ (s : State) (h : HeldRead) (c o : Nat), s.grants .read = true → s.board.port = .readHeld h →
    h.cls = .forward c o →
    let ch := s.filing.chan c
    let serving (data : List Byte) : Board :=
      { s.board.served h.master h.addr h.width (bytesWord data) with starve := s.starveAfter .read }
    let reloaded (f : Filing) : Filing :=
      if ch.state = .send then f.setChan c { ch with timer := some (ch.confirmTime * 100) } else f
    (∀ p n, o < 1048448 → ch.state = .send → ch.sending = some p → s.filing.blockAt p (o / 8192) = some n →
      n * 8192 + o % 8192 + h.width.bytes ≤ s.store.bankMiB * 1048576 →
      exec (.boardReadGrant none) s =
        .next { s with
          board := serving ((List.range h.width.bytes).map (fun i =>
            if o + i < (s.filing.page p).length then s.store.page.read (n * 8192 + o % 8192 + i) else 0))
          filing := reloaded s.filing } ∧
      ∀ d, ∃ t, exec (.boardReadGrant (some d)) s = .next t ∧ t.store = s.store ∧
        t.board = serving ((List.range h.width.bytes).map (fun i =>
          if o + i < (s.filing.page p).length then (wordBytes d).getD i 0 else 0)) ∧
        t.filing.page p = { s.filing.page p with parity := true } ∧
        (t.filing.doc (s.filing.page p).owner).damaged = true ∧
        t.filing.monitors.latches =
          (if s.filing.monitors.policy.masks.getLsbD 8 then s.filing.monitors.latches
           else s.filing.monitors.latches ||| 0x100#10) ∧
        t.filing.chan c = { ch with timer := some (ch.confirmTime * 100) }) ∧
    (o < 1048448 →
      (ch.state ≠ .send ∨ ∀ p, ch.sending = some p → s.filing.blockAt p (o / 8192) = none) →
      exec (.boardReadGrant none) s =
        .next { s with board := serving (List.replicate h.width.bytes 0), filing := reloaded s.filing }) ∧
    (1048448 ≤ o → 0x4000 + 0x100 * (c - 1) + (o - 1048448) + 128 + h.width.bytes ≤ s.store.bankMiB * 1048576 →
      exec (.boardReadGrant none) s =
        .next { s with
          board := serving (s.store.page.readBytes (0x4000 + 0x100 * (c - 1) + (o - 1048448) + 128) h.width.bytes)
          filing := reloaded s.filing } ∧
      ∀ d, ∃ t, exec (.boardReadGrant (some d)) s = .next t ∧ t.store = s.store ∧
        t.board = serving ((wordBytes d).take h.width.bytes) ∧ t.filing.dir = s.filing.dir ∧
        t.filing.monitors.latches =
          (if s.filing.monitors.policy.masks.getLsbD 8 then s.filing.monitors.latches
           else s.filing.monitors.latches ||| 0x100#10) ∧
        t.filing.monitors.capture =
          (if s.filing.monitors.policy.masks.getLsbD 8 then s.filing.monitors.capture
           else s.filing.monitors.capture.or
             (some { monitor := .parity, channel := none, master := some h.master.toNat, doc := none,
                     detail := 0xFFFFFFFF#32, time := s.filing.now })) ∧
        t.filing.chan c = (if ch.state = .send then { ch with timer := some (ch.confirmTime * 100) } else ch))) ∧
  ∀ (s : State) (m : BitVec 5) (addr : Word) (w : Width) (c o : Nat), s.reads addr w = true →
    s.classify addr = .forward c o → o < 1048448 → m.toNat = c → (∀ x ∈ s.board.queue, x.write.master ≠ m) →
    ((s.filing.chan c).state ≠ .send →
      exec (.forwardDataRead m addr w) s = .next { s with board := s.board.served m addr w 0 }) ∧
    (∀ p, (s.filing.chan c).state = .send → (s.filing.chan c).sending = some p →
      ((s.filing.page p).length ≤ o ∨ s.filing.blockAt p (o / 8192) = none) →
      exec (.forwardDataRead m addr w) s =
        .next { s with board := s.board.served m addr w 0
                       filing := s.filing.setChan c { s.filing.chan c with
                         timer := some ((s.filing.chan c).confirmTime * 100) } }) ∧
    (∀ p n, (s.filing.chan c).state = .send → (s.filing.chan c).sending = some p → o < (s.filing.page p).length →
      s.filing.blockAt p (o / 8192) = some n →
      exec (.forwardDataRead m addr w) s =
        .next { s with board := s.board.holding m addr w (.forward c o) .store none })

/-- A read of a review aperture: its tail is zero at once whatever is staged; a data area read, once no write of master
0 is staged, is zero where the aperture is unbound, at or beyond the length or in a hole, and else waits for the store
bus. At its grant it is served with the bytes of the page then bound, each byte at or beyond the page's length as zero,
or with zero bytes where that gives no block; a data error sets the page's PARITY and the document's DAMAGED (R8, R13,
R14, R16, R86, R134, R135). That a grant given back unused counts as one of kind 1 is the model's choice (log entry
20). -/
def Obligations.ReviewReadIsDecided : Prop :=
  (∀ (s : State) (h : HeldRead) (r o : Nat), s.grants .read = true → s.board.port = .readHeld h → h.cls = .review r o →
    let serving (data : List Byte) : Board :=
      { s.board.served h.master h.addr h.width (bytesWord data) with starve := s.starveAfter .read }
    (∀ b n, s.filing.binding r = some b → s.filing.blockAt b.page (o / 8192) = some n →
      n * 8192 + o % 8192 + h.width.bytes ≤ s.store.bankMiB * 1048576 →
      let l := (s.filing.page b.page).length
      exec (.boardReadGrant none) s =
        .next { s with board := serving ((List.range h.width.bytes).map (fun i =>
          if o + i < l then s.store.page.read (n * 8192 + o % 8192 + i) else 0)) } ∧
      ∀ d, ∃ t, exec (.boardReadGrant (some d)) s = .next t ∧ t.store = s.store ∧
        t.board = serving ((List.range h.width.bytes).map (fun i => if o + i < l then (wordBytes d).getD i 0 else 0)) ∧
        t.filing.page b.page = { s.filing.page b.page with parity := true } ∧
        (t.filing.doc (s.filing.page b.page).owner).damaged = true ∧ t.filing.bindings = s.filing.bindings ∧
        t.filing.monitors.latches =
          (if s.filing.monitors.policy.masks.getLsbD 8 then s.filing.monitors.latches
           else s.filing.monitors.latches ||| 0x100#10)) ∧
    ((∀ b, s.filing.binding r = some b → s.filing.blockAt b.page (o / 8192) = none) →
      exec (.boardReadGrant none) s =
        .next { s with board := serving (List.replicate h.width.bytes 0) })) ∧
  ∀ (s : State) (addr : Word) (w : Width) (r o : Nat), s.reads addr w = true → s.classify addr = .review r o →
    (1048448 ≤ o → exec (.reviewDataRead 0 addr w) s = .next { s with board := s.board.served 0 addr w 0 }) ∧
    (o < 1048448 → (∀ x ∈ s.board.queue, x.write.master ≠ 0) →
      (s.filing.binding r = none →
        exec (.reviewDataRead 0 addr w) s = .next { s with board := s.board.served 0 addr w 0 }) ∧
      (∀ b, s.filing.binding r = some b →
        ((s.filing.page b.page).length ≤ o ∨ s.filing.blockAt b.page (o / 8192) = none) →
        exec (.reviewDataRead 0 addr w) s = .next { s with board := s.board.served 0 addr w 0 }) ∧
      (∀ b n, s.filing.binding r = some b → o < (s.filing.page b.page).length →
        s.filing.blockAt b.page (o / 8192) = some n →
        exec (.reviewDataRead 0 addr w) s =
          .next { s with board := s.board.holding 0 addr w (.review r o) .store none }))

/-- A read of the control window, or an allowed read of an aperture, waits while a write of its master is staged, and a
read of general memory while one to its line is: as a write leaves the queue, a read in whose way another still stands
waits on, and any other goes on to its flush, to its service with zero bytes, or to the store bus. A read that waits for
a flush goes on to the store bus as that record, or that write-ahead entry, is written, and at no other record's flush
(R10, R12, R13, R114, R134, R163, R175). That a layout header whose rewrite waits counts as dirty is the model's choice
(log entry 44). -/
def Obligations.HeldReadsWaitAndGoOn : Prop :=
  (∀ (s : State) (m : BitVec 5) (addr : Word) (w : Width) (i : Instr), s.reads addr w = true →
    (∃ x ∈ s.board.queue, x.write.master = m) → i = readCommand m addr w (s.classify addr) →
    (∀ noted, (noted = if i = .faultWordRead m addr w then
        some (s.filing.monitors.latches, s.filing.monitors.capture.isSome) else none) →
      ((∃ z, s.classify addr = .control z ∧ m.toNat ≤ 24) ∨ (∃ c o, s.classify addr = .forward c o ∧ m.toNat = c) ∨
        (∃ r o, s.classify addr = .review r o ∧ m = 0 ∧ o < 1048448)) →
      exec i s = .next { s with board := s.board.holding m addr w (s.classify addr) .writes noted })) ∧
  (∀ (s t : State) (h : HeldRead) (x : Staged) (q : List Staged) (i : Instr), s.calm = true → i ≠ .breset →
    (∀ n, i ≠ .powerLoss n) → s.board.port = .readHeld h → h.phase = .writes → s.board.queue = x :: q →
    exec i s = .next t → t.board.queue = q →
    (t.board.bars h → t.board.port = .readHeld h) ∧ (¬ t.board.bars h → t.readGoesOn h)) ∧
  (∀ (s : State) (h : HeldRead) (r : RecordId), s.board.port = .readHeld h → h.phase = .flush r →
    let goesOn (i : Instr) : Prop := ∃ t, exec i s = .next t ∧ t.board.port = .readHeld { h with phase := .store }
    (s.grants .flush = true → s.flushUnit = some (.record r) → goesOn .recordFlush) ∧
    (∀ q, s.grants .flush = true → s.flushUnit = some (.record q) → q ≠ r →
      ∃ t, exec .recordFlush s = .next t ∧ t.board.port = .readHeld h) ∧
    (s.grants .flush = true → s.filing.mirror.rewrite = true → r = .layoutHeader → goesOn .recordFlush) ∧
    (∀ n, r = .block n → s.grants .ahead = true → s.board.ahead = some n → goesOn .writeAheadWrite))

/-! ## Drains -/

/-- Writes with no behaviour of their own: each is stored where Table 7 says, or leaves the queue where it reaches
nothing (R5, R10, R11). A refused write leaves the queue at its drain without a store grant and latches PROTECTION; it
reaches no table (R7, R172). That PROTECTION's detail shows FFh in bits 8 to 15 for the control window is the model's
inference from R190 (log entry 69). -/
def Obligations.UnownedAndRefusedWritesDrain : Prop :=
  (∀ (s : State) (x : Staged), s.drains x = true →
    (∀ g, x.cls.general = some g → exec .writeDrain s = .next { s with board := s.board.await (.general g) }) ∧
    (∀ c o, x.cls = .landing c o → 1048512 ≤ o → o < 1048572 →
      exec .writeDrain s = .next { s with board := s.board.await (.page (0x4000 + 0x100 * (c - 1) + (o - 1048448))) }) ∧
    (∀ c o, x.cls = .forward c o → 1048512 ≤ o → o < 1048572 →
      exec .writeDrain s =
        .next { s with board := s.board.await (.page (0x4000 + 0x100 * (c - 1) + (o - 1048448) + 128)) }) ∧
    ((x.cls = .unbacked ∨ x.cls = .zoneUnbacked) →
      ∃ t, exec .writeDrain s = .next t ∧ t.board.queue = s.board.queue.tail ∧ t.board.head = none ∧
        t.store = s.store ∧ (s.board.port = .idle → t.filing = s.filing))) ∧
  ∀ (s : State) (x : Staged), s.calm = true → s.offers x = true → x.cls.writeAllowed x.write.master.toNat = false →
    ∃ t, exec .refusedWrite s = .next t ∧ t.board.queue = s.board.queue.tail ∧ t.board.head = none ∧
      t.store = s.store ∧ t.pending = s.pending ∧
      t.filing.monitors.latches = s.filing.monitors.latches ||| 0x080#10 ∧
      t.filing.monitors.capture = s.filing.monitors.capture.or
        (some { monitor := .protection, channel := none, master := some x.write.master.toNat, doc := none,
                detail := regionDetail x.cls, time := s.filing.now }) ∧
      t.filing.dir = s.filing.dir ∧ t.filing.blocks = s.filing.blocks ∧ t.filing.boxes = s.filing.boxes ∧
      t.filing.posting = s.filing.posting ∧ (s.board.port = .idle → t.filing.agrees s.filing)

/-- A write to word 0 to 14 of a posting slot: captured whole in IDLE and FILLING, marking the slot malformed where it
is narrow, ignored in TAKEN; in every case it is stored at its word, and no other slot changes (R148). -/
def Obligations.PostingWordIsCaptured : Prop :=
  ∀ (s : State) (x : Staged) (z n i : Nat), s.drains x = true → x.cls = .control z → 0x1000 ≤ z →
    n = (z - 0x1000) / 64 → i = (z - 0x1000) % 64 / 4 → i < 15 →
    ∃ t, exec .postingWordCapture s = .next t ∧ t.board = s.board.await (.page z) ∧ t.store = s.store ∧
      t.filing = { s.filing with posting := { s.filing.posting with slots := t.filing.posting.slots } } ∧
      (∀ k, k ≠ n → t.filing.slot k = s.filing.slot k) ∧
      ((s.filing.slot n).state = .taken → t.filing.slot n = s.filing.slot n) ∧
      ((s.filing.slot n).state ≠ .taken → x.write.width = .full →
        (t.filing.slot n).state = .filling ∧ Tbl.find (t.filing.slot n).words i = some x.write.data ∧
        (∀ j, j ≠ i → Tbl.find (t.filing.slot n).words j = Tbl.find (s.filing.slot n).words j) ∧
        (∀ j, j < 15 → (t.filing.slot n).written.getLsbD j = ((s.filing.slot n).written.getLsbD j || j == i)) ∧
        (t.filing.slot n).malformed = (s.filing.slot n).malformed) ∧
      ((s.filing.slot n).state ≠ .taken → x.write.width ≠ .full →
        (t.filing.slot n).state = .filling ∧ (t.filing.slot n).words = (s.filing.slot n).words ∧
        (∀ j, j < 15 → (t.filing.slot n).written.getLsbD j = ((s.filing.slot n).written.getLsbD j || j == i)) ∧
        (t.filing.slot n).malformed = true)

/-- A post word that takes no request: narrow, it marks the slot malformed unless TAKEN; on a TAKEN slot it is BUSY;
with a malformed mark or a written set other than words 0 to w − 1 it is MALFORMED; of an unknown kind it is UNKNOWN.
MALFORMED and UNKNOWN take the slot; a refusal is produced at once where the ring has room and there is no backlog, and
else deferred, a BUSY in place of the slot's earlier one. Each is a RESULT entry of kind 0 with slot, tag, code and
time; BUSY alone is not the slot's own (R149 to R153, R193). -/
def Obligations.PostsWithoutARequest : Prop :=
  ∀ (s : State) (x : Staged) (z n : Nat), s.drains x = true → x.cls = .control z → 0x1000 ≤ z →
    n = (z - 0x1000) / 64 → (z - 0x1000) % 64 / 4 = 15 →
    let w := x.write.data
    let tag := bits w 0 16
    let f := s.filing
    let taken := f.setSlot n { f.slot n with state := .taken, written := 0, malformed := false }
    let refused (code : ResultCode) (args : List Word) : State :=
      { s with board := s.board.await (.page z)
               filing := if f.roomy then taken.withResult n tag code args f.now true
                         else { taken with posting := { taken.posting with
                           deferred := taken.posting.deferred ++ [.result n tag code args f.now] } } }
    (x.write.width ≠ .full → (f.slot n).state ≠ .taken →
      exec .narrowPostWord s =
        .next { s with board := s.board.await (.page z)
                       filing := f.setSlot n { f.slot n with state := .filling, malformed := true } }) ∧
    (x.write.width ≠ .full → (f.slot n).state = .taken →
      exec .narrowPostWord s = .next { s with board := s.board.await (.page z) }) ∧
    (x.write.width = .full → (f.slot n).state = .taken →
      let listed (l : List Deferred) : State :=
        { s with board := s.board.await (.page z)
                 filing := { f with posting := { f.posting with deferred := l } } }
      (f.roomy → exec .busy s =
        .next { s with board := s.board.await (.page z), filing := f.withResult n tag .busy [] f.now false }) ∧
      (¬ f.roomy →
        (∀ l old time r, f.posting.deferred = l ++ .busy n old time :: r → (∀ a b, .busy n a b ∉ l ++ r) →
          exec .busy s = .next (listed (l ++ .busy n tag f.now :: r))) ∧
        ((∀ a b, .busy n a b ∉ f.posting.deferred) →
          exec .busy s = .next (listed (f.posting.deferred ++ [.busy n tag f.now]))))) ∧
    (x.write.width = .full → (f.slot n).state ≠ .taken →
      ((f.slot n).malformed = true ∨ (f.slot n).written ≠ BitVec.ofNat 15 (2 ^ bits w 16 4 - 1)) →
      exec .malformed s = .next (refused .malformed [argNat (bits w 16 4), argNat (f.slot n).written.toNat])) ∧
    (x.write.width = .full → (f.slot n).state ≠ .taken → (f.slot n).malformed = false →
      (f.slot n).written = BitVec.ofNat 15 (2 ^ bits w 16 4 - 1) → requestOf (bits w 24 8) = none →
      exec .unknown s = .next (refused .unknown [argNat (bits w 24 8)]))

/-- SET_MAILBOX, SET_ROUTE, CLEAR_ROUTE, SET_POLICY, SET_CHANNEL_TIMES, ABORT_INTAKE, ACCEPT, HOLD, LIFT_HOLD, RELEASE,
PURGE, REFILE, RETAIN, ADD_RECIPIENT, CANCEL_RECIPIENT, TAKE_FORWARD, DROP_FORWARD, BIND_REVIEW, UNBIND_REVIEW and
SET_CLOCK, each at its post word's drain: its slot becomes TAKEN and its operands are words 0 to w − 1; with room and no
backlog its owner executes it within the drain, and its result is produced behind its notices, or deferred at the list's
head where a notice had to wait or the ring became full; with a backlog the request itself is deferred. The result is a
RESULT entry of kind 0 with the slot, the tag, the code's number 0 to 11, the arguments and the execution's time, in the
ring's next position with the next sequence number, the slot's own (R149 to R153, R159, R193). -/
def Obligations.PostedRequestsAreExecuted : Prop :=
  ∀ (s : State) (x : Staged) (z n : Nat) (k : RequestKind), s.drains x = true → x.cls = .control z → 0x1000 ≤ z →
    n = (z - 0x1000) / 64 → (z - 0x1000) % 64 / 4 = 15 → x.write.width = .full →
    (s.filing.slot n).state ≠ .taken → (s.filing.slot n).malformed = false →
    (s.filing.slot n).written = BitVec.ofNat 15 (2 ^ bits x.write.data 16 4 - 1) →
    requestOf (bits x.write.data 24 8) = some k →
    let tag := bits x.write.data 0 16
    let f := s.filing
    let ops := (List.range (bits x.write.data 16 4)).map (fun i => (Tbl.find (f.slot n).words i).getD 0)
    let taken := f.setSlot n { f.slot n with state := .taken, written := 0, malformed := false }
    let d := execute k ops taken
    (f.roomy → d.filing.ring.pending = [] → d.filing.ringRoom →
      exec (requestCommand k) s =
        .next { s with board := s.board.await (.page z)
                       filing := d.filing.withResult n tag d.code d.args d.filing.now true }) ∧
    (f.roomy → (d.filing.ring.pending ≠ [] ∨ ¬ d.filing.ringRoom) →
      exec (requestCommand k) s =
        .next { s with board := s.board.await (.page z)
                       filing := { d.filing with posting := { d.filing.posting with
                         deferred := .result n tag d.code d.args d.filing.now :: d.filing.posting.deferred } } }) ∧
    (¬ f.roomy →
      exec (requestCommand k) s =
        .next { s with board := s.board.await (.page z), filing := { taken with posting := { taken.posting with
                         deferred := taken.posting.deferred ++ [.request n tag k ops] } } })

/-- Every result code other than OK and EMPTY leaves the state the owner judged unchanged (R150). ACCEPT, HOLD,
LIFT_HOLD, RETAIN, RELEASE and PURGE of an identifier above 65,535 are refused RANGE, and of a stale one NO_ENTRY with
the identifier and the slot's generation (R89). -/
def Obligations.RefusedRequestsChangeNothing : Prop :=
  (∀ (k : RequestKind) (ops : List Word) (f : Filing),
    k ∈ [RequestKind.accept, .hold, .liftHold, .retain, .release, .purge] →
    let d := (operand ops 0).toNat
    let slot := f.doc (d / 64)
    (65535 < d → execute k ops f = { filing := f, code := .range, args := [] }) ∧
    (d ≤ 65535 → (slot.state = .free ∨ slot.gen ≠ d % 64) →
      execute k ops f = { filing := f, code := .noEntry, args := [operand ops 0, argNat slot.gen] })) ∧
  ∀ (k : RequestKind) (ops : List Word) (f : Filing), (execute k ops f).code ≠ .ok → (execute k ops f).code ≠ .empty →
    (execute k ops f).filing = f

/-- The three requests that set the part itself. SET_POLICY stores its fields clamped: the floor to N − 128, the masks
of PROTECTION and TORN clear, the retry base to 10 to 3,600; a floor raised to F or above from below it is a LOW latch
event, under the new masks, with STORE_LOW and FAULT told; a lockout code other than 0 and 1 is RANGE (R168, R171,
R177). SET_CHANNEL_TIMES stores its three settings clamped; a channel outside 1 to 24 is RANGE (R37). SET_CLOCK sets T,
shifts every stored due time by the same amount, restarts the save count and clears stale (R146, R147). -/
def Obligations.PartIsSet : Prop :=
  ∀ (ops : List Word) (f : Filing),
    (1 < (operand ops 1).toNat → execute .setPolicy ops f = { filing := f, code := .range, args := [] }) ∧
    ((operand ops 1).toNat ≤ 1 →
      let d := execute .setPolicy ops f
      let p := d.filing.monitors.policy
      d.code = .ok ∧ p.floor = min (operand ops 0).toNat (f.blockCount - 128) ∧
      (p.lockout = true ↔ operand ops 1 = 1) ∧ p.masks.getLsbD 7 = false ∧ p.masks.getLsbD 9 = false ∧
      (∀ i, i < 9 → i ≠ 7 → p.masks.getLsbD i = (operand ops 2).getLsbD i) ∧
      p.retryBase = max 10 (min 3600 (operand ops 3).toNat) ∧
      (let low : Prop := f.monitors.policy.floor < f.freeCount ∧ f.freeCount ≤ p.floor ∧ p.masks.getLsbD 4 = false
       (low → f.lowTold d.filing f.freeCount p.floor ∧
         d.filing.monitors.latches = f.monitors.latches ||| 0x010#10 ∧
         d.filing.monitors.capture = f.monitors.capture.or (some (lowCapture f.freeCount p.floor f.now))) ∧
       (¬ low → d.filing.monitors.latches = f.monitors.latches ∧ d.filing.monitors.capture = f.monitors.capture ∧
         d.filing.ring = f.ring)) ∧
      d.args = [argNat p.floor, argNat (flag p.lockout), argNat p.masks.toNat, argNat p.retryBase] ∧
      d.filing.dirty .policy = true ∧ d.filing.agrees f) ∧
    (((operand ops 0).toNat < 1 ∨ 24 < (operand ops 0).toNat) →
      execute .setChannelTimes ops f = { filing := f, code := .range, args := [] }) ∧
    (1 ≤ (operand ops 0).toNat → (operand ops 0).toNat ≤ 24 →
      let c := (operand ops 0).toNat
      let d := execute .setChannelTimes ops f
      d.code = .ok ∧
      d.filing.chan c = { f.chan c with stallTime := max 1 (min 120 (operand ops 1).toNat)
                                        gapTime := max 5 (min 300 (operand ops 2).toNat)
                                        confirmTime := max 5 (min 120 (operand ops 3).toNat) } ∧
      (∀ e, e ≠ c → d.filing.chan e = f.chan e) ∧ d.filing.dirty (.channel c) = true ∧ d.filing.dir = f.dir ∧
      d.filing.ring = f.ring ∧ d.filing.monitors = f.monitors ∧
      d.args = [argNat (d.filing.chan c).stallTime, argNat (d.filing.chan c).gapTime,
                argNat (d.filing.chan c).confirmTime]) ∧
    (let d := execute .setClock ops f
     let shift := operand ops 0 - f.now
     d.code = .ok ∧ d.args = [f.now, operand ops 0] ∧ d.filing.now = operand ops 0 ∧ d.filing.clock.stale = false ∧
     d.filing.clock.saveCount = 0 ∧ d.filing.mirror.saved = operand ops 0 ∧
     d.filing.clock.deadlines = f.clock.deadlines.map (fun e => { e with due := e.due + shift }) ∧
     (∀ k, (d.filing.doc k).retention = (f.doc k).retention.map (fun t => t + shift)) ∧
     (∀ k i, ((d.filing.doc k).recipient i).retryDue = ((f.doc k).recipient i).retryDue.map (fun t => t + shift)) ∧
     (∀ k i, ((d.filing.doc k).recipient i).state = ((f.doc k).recipient i).state) ∧
     d.filing.dirty .layoutHeader = true ∧ d.filing.dir.pages = f.dir.pages ∧ d.filing.ring = f.ring ∧
     d.filing.monitors = f.monitors)

/-- SET_MAILBOX with operands in range sets every host-settable field of its mailbox, quota and hours clamped, usage
kept where its walls are kept; mailbox 0 is never CLOSED. Where its walls change, the review bindings that now fail the
wall test are broken, and of the documents they named those that nothing else holds are released and told; where they
are kept, a quota below the usage of a mailbox that is not OVER sets OVER and tells MAILBOX_OVER. SET_ROUTE with
operands in range and no other entry of its kind and pattern replaces its entry, and with another such entry is refused
DUPLICATE; CLEAR_ROUTE empties one; no other entry changes (R64, R67, R71, R72, R75, R76, R98, R136). -/
def Obligations.BoxesAndRoutesAreSet : Prop :=
  ∀ (ops : List Word) (f : Filing),
    (∀ v m, f.wallPasses v m = true ↔
      (f.mailbox v).excludes.getLsbD (f.mailbox m).group = false ∧
        (f.mailbox m).excludes.getLsbD (f.mailbox v).group = false) ∧
    (∀ (m : Nat) (cls : MailClass) (ds : List (List Digit)), bits (operand ops 0) 16 8 = m → m < 64 →
      bits (operand ops 0) 0 4 < 2 → bits (operand ops 0) 24 8 < 16 → classOf (bits (operand ops 0) 4 4) = some cls →
      operandDefaults ops = some ds →
      let b := f.mailbox m
      let d := execute .setMailbox ops f
      let c := d.filing.mailbox m
      (m = 0 → bits (operand ops 0) 0 4 = 1 → d = { filing := f, code := .state, args := [] }) ∧
      ((m ≠ 0 ∨ bits (operand ops 0) 0 4 = 0) →
        d.code = .ok ∧ (c.shut = true ↔ bits (operand ops 0) 0 4 = 1) ∧ c.quota = min (operand ops 1).toNat 65535 ∧
        c.group = bits (operand ops 0) 24 8 ∧ c.excludes = (operand ops 2).setWidth 16 ∧ c.cls = cls ∧
        c.hours = min (operand ops 3).toNat 4320 ∧ (c.strict = true ↔ bits (operand ops 0) 8 1 = 1) ∧
        c.defaults = ds ∧ d.filing.dirty (.mailbox m) = true ∧
        ((c.group ≠ b.group ∨ c.excludes ≠ b.excludes) →
          let fails (x : Binding) : Prop := d.filing.wallPasses x.viewer (f.doc (slotOf x.doc)).mailbox = false
          let goes (k : Nat) : Prop :=
            (∃ r x, r < 8 ∧ f.binding r = some x ∧ fails x ∧ x.doc = f.docId k) ∧
            ((f.doc k).state = .filed ∨ (f.doc k).state = .review) ∧ (f.doc k).hold = false ∧
            (f.doc k).expired = true ∧ (f.doc k).anyLive = false ∧ d.filing.bound (f.docId k) = false
          (∀ r x, r < 8 → f.binding r = some x → (fails x → d.filing.binding r = none) ∧
            (¬ fails x → d.filing.binding r = some x)) ∧
          (∀ r, r < 8 → f.binding r = none → d.filing.binding r = none) ∧
          (∀ k, k < 1024 → (f.doc k).gen < 64 →
            (goes k → d.filing.doc k = Doc.freed (((f.doc k).gen + 1) % 64) ∧
              f.releaseTold d.filing k (f.doc k).mailbox) ∧
            (¬ goes k → d.filing.doc k = f.doc k)) ∧ d.filing.channels = f.channels) ∧
        (c.group = b.group → c.excludes = b.excludes →
          c.usage = b.usage ∧ (∀ n, n ≠ m → d.filing.mailbox n = f.mailbox n) ∧ d.filing.dir = f.dir ∧
          d.filing.bindings = f.bindings ∧ d.filing.channels = f.channels ∧
          (f.running = true →
            (b.usage < c.quota → c.overQuota = false) ∧ (c.quota < b.usage → c.overQuota = true) ∧
            (b.usage = c.quota → c.overQuota = b.overQuota) ∧
            (b.overQuota = false → c.quota < b.usage →
              f.tells d.filing .mailboxOver none (.mailbox m) 0 [argNat m, argNat c.quota, argNat b.usage]) ∧
            ((b.overQuota = true ∨ b.usage ≤ c.quota) → d.filing.ring = f.ring))))) ∧
    (∀ (k : MatchKind) (p : List Digit), (operand ops 0).toNat < 128 → bits (operand ops 1) 16 8 < 64 →
      matchKindOf (bits (operand ops 1) 0 8) = some k → operandPattern ops = some p →
      let e := (operand ops 0).toNat
      let m := bits (operand ops 1) 16 8
      let d := execute .setRoute ops f
      (∀ x r, x < 128 → x ≠ e → f.route x = some r → r.kind = k → r.pattern = p → d.code = .duplicate ∧ d.filing = f) ∧
      ((∀ x r, x < 128 → x ≠ e → f.route x = some r → ¬ (r.kind = k ∧ r.pattern = p)) →
      d.code = .ok ∧ d.args = [argNat e, argNat m] ∧ d.filing.route e = some { kind := k, pattern := p, mailbox := m } ∧
      (∀ x, x ≠ e → d.filing.route x = f.route x) ∧ d.filing.boxes.mailboxes = f.boxes.mailboxes ∧
      d.filing.dirty (.route e) = true ∧ d.filing.dir = f.dir ∧ d.filing.ring = f.ring)) ∧
    ((operand ops 0).toNat < 128 →
      let e := (operand ops 0).toNat
      let d := execute .clearRoute ops f
      d.code = .ok ∧ d.args = [argNat e] ∧ d.filing.route e = none ∧
      (∀ x, x ≠ e → d.filing.route x = f.route x) ∧ d.filing.boxes.mailboxes = f.boxes.mailboxes ∧
      d.filing.dirty (.route e) = true ∧ d.filing.dir = f.dir ∧ d.filing.ring = f.ring)

/-- HOLD, LIFT_HOLD, RETAIN and RELEASE on a FILED or REVIEW document of the identifier posted: the first sets HOLD; the
second clears it; the third replaces the retention and its RETAIN entry and clears EXPIRED; the fourth sets EXPIRED and
removes the entry, and names the first condition that still holds the document. LIFT_HOLD and RELEASE release a document
that nothing holds: its blocks, page records, usage and deadlines with its slot. On a RECEIVING document LIFT_HOLD
answers OK and the others are refused STATE (R95 to R99). -/
def Obligations.HoldsAndRetention : Prop :=
  ∀ (ops : List Word) (f : Filing) (k : Nat), (operand ops 0).toNat = f.docId k → (f.doc k).gen < 64 → k < 1024 →
    (f.doc k).state ≠ .free →
    let doc := f.doc k
    let keeps (g : Filing) : Prop :=
      (∀ j, j ≠ k → g.doc j = f.doc j) ∧ g.dir.pages = f.dir.pages ∧ g.blocks = f.blocks ∧ g.boxes = f.boxes ∧
      g.channels = f.channels ∧ g.queue = f.queue ∧ g.bindings = f.bindings ∧ g.ring = f.ring
    let own (e : Deadline) : Bool := e.kind == .retain && e.slot == k && e.gen == doc.gen
    let code (held : Bool) : Nat := if held then 1 else if doc.anyLive then 2 else if f.bound (f.docId k) then 3 else 0
    (doc.state = .receiving →
      execute .liftHold ops f = { filing := f, code := .ok, args := [] } ∧
      ∀ r, (r = .hold ∨ r = .retain ∨ r = .release) → execute r ops f = { filing := f, code := .state, args := [] }) ∧
    (doc.state ≠ .receiving →
      ((execute .hold ops f).code = .ok ∧ (execute .hold ops f).filing.doc k = { doc with hold := true } ∧
        keeps (execute .hold ops f).filing ∧ (execute .hold ops f).filing.clock = f.clock) ∧
      ((execute .liftHold ops f).code = .ok ∧
        ((doc.expired = false ∨ code false ≠ 0) →
          (execute .liftHold ops f).filing.doc k = { doc with hold := false } ∧ keeps (execute .liftHold ops f).filing) ∧
        (doc.expired = true → code false = 0 → f.docReleased (execute .liftHold ops f).filing k)) ∧
      (let d := execute .retain ops f
       let hours := min (operand ops 1).toNat 4320
       let dueAt : Time := f.now + BitVec.ofNat 32 (hours * 360000)
       let others := f.clock.deadlines.filter (fun e => !own e)
       d.code = .ok ∧ keeps d.filing ∧
       (hours = 0 → d.filing.doc k = { doc with expired := false, retention := none } ∧
         d.filing.clock.deadlines = others ∧ d.args = [operand ops 0, 0, 0]) ∧
       (0 < hours → d.filing.doc k = { doc with expired := false, retention := some dueAt } ∧
         d.filing.clock.deadlines =
           placeDeadline f.now { kind := .retain, slot := k, gen := doc.gen, due := dueAt } others ∧
         d.args = [operand ops 0, dueAt, 1])) ∧
      (let d := execute .release ops f
       d.code = .ok ∧ d.args = [operand ops 0, argNat (code doc.hold)] ∧
       (code doc.hold ≠ 0 → d.filing.doc k = { doc with expired := true } ∧ keeps d.filing ∧
         d.filing.clock.deadlines = f.clock.deadlines.filter (fun e => !own e)) ∧
       (code doc.hold = 0 → f.docReleased d.filing k ∧ ∀ j, j ≠ k → d.filing.doc j = f.doc j)))

/-- ACCEPT files a REVIEW document and makes its PENDING recipients READY; PURGE of a document without HOLD releases it,
its blocks, page records, usage and deadlines with its slot; REFILE moves a document and its blocks' usage to another
mailbox, breaks the bindings that show it and now fail the wall test, and releases it where it lost one and nothing else
holds it; it is refused RANGE above mailbox 63, STATE into a CLOSED one and WALL across a wall; ABORT_INTAKE closes the
call's document ABORTED, in PAGE behind a forced close of its open page, its channel enters DISCARD or LOCKED, and it is
refused STATE outside a call. The closes and releases are told by their notices (R50, R54, R77, R91 to R94, R98 to R101,
R136). -/
def Obligations.DocumentsMove : Prop :=
  (∀ (ops : List Word) (f : Filing) (k : Nat), (operand ops 0).toNat = f.docId k → (f.doc k).gen < 64 → k < 1024 →
    (f.doc k).state ≠ .free →
    let doc := f.doc k
    (let d := execute .accept ops f
     (doc.state ≠ .review → d = { filing := f, code := .state, args := [] }) ∧
     (doc.state = .review →
       d.code = .ok ∧ (d.filing.doc k).state = .filed ∧ (d.filing.doc k).hold = doc.hold ∧
       (d.filing.doc k).retention = doc.retention ∧ (d.filing.doc k).mailbox = doc.mailbox ∧
       (∀ i, i < 4 → (d.filing.doc k).recipient i =
         if (doc.recipient i).state = .pending then { doc.recipient i with state := .ready } else doc.recipient i) ∧
       (∀ i, i < 4 → (doc.recipient i).state = .pending → (k, i) ∈ d.filing.queue.all) ∧
       (∀ j, j ≠ k → d.filing.doc j = f.doc j) ∧ d.filing.blocks = f.blocks ∧ d.filing.boxes = f.boxes ∧
       d.filing.clock = f.clock ∧ d.filing.dirty (.document k) = true)) ∧
    (let d := execute .purge ops f
     (doc.hold = true → d = { filing := f, code := .held, args := [] }) ∧
     (doc.hold = false → doc.state = .receiving → d = { filing := f, code := .state, args := [] }) ∧
     (doc.hold = false → doc.state ≠ .receiving →
       d.code = .ok ∧ d.args = [operand ops 0, argNat doc.blockTotal] ∧
       f.docReleased d.filing k ∧
       (∀ r b, r < 8 → d.filing.binding r = some b → b.doc ≠ f.docId k) ∧
       ((∀ i, i < 4 → (doc.recipient i).state ≠ .active) → ∀ j, j ≠ k → d.filing.doc j = f.doc j) ∧
       d.filing.dirty (.document k) = true)) ∧
    (let d := execute .refile ops f
     let n := (operand ops 1).toNat
     let m := doc.mailbox
     (63 < n → d = { filing := f, code := .range, args := [] }) ∧
     (n < 64 → (f.mailbox n).shut = true → d = { filing := f, code := .state, args := [] }) ∧
     (n < 64 → (f.mailbox n).shut = false → f.wallPasses n m = false → d = { filing := f, code := .wall, args := [] }) ∧
     (n < 64 → (f.mailbox n).shut = false → f.wallPasses n m = true →
       let fails (x : Binding) : Prop := x.doc = f.docId k ∧ f.wallPasses x.viewer n = false
       let goes : Prop := (∃ r x, r < 8 ∧ f.binding r = some x ∧ fails x) ∧ (doc.state = .filed ∨ doc.state = .review) ∧
         doc.hold = false ∧ doc.expired = true ∧ doc.anyLive = false ∧ d.filing.bound (f.docId k) = false
       d.code = .ok ∧ d.args = [operand ops 0, argNat m, operand ops 1] ∧
       (∀ r x, r < 8 → f.binding r = some x → (fails x → d.filing.binding r = none) ∧
         (¬ fails x → d.filing.binding r = some x)) ∧
       (∀ r, r < 8 → f.binding r = none → d.filing.binding r = none) ∧
       (∀ b, b ≠ m → b ≠ n → d.filing.mailbox b = f.mailbox b) ∧ (∀ j, j ≠ k → d.filing.doc j = f.doc j) ∧
       d.filing.queue = f.queue ∧ d.filing.blocks.free = f.blocks.free ∧
       (¬ goes →
         d.filing.doc k = { doc with mailbox := n } ∧ d.filing.blocks = f.blocks ∧ d.filing.dir.pages = f.dir.pages ∧
         (n ≠ m → (d.filing.mailbox m).usage = (f.mailbox m).usage - doc.blockTotal ∧
           (d.filing.mailbox n).usage = (f.mailbox n).usage + doc.blockTotal)) ∧
       (goes →
         d.filing.doc k = Doc.freed ((doc.gen + 1) % 64) ∧ (∀ p ∈ f.docPages k, d.filing.page p = Page.freed) ∧
         d.filing.blocks.scrub = f.blocks.scrub ++ (f.docPages k).flatMap (fun p => f.pageChain p) ∧
         f.releaseTold d.filing k n ∧
         (n ≠ m → (d.filing.mailbox m).usage = (f.mailbox m).usage - doc.blockTotal ∧
           (d.filing.mailbox n).usage = (f.mailbox n).usage))))) ∧
  (∀ (ops : List Word) (f : Filing) (c : Nat), (operand ops 0).toNat = c → 1 ≤ c → c ≤ 24 →
    (f.chan c).state ≠ .gap → (f.chan c).state ≠ .page →
    execute .abortIntake ops f = { filing := f, code := .state, args := [] }) ∧
  (∀ (ops : List Word) (f : Filing) (c i : Nat), (operand ops 0).toNat = c → 1 ≤ c → c ≤ 24 →
    ((f.chan c).state = .gap ∨ (f.chan c).state = .page) → (f.chan c).doc = some i →
    let d := execute .abortIntake ops f
    d.code = .ok ∧ d.args = [argNat i] ∧ f.docClosed d.filing c (slotOf i) .aborted ∧
    (∀ p, (f.chan c).state = .page → (f.chan c).openPage = some p →
      f.pageClosed d.filing c p (slotOf i) (match (f.chan c).mark with
        | some m => m + 1
        | none => 1) true true) ∧
    (d.filing.chan c).doc = none ∧ (d.filing.chan c).timer = none ∧
    (d.filing.chan c).state = (if (f.chan c).lockPending then .locked else .discard) ∧
    (∀ e, e ≠ c → d.filing.chan e = f.chan e))

/-- ADD_RECIPIENT fills the lowest EMPTY place, READY at the tail of its class on a FILED document and else PENDING, and
is refused FULL where there is none; CANCEL_RECIPIENT of a PENDING or READY recipient leaves it CANCELLED and in no
queue; one in RETRY_WAIT loses its RETRY entry with it, and of an ACTIVE one the attempt ends with an UNBOUND notice of
reason CANCELLED; it is refused RANGE above place 3, NO_ENTRY for an EMPTY place and STATE for a finished recipient; the
document is released with its last live recipient where nothing else holds it; TAKE_FORWARD binds the head of the queue
to an IDLE channel at the first page from its next page on, and answers EMPTY on an empty queue; a head whose document
has no such page is DONE, with RECIPIENT_DONE told and its document released where nothing else holds it, and the
request goes on as on the queue without it; DROP_FORWARD returns the recipient of a channel in SEND to its class's tail
with its counts kept. The last two are refused STATE in any other channel state (R98, R106, R107, R110, R113, R125,
R126). That this RECIPIENT_DONE names the request's channel is the model's choice (log entry 40). -/
def Obligations.RecipientsAreServed : Prop :=
  (∀ (ops : List Word) (f : Filing) (k : Nat) (cls : MailClass) (target : List Digit),
    (operand ops 0).toNat = f.docId k → (f.doc k).gen < 64 → k < 1024 → (f.doc k).state ≠ .free →
    classOf (bits (operand ops 1) 0 8) = some cls → operandTarget ops 2 (bits (operand ops 1) 8 8) = some target →
    (f.doc k).emptyPlace = none → execute .addRecipient ops f = { filing := f, code := .full, args := [] }) ∧
  (∀ (ops : List Word) (f : Filing) (c : Nat), (operand ops 0).toNat = c → 1 ≤ c → c ≤ 24 →
    ((f.chan c).state ≠ .idle → execute .takeForward ops f = { filing := f, code := .state, args := [] }) ∧
    ((f.chan c).state ≠ .send → execute .dropForward ops f = { filing := f, code := .state, args := [] })) ∧
  (∀ (ops : List Word) (f : Filing) (k i : Nat) (cls : MailClass) (target : List Digit),
    (operand ops 0).toNat = f.docId k → (f.doc k).gen < 64 → k < 1024 → (f.doc k).state ≠ .free →
    classOf (bits (operand ops 1) 0 8) = some cls → operandTarget ops 2 (bits (operand ops 1) 8 8) = some target →
    (f.doc k).emptyPlace = some i →
    let st : RecipientState := if (f.doc k).state = .filed then .ready else .pending
    let d := execute .addRecipient ops f
    d.code = .ok ∧ d.args = [operand ops 0, argNat i, argNat st.code] ∧
    d.filing.doc k = (f.doc k).setRecipient i
      { state := st, cls := cls, target := target, attempts := 0, nextPage := 1, resend := 0, retryDue := none,
        channel := none } ∧
    d.filing.queue = (if (f.doc k).state = .filed then (f.join k i cls).queue else f.queue) ∧
    (∀ j, j ≠ k → d.filing.doc j = f.doc j) ∧ d.filing.dirty (.document k) = true ∧ d.filing.ring = f.ring) ∧
  (∀ (ops : List Word) (f : Filing) (k : Nat), (operand ops 0).toNat = f.docId k → (f.doc k).gen < 64 → k < 1024 →
    (f.doc k).state ≠ .free →
    let i := (operand ops 1).toNat
    let r := (f.doc k).recipient i
    let d := execute .cancelRecipient ops f
    let next := (f.doc k).setRecipient i { r with state := .cancelled }
    let goes : Prop := (next.state = .filed ∨ next.state = .review) ∧ next.hold = false ∧ next.expired = true ∧
      next.anyLive = false ∧ f.bound (f.docId k) = false
    i < 4 → (r.state = .pending ∨ r.state = .ready) →
    d.code = .ok ∧ d.args = [operand ops 0, operand ops 1] ∧
    (goes → f.docReleased d.filing k) ∧ (¬ goes → d.filing.doc k = next) ∧
    (∀ j, j ≠ k → d.filing.doc j = f.doc j) ∧ (r.state = .ready → (k, i) ∉ d.filing.queue.all) ∧
    d.filing.channels = f.channels) ∧
  (∀ (ops : List Word) (f : Filing), 3 < (operand ops 1).toNat →
    execute .cancelRecipient ops f = { filing := f, code := .range, args := [] }) ∧
  (∀ (ops : List Word) (f : Filing) (k : Nat), (operand ops 0).toNat = f.docId k → (f.doc k).gen < 64 → k < 1024 →
    (f.doc k).state ≠ .free → (operand ops 1).toNat < 4 →
    let i := (operand ops 1).toNat
    let r := (f.doc k).recipient i
    let d := execute .cancelRecipient ops f
    let next := (f.doc k).setRecipient i { r with state := .cancelled, retryDue := none, channel := none }
    let goes : Prop := (next.state = .filed ∨ next.state = .review) ∧ next.hold = false ∧ next.expired = true ∧
      next.anyLive = false ∧ f.bound (f.docId k) = false
    (r.state = .empty → d = { filing := f, code := .noEntry, args := [operand ops 0, argNat (f.doc k).gen] }) ∧
    ((r.state = .done ∨ r.state = .failed ∨ r.state = .cancelled) → d = { filing := f, code := .state, args := [] }) ∧
    (r.state = .retryWait → r.channel = none →
      d.code = .ok ∧ d.args = [operand ops 0, operand ops 1] ∧ d.filing.channels = f.channels ∧
      d.filing.queue = f.queue ∧ (∀ j, j ≠ k → d.filing.doc j = f.doc j) ∧
      (∀ e ∈ d.filing.clock.deadlines, ¬ (e.kind = .retry i ∧ e.slot = k ∧ e.gen = (f.doc k).gen)) ∧
      (goes → f.docReleased d.filing k) ∧
      (¬ goes → d.filing.doc k = next ∧ d.filing.ring = f.ring ∧ d.filing.clock.deadlines =
        f.clock.deadlines.filter (fun e => !(e.kind == .retry i && e.slot == k && e.gen == (f.doc k).gen)))) ∧
    (∀ c, r.state = .active → r.channel = some c → r.retryDue = none → (f.chan c).bound = some (k, i) →
      d.code = .ok ∧ d.args = [operand ops 0, operand ops 1] ∧ d.filing.queue = f.queue ∧
      d.filing.chan c =
        { f.chan c with state := if (f.chan c).lockPending then .locked else .idle, lockPending := false, bound := none,
                        sending := none, timer := none, info := SendInfo.cleared } ∧
      (∀ e, e ≠ c → d.filing.chan e = f.chan e) ∧ (∀ j, j ≠ k → d.filing.doc j = f.doc j) ∧
      (goes → f.docReleased d.filing k ∧ f.tells d.filing .unbound (some (f.docId k)) (.channel c) 3
        [operand ops 0, argNat c, operand ops 1, 1]) ∧
      (¬ goes → d.filing.doc k = next ∧
        d.filing.ring = (f.raise .unbound (some (f.docId k)) (.channel c) 3
          [operand ops 0, argNat c, operand ops 1, 1]).ring))) ∧
  (∀ (ops : List Word) (f : Filing) (c : Nat), (operand ops 0).toNat = c → 1 ≤ c → c ≤ 24 → (f.chan c).state = .idle →
    let d := execute .takeForward ops f
    (f.queue.all = [] → d = { filing := f, code := .empty, args := [] }) ∧
    (∀ k i rest p, f.queue.all = (k, i) :: rest → f.pageFrom k ((f.doc k).recipient i).nextPage = some p →
      let r := (f.doc k).recipient i
      d.code = .ok ∧ d.args = [argNat (f.docId k), argNat i, argNat (f.doc k).pageCount, argNat (f.page p).seq] ∧
      (d.filing.doc k).recipient i =
        { r with state := .active, channel := some c, resend := 0, nextPage := (f.page p).seq } ∧
      (k, i) ∉ d.filing.queue.all ∧
      d.filing.chan c =
        { f.chan c with state := .send, bound := some (k, i), sending := some p,
                        timer := some ((f.chan c).confirmTime * 100),
                        info := { doc := some (f.docId k), recipient := i, seq := (f.page p).seq,
                                  length := (f.page p).length, pages := (f.doc k).pageCount },
                        lastFault := if f.monitors.policy.lockout then (f.chan c).lastFault else none } ∧
      (∀ e, e ≠ c → d.filing.chan e = f.chan e) ∧ d.filing.dir.pages = f.dir.pages ∧ d.filing.ring = f.ring)) ∧
  (∀ (ops : List Word) (f : Filing) (c k i : Nat) (rest : List (Nat × Nat)), (operand ops 0).toNat = c → 1 ≤ c → c ≤ 24 →
    (f.chan c).state = .idle → f.queue.all = (k, i) :: rest → f.pageFrom k ((f.doc k).recipient i).nextPage = none →
    let next := (f.doc k).setRecipient i { (f.doc k).recipient i with state := .done }
    let goes : Prop := (next.state = .filed ∨ next.state = .review) ∧ next.hold = false ∧ next.expired = true ∧
      next.anyLive = false ∧ f.bound (f.docId k) = false
    let told : List Word := [argNat (f.docId k), argNat i, argNat c, argNat next.pageCount]
    ∃ g : Filing, execute .takeForward ops f = execute .takeForward ops g ∧
      g.queue.all = rest.filter (fun x => x != (k, i)) ∧ g.channels = f.channels ∧ (∀ j, j ≠ k → g.doc j = f.doc j) ∧
      (goes → f.docReleased g k ∧ f.tells g .recipientDone (some (f.docId k)) (.channel c) 0 told) ∧
      (¬ goes → g.doc k = next ∧ g.dir.pages = f.dir.pages ∧ g.blocks = f.blocks ∧
        g.ring = (f.raise .recipientDone (some (f.docId k)) (.channel c) 0 told).ring)) ∧
  (∀ (ops : List Word) (f : Filing) (c k i : Nat), (operand ops 0).toNat = c → 1 ≤ c → c ≤ 24 →
    (f.chan c).state = .send → (f.chan c).bound = some (k, i) →
    let r := (f.doc k).recipient i
    let d := execute .dropForward ops f
    d.code = .ok ∧ d.args = [argNat c, argNat (f.docId k), argNat i] ∧
    (d.filing.doc k).recipient i = { r with state := .ready, channel := none } ∧
    d.filing.queue = (f.join k i r.cls).queue ∧
    d.filing.chan c =
      { f.chan c with state := if (f.chan c).lockPending then .locked else .idle, lockPending := false, bound := none,
                      sending := none, timer := none, info := SendInfo.cleared } ∧
    (∀ e, e ≠ c → d.filing.chan e = f.chan e) ∧ d.filing.ring = f.ring)

/-- BIND_REVIEW of a CLOSED page of the document, its walls passing, binds its aperture and no other, and answers the
page's length, blocks and holes; it is refused STATE where the document has no such page and WALL across a wall;
UNBIND_REVIEW unbinds its aperture and no other. The document that a replaced or removed binding named is released
exactly where, the bindings as they then stand, nothing holds it; else nothing but the bindings changes (R89, R98, R99,
R131 to R133). -/
def Obligations.ApertureIsBoundAndUnbound : Prop :=
  ∀ (ops : List Word) (f : Filing) (r : Nat), (operand ops 0).toNat = r → r < 8 →
    let released (g : Filing) : Prop := ∀ b, f.binding r = some b →
      let x := f.doc (slotOf b.doc)
      let goes : Prop := b.doc ≤ 65535 ∧ (x.state = .filed ∨ x.state = .review) ∧ x.gen = b.doc % 64 ∧ x.hold = false ∧
        x.expired = true ∧ x.anyLive = false ∧ ∀ c ∈ g.bindings, c.2.doc ≠ b.doc
      (goes → f.docReleased g (slotOf b.doc) ∧ ∀ j, j ≠ slotOf b.doc → g.doc j = f.doc j) ∧
      (¬ goes → g = { f with bindings := g.bindings })
    (∀ k, (operand ops 1).toNat = f.docId k → (f.doc k).gen < 64 → k < 1024 → (f.doc k).state ≠ .free →
      1 ≤ (operand ops 2).toNat → (operand ops 2).toNat ≤ 999 → (operand ops 3).toNat < 64 →
      (f.closedPage k (operand ops 2).toNat = none →
        execute .bindReview ops f = { filing := f, code := .state, args := [] }) ∧
      (∀ p, f.closedPage k (operand ops 2).toNat = some p →
        f.wallPasses (operand ops 3).toNat (f.doc k).mailbox = false →
        execute .bindReview ops f = { filing := f, code := .wall, args := [] })) ∧
    (∀ k p, (operand ops 1).toNat = f.docId k → (f.doc k).gen < 64 → k < 1024 → (f.doc k).state ≠ .free →
      1 ≤ (operand ops 2).toNat → (operand ops 2).toNat ≤ 999 → (operand ops 3).toNat < 64 →
      f.closedPage k (operand ops 2).toNat = some p → f.wallPasses (operand ops 3).toNat (f.doc k).mailbox = true →
      let d := execute .bindReview ops f
      let g := f.page p
      d.code = .ok ∧
      d.args = [packWord [(0, 8, r), (16, 16, (operand ops 2).toNat)], operand ops 1, argNat g.length,
                packWord [(0, 8, g.count), (8, 8, g.holes)]] ∧
      d.filing.binding r =
        some { doc := f.docId k, seq := (operand ops 2).toNat, page := p, viewer := (operand ops 3).toNat } ∧
      (∀ q, q ≠ r → d.filing.binding q = f.binding q) ∧ d.filing.channels = f.channels ∧
      (f.binding r = none → d.filing.dir = f.dir ∧ d.filing.ring = f.ring) ∧ released d.filing) ∧
    (let d := execute .unbindReview ops f
     d.code = .ok ∧ d.args = [operand ops 0] ∧ d.filing.binding r = none ∧
     (∀ q, q ≠ r → d.filing.binding q = f.binding q) ∧ d.filing.channels = f.channels ∧
     (f.binding r = none → d.filing = f) ∧ released d.filing)

/-- A raised notice is produced at once, at the ring's production index with the next sequence number, where the part
runs, the ring is not full and no notice is pending; else it enters the pending notice set: one whose key is held
replaces the held notice in its place, a new one joins the tail, and where 256 are held it is lost and the lost count
rises by one, to 65,535 at most. The keys held stay distinct (R152, R153, R156, R157, R193). That before READY every
notice waits rests on R172 and R186. -/
def Obligations.NoticesEnterTheSet : Prop :=
  ∀ (f : Filing) (kind : NoticeKind) (doc : Option Nat) (item : KeyItem) (code : Nat) (args : List Word),
    let n : Notice := { key := { kind := kind, doc := doc, item := item }, code := code, args := args, time := f.now }
    let g := f.raise kind doc item code args
    let atOnce : Prop := f.boot.phase = .running ∧ f.ring.production - f.ring.consumer ≠ 255#8 ∧ f.ring.pending = []
    let held : Prop := ∃ x ∈ f.ring.pending, x.key = n.key
    (atOnce → g = { f with ring := { f.ring with
      production := f.ring.production + 1, sequence := f.ring.sequence + 1
      waiting := f.ring.waiting ++ [{ pos := f.ring.production, seq := f.ring.sequence,
                                      kind := noticeKinds.idxOf kind + 1, code := code,
                                      slot := none, time := f.now, args := args, own := false }] } }) ∧
    (¬ atOnce →
      (∀ l x r, f.ring.pending = l ++ x :: r → x.key = n.key → (∀ y ∈ l ++ r, y.key ≠ n.key) →
        g = { f with ring := { f.ring with pending := l ++ n :: r } }) ∧
      (¬ held → f.ring.pending.length < 256 →
        g = { f with ring := { f.ring with pending := f.ring.pending ++ [n] } }) ∧
      (¬ held → 256 ≤ f.ring.pending.length → f.ring.lost < 65535 →
        g.ring = { f.ring with lost := f.ring.lost + 1 } ∧ g.agrees f ∧ g.monitors = f.monitors ∧
        g.dirty .status = true ∧ ∀ r, r ≠ .status → r ≠ .layoutHeader → g.dirty r = f.dirty r) ∧
      (¬ held → 256 ≤ f.ring.pending.length → 65535 ≤ f.ring.lost → g = f)) ∧
    ((f.ring.pending.map Notice.key).Nodup → (g.ring.pending.map Notice.key).Nodup)

/-- A consumer word drains: the consumer copy takes its value, or the producer index where the value claims more entries
than have been written; the write is stored. A write from the word's first byte on gives the value by its own low byte;
a narrow one behind it leaves the low byte that stands in the bank. Where the copy stays, or nothing waits, nothing else
changes. Where it moves, the ring is filled until it is full or nothing waits: pending notices first, in order, then the
deferred list from its head; a deferred result or BUSY is produced; a deferred request is executed in the state it then
finds, its result produced behind its notices, or placed at the list's head where one of them has to wait or they fill
the ring (R150 to R154, R158, R159, R193). With an empty deferred list as many pending notices as there is room for are
produced. Which byte of the word is its low byte is the model's choice (log entry 1), and so is the value of a narrow
word while the consumer word's reset waits (log entry 36). -/
def Obligations.ConsumerWordMovesTheCopy : Prop :=
  ∀ (s : State) (x : Staged) (z : Nat), s.drains x = true → x.cls = .control z → z < 0x1000 →
    let c : BitVec 8 := if z = 0xC0 then x.write.data.setWidth 8 else s.store.page.read 0xC0
    let ring := s.filing.ring
    let new := if c - ring.consumer ≤ ring.producer - ring.consumer then c else ring.producer
    let stored := s.board.await (.page z)
    (new = ring.consumer → exec .consumerWord s = .next { s with board := stored }) ∧
    (s.filing.posting.deferred = [] → new ≠ ring.consumer →
      let k := min ring.pending.length (255 - (ring.production - new).toNat)
      ∃ t, exec .consumerWord s = .next t ∧ t.board = stored ∧ t.store = s.store ∧
        t.filing.ring = { ring with
          consumer := new, pending := ring.pending.drop k
          production := ring.production + BitVec.ofNat 8 k, sequence := ring.sequence + BitVec.ofNat 16 k
          waiting := ring.waiting ++ (ring.pending.take k).zipIdx.map (fun y =>
            { pos := ring.production + BitVec.ofNat 8 y.2, seq := ring.sequence + BitVec.ofNat 16 y.2,
              kind := noticeKinds.idxOf y.1.key.kind + 1, code := y.1.code, slot := none, time := y.1.time, args := y.1.args,
              own := false }) } ∧
        t.filing.agrees s.filing ∧ t.filing.monitors = s.filing.monitors ∧ t.filing.dirty .status = true) ∧
    (new ≠ ring.consumer →
      ∃ n g, exec .consumerWord s = .next { s with board := stored, filing := g } ∧
        Filing.fills n (({ s.filing with ring := { ring with consumer := new } } : Filing).mark .status) g)

/-- A header slot word other than the call word replaces the same bytes of the captured copy and is stored in channel
record c (R11, R38). Which bytes of a word a narrow write replaces is the model's choice of byte order (log entry 1). -/
def Obligations.HeaderWordIsCaptured : Prop :=
  ∀ (s : State) (x : Staged) (c o : Nat), s.drains x = true → x.cls = .landing c o → 1048448 ≤ o → o < 1048508 →
    let ch := s.filing.chan c
    let i := (o - 1048448) / 4
    exec .headerWord s =
      .next { s with board := s.board.await (.page (0x4000 + 0x100 * (c - 1) + (o - 1048448)))
                     filing := s.filing.setChan c { ch with
                       header := Tbl.put ch.header i (overlayWord (ch.headerWord i) ((o - 1048448) % 4) x.write.bytes) } }

/-- OPEN in IDLE or DISCARD: with a slot to give, a document is created there with the fields of R40 and the channel
enters GAP with its timer loaded; with none, the channel enters DISCARD and no document changes. OPEN in SEND or LOCKED
changes nothing but for INTAKE_REFUSED with reason BUSY or LOCKED; in GAP or PAGE it ends the call as END does and is
then taken as in the state that leaves. The call word is stored, and captured as header word 15. The lookup gives the
mailbox of an EXACT entry of the dialled digits, else of the PREFIX entry of the longest pattern they begin with, else
mailbox 0, and mailbox 0 with REROUTED for a CLOSED one; the slot given is the lowest FREE one that no page record freed
with it holds back. INTAKE_OPENED names document, channel, mailbox and REROUTED; INTAKE_REFUSED names the channel, its
reason DIRECTORY_FULL where there is no slot (R35, R38, R40, R41, R73, R74, R90). The model's choices: the last fault
stays where there is no slot to give (log entry 56), and the call word is captured at all (log entry 59: R38 captures
the other words). -/
def Obligations.OpenCreatesTheDocument : Prop :=
  (∀ (f : Filing) (d : List Digit),
    let deliver (m : Nat) : Nat × Bool := if (f.mailbox m).shut then (0, true) else (m, false)
    let entry (r : Route) : Prop := ∃ e, e < 128 ∧ f.route e = some r
    let exact (r : Route) : Prop := r.kind = .exact ∧ r.pattern = d
    let leads (r : Route) : Prop := r.kind = .leading ∧ r.pattern ≠ [] ∧ r.pattern <+: d
    ((∃ r, entry r ∧ exact r) → ∃ r, entry r ∧ exact r ∧ f.lookup d = deliver r.mailbox) ∧
    ((∀ r, entry r → ¬ exact r) → (∃ r, entry r ∧ leads r) →
      ∃ r, entry r ∧ leads r ∧ (∀ q, entry q → leads q → q.pattern.length ≤ r.pattern.length) ∧
        f.lookup d = deliver r.mailbox) ∧
    ((∀ r, entry r → ¬ exact r ∧ ¬ leads r) → f.lookup d = deliver 0)) ∧
  (∀ f : Filing,
    let free (k : Nat) : Prop := k < 1024 ∧ (f.doc k).state = .free ∧ ∀ p, (k, p) ∉ f.dir.withheld
    (∀ k, f.givenSlot = some k ↔ free k ∧ ∀ j, j < k → ¬ free j) ∧ (f.givenSlot = none ↔ ∀ k, ¬ free k)) ∧
  (∀ (s : State) (x : Staged) (c : Nat), s.drains x = true → x.cls = .landing c 1048508 → x.write.width = .full →
    x.write.data = 1 →
    let ch := s.filing.chan c
    let f := s.filing.setChan c { ch with header := Tbl.put ch.header 15 1 }
    let stored := s.board.await (.page (0x4000 + 0x100 * (c - 1) + 60))
    (ch.state = .send →
      exec .openCall s = .next { s with board := stored
                                        filing := f.raise .intakeRefused none (.channel c) 2 [argNat c] }) ∧
    (ch.state = .locked →
      exec .openCall s = .next { s with board := stored
                                        filing := f.raise .intakeRefused none (.channel c) 3 [argNat c] }) ∧
    (∀ d, (ch.state = .gap ∨ ch.state = .page) → ch.doc = some d →
      let g := f.endCall c
      ((g.chan c).state = .idle ∨ (g.chan c).state = .locked) ∧
      exec .openCall s = .next { s with board := stored, filing := g.openCall c })) ∧
  ∀ (s : State) (x : Staged) (c : Nat), s.drains x = true → x.cls = .landing c 1048508 → x.write.width = .full →
    x.write.data = 1 → ((s.filing.chan c).state = .idle ∨ (s.filing.chan c).state = .discard) →
    let ch := s.filing.chan c
    let lk := s.filing.lookup ch.dialled
    ∃ t, exec .openCall s = .next t ∧
      t.board = s.board.await (.page (0x4000 + 0x100 * (c - 1) + 60)) ∧ t.store = s.store ∧
      t.filing.blocks = s.filing.blocks ∧ t.filing.boxes = s.filing.boxes ∧ t.filing.queue = s.filing.queue ∧
      (∀ e, e ≠ c → t.filing.chan e = s.filing.chan e) ∧
      (∀ k, s.filing.givenSlot = some k →
        t.filing.doc k =
          { state := .receiving, closure := .opened, gen := (s.filing.doc k).gen, mailbox := lk.1, channel := some c,
            arrival := some s.filing.now, closed := none, retention := none, hold := false, expired := false,
            rerouted := lk.2, damaged := false, pageCount := 0, firstPage := none, blockTotal := 0,
            digits := ch.dialled, caller := ch.callerId, recipients := defaultRecipients (s.filing.mailbox lk.1) } ∧
        (∀ j, j ≠ k → t.filing.doc j = s.filing.doc j) ∧ t.filing.dir.pages = s.filing.dir.pages ∧
        t.filing.chan c = { ch with state := .gap, header := Tbl.put ch.header 15 1
                                    doc := some (k * 64 + (s.filing.doc k).gen)
                                    timer := some (ch.gapTime * 100)
                                    lastFault := if s.filing.monitors.policy.lockout then ch.lastFault else none } ∧
        t.filing.ring = (s.filing.raise .intakeOpened (some (k * 64 + (s.filing.doc k).gen)) (.channel c) 0
          [argNat (k * 64 + (s.filing.doc k).gen), argNat c, argNat lk.1, if lk.2 then 1 else 0]).ring) ∧
      (s.filing.givenSlot = none →
        t.filing.dir = s.filing.dir ∧
        t.filing.ring = (s.filing.raise .intakeRefused none (.channel c) 1 [argNat c]).ring ∧
        t.filing.chan c = { ch with state := .discard, header := Tbl.put ch.header 15 1, timer := none })

/-- END: in GAP and PAGE the document closes CALL_ENDED, in PAGE behind a forced close of its open page, and the channel
leaves the call for IDLE, or LOCKED where lock pending is set, with no document and its timer stopped; in DISCARD it
enters IDLE; in IDLE, SEND and LOCKED nothing else changes. PAGE_CLOSED and DOC_CLOSED tell of the closes. The call word
is stored, and captured as header word 15 (R25, R26, R35, R38, R42, R48, R50, R51, R91 to R93). That the call word is
captured at all is the model's choice (log entry 59: R38 captures the other words). -/
def Obligations.EndLeavesTheCall : Prop :=
  ∀ (s : State) (x : Staged) (c : Nat), s.drains x = true → x.cls = .landing c 1048508 → x.write.width = .full →
    x.write.data = 2 →
    let ch := s.filing.chan c
    let put := Tbl.put ch.header 15 2
    ∃ t, exec .endCall s = .next t ∧ (t.filing.chan c).header = put ∧
      t.board = s.board.await (.page (0x4000 + 0x100 * (c - 1) + 60)) ∧ t.store = s.store ∧
      (∀ e, e ≠ c → t.filing.chan e = s.filing.chan e) ∧
      (∀ d p, ch.state = .page → ch.doc = some d → ch.openPage = some p →
        s.filing.pageClosed t.filing c p (slotOf d) (match ch.mark with
          | some m => m + 1
          | none => 1) true true) ∧
      (∀ d, (ch.state = .gap ∨ ch.state = .page) → ch.doc = some d →
        s.filing.docClosed t.filing c (slotOf d) .callEnded ∧
        (t.filing.chan c).state = (if ch.lockPending then .locked else .idle) ∧ (t.filing.chan c).doc = none ∧
        (t.filing.chan c).timer = none ∧ (t.filing.chan c).lockPending = false ∧
        (t.filing.chan c).lastFault = ch.lastFault) ∧
      (ch.state = .discard →
        t.filing.chan c = { ch with state := .idle, header := put, timer := none } ∧ t.filing.dir = s.filing.dir) ∧
      ((ch.state = .idle ∨ ch.state = .send ∨ ch.state = .locked) →
        t.filing = s.filing.setChan c { ch with header := put })

/-- A call word of another kind, or narrower than 32 bits, is stored, captured as header word 15 and reported as STRAY:
unless STRAY is masked its latch is set and it is the channel's last fault, and with lockout on an IDLE or DISCARD
channel locks at once, any other is left with lock pending (R35, R38, R39, R56, R168). The model's choices: which bytes of
the word a narrow write replaces (log entry 1), that a LOCKED channel too is left with lock pending (log entry 47), and
that the call word is captured at all (log entry 59: R38 captures the other words). -/
def Obligations.OtherCallKindIsStray : Prop :=
  ∀ (s : State) (x : Staged) (c o : Nat), s.drains x = true → x.cls = .landing c o → 1048508 ≤ o → o < 1048512 →
    (x.write.width ≠ .full ∨ (x.write.data ≠ 1 ∧ x.write.data ≠ 2)) →
    let old := s.filing.chan c
    let ch : Channel := { old with
      header := Tbl.put old.header 15 (overlayWord (old.headerWord 15) ((o - 1048448) % 4) x.write.bytes) }
    ∃ t, exec .otherCallKind s = .next t ∧
      t.board = s.board.await (.page (0x4000 + 0x100 * (c - 1) + (o - 1048448))) ∧ t.store = s.store ∧
      t.filing.dir = s.filing.dir ∧ t.filing.blocks = s.filing.blocks ∧ t.filing.boxes = s.filing.boxes ∧
      (∀ e, e ≠ c → t.filing.chan e = s.filing.chan e) ∧
      (s.filing.monitors.policy.masks.getLsbD 6 = true → t.filing = s.filing.setChan c ch) ∧
      (s.filing.monitors.policy.masks.getLsbD 6 = false →
        t.filing.monitors.latches = s.filing.monitors.latches ||| 0x040#10 ∧
        (s.filing.monitors.policy.lockout = false → t.filing.chan c = { ch with lastFault := some .stray }) ∧
        (s.filing.monitors.policy.lockout = true → (ch.state = .idle ∨ ch.state = .discard) →
          t.filing.chan c =
            { ch with lastFault := some .stray, state := .locked, lockPending := false, timer := none }) ∧
        (s.filing.monitors.policy.lockout = true → ch.state ≠ .idle → ch.state ≠ .discard →
          t.filing.chan c = { ch with lastFault := some .stray, lockPending := true }))

/-- A landing data write in PAGE at an index that is mapped goes to its block with no admission, raises the mark and
reloads the stall timer; in DISCARD and LOCKED it is discarded and nothing is reported. In PAGE at an unmapped index
that is admitted it takes the free chain's head: the block becomes LANDING at that index and waits for its write-ahead
entry, F falls by one, and usage, block count, block total and map take it. A fall of F from above the floor to it is a
LOW latch event, with STORE_LOW and FAULT told unless LOW is masked; a borrowing grant sets OVER, with MAILBOX_OVER told
and, unless OVER is masked, its latch event (R22, R23, R43, R45, R46, R66 to R69, R168, R171). -/
def Obligations.DataWriteLandsOrAllocates : Prop :=
  (∀ (s : State) (x : Staged) (c o : Nat), s.drains x = true → x.cls = .landing c o → o < 1048448 →
    let ch := s.filing.chan c
    (∀ p d n, ch.state = .page → ch.openPage = some p → ch.doc = some d → Tbl.find ch.map (o / 8192) = some n →
      ∃ t, exec .dataWrite s = .next t ∧ t.board = s.board.await (.page (n * 8192 + o % 8192)) ∧ t.store = s.store ∧
        t.filing.chan c =
          { ch with mark := some (max (ch.mark.getD 0) (o + x.write.width.bytes - 1)),
                    timer := some (ch.stallTime * 50) } ∧
        (∀ e, e ≠ c → t.filing.chan e = s.filing.chan e) ∧ t.filing.dir = s.filing.dir ∧
        t.filing.blocks = s.filing.blocks ∧ t.filing.boxes = s.filing.boxes ∧
        t.filing.dirty (.page p) = true ∧ t.filing.dirty (.channel c) = true) ∧
    ((ch.state = .discard ∨ ch.state = .locked) →
      ∃ t, exec .dataWrite s = .next t ∧ t.board.queue = s.board.queue.tail ∧ t.board.head = none ∧
        t.store = s.store ∧ (s.board.port = .idle → t.filing = s.filing))) ∧
  ∀ (s : State) (x : Staged) (c o p d n : Nat) (rest : List Nat), s.drains x = true → x.cls = .landing c o →
    o < 1048448 → (s.filing.chan c).state = .page → (s.filing.chan c).openPage = some p →
    (s.filing.chan c).doc = some d → Tbl.find (s.filing.chan c).map (o / 8192) = none →
    s.filing.blocks.free = n :: rest → n ∉ s.filing.pageChain p →
    let k := slotOf d
    let m := (s.filing.doc k).mailbox
    ((s.filing.mailbox m).usage < (s.filing.mailbox m).quota ∨ s.filing.monitors.policy.floor < s.filing.freeCount) →
    ∃ t, exec .dataWrite s = .next t ∧
      t.board = { s.board with head := some { dest := .page (n * 8192 + o % 8192), ahead := some n } } ∧
      t.store = s.store ∧ t.filing.blocks.free = rest ∧ t.filing.blocks.scrub = s.filing.blocks.scrub ∧
      t.filing.block n = { state := .landing, index := o / 8192, next := none } ∧ t.filing.dirty (.block n) = false ∧
      (t.filing.page p).count = (s.filing.page p).count + 1 ∧
      (t.filing.doc k).blockTotal = (s.filing.doc k).blockTotal + 1 ∧
      (t.filing.mailbox m).usage = (s.filing.mailbox m).usage + 1 ∧
      Tbl.find (t.filing.chan c).map (o / 8192) = some n ∧
      (∀ j, j ≠ o / 8192 → Tbl.find (t.filing.chan c).map j = Tbl.find (s.filing.chan c).map j) ∧
      (t.filing.chan c).timer = some ((s.filing.chan c).stallTime * 50) ∧
      (let b := s.filing.mailbox m
       let mon := s.filing.monitors
       let low : Prop := mon.policy.floor = rest.length ∧ mon.policy.masks.getLsbD 4 = false
       let borrows : Prop := b.overQuota = false ∧ b.quota < b.usage + 1
       let warned : Prop := borrows ∧ mon.policy.masks.getLsbD 5 = false
       (t.filing.mailbox m).overQuota =
         (if b.quota < b.usage + 1 then true else if b.usage + 1 < b.quota then false else b.overQuota) ∧
       (low → s.filing.lowTold t.filing rest.length mon.policy.floor) ∧
       (borrows → s.filing.tells t.filing .mailboxOver none (.mailbox m) 0
         [argNat m, argNat b.quota, argNat (b.usage + 1)]) ∧
       (warned → s.filing.tells t.filing .fault none (.monitor .overQuota) 5
         [packWord [(0, 8, 0xFF), (8, 8, 0xFF)], 0xFFFFFFFF#32, argNat m]) ∧
       (∀ i, i < 10 → (t.filing.monitors.latches.getLsbD i = true ↔
         mon.latches.getLsbD i = true ∨ (i = 4 ∧ low) ∨ (i = 5 ∧ warned))) ∧
       (warned → t.filing.monitors.capture = mon.capture.or (some
         { monitor := .overQuota, channel := none, master := none, doc := none, detail := argNat m, time := s.filing.now })) ∧
       (¬ warned → low → t.filing.monitors.capture =
         mon.capture.or (some (lowCapture rest.length mon.policy.floor s.filing.now))) ∧
       (¬ warned → ¬ low → t.filing.monitors.capture = mon.capture ∧ (¬ borrows → t.filing.ring = s.filing.ring)))

/-- A landing data write in GAP starts a page: the free page list's head becomes the document's next page and the
channel's open page, and the write is then admitted or refused as in PAGE; with no free page record, or 999 pages, the
write is discarded, the document closes REFUSED and the call is left for DISCARD or LOCKED. A refused admission in PAGE
sets SHORT. In IDLE and SEND the write is discarded and reported as STRAY (R43 to R45, R51, R88, R91 to R93); that the
report marks the channel record ahead of the status record is the model's choice (log entry 66). -/
def Obligations.DataWriteStartsAPage : Prop :=
  ∀ (s : State) (x : Staged) (c o : Nat), s.drains x = true → x.cls = .landing c o → o < 1048448 →
    let ch := s.filing.chan c
    let out (t : State) : Prop :=
      t.board.queue = s.board.queue.tail ∧ t.board.head = none ∧ t.store = s.store
    let noted := if s.filing.monitors.policy.masks.getLsbD 3 then ch.lastFault else some .short
    (∀ d p rest, ch.state = .gap → ch.doc = some d → s.filing.dir.freePages = p :: rest →
      (s.filing.doc (slotOf d)).pageCount < 999 → p ∉ s.filing.docPages (slotOf d) →
      let k := slotOf d
      let m := (s.filing.doc k).mailbox
      let admitted : Prop := (s.filing.mailbox m).usage < (s.filing.mailbox m).quota ∨
        s.filing.monitors.policy.floor < s.filing.freeCount
      let page : Page := { Page.freed with state := .landing, owner := k, seq := (s.filing.doc k).pageCount + 1 }
      (∀ n free, s.filing.blocks.free = n :: free → admitted →
        ∃ t, exec .dataWrite s = .next t ∧
          t.board = { s.board with head := some { dest := .page (n * 8192 + o % 8192), ahead := some n } } ∧
          t.store = s.store ∧ t.filing.dir.freePages = rest ∧ t.filing.blocks.free = free ∧
          t.filing.page p = { page with first := some n, count := 1 } ∧
          (t.filing.doc k).pageCount = (s.filing.doc k).pageCount + 1 ∧
          (t.filing.doc k).blockTotal = (s.filing.doc k).blockTotal + 1 ∧
          (t.filing.mailbox m).usage = (s.filing.mailbox m).usage + 1 ∧
          t.filing.chan c = { ch with state := .page, openPage := some p, map := [(o / 8192, n)],
                                      mark := some (o + x.write.width.bytes - 1), timer := some (ch.stallTime * 50) }) ∧
      ((s.filing.blocks.free = [] ∨ ¬ admitted) →
        ∃ t, exec .dataWrite s = .next t ∧ out t ∧
          (s.board.port = .idle →
            t.filing.dir.freePages = rest ∧ t.filing.blocks = s.filing.blocks ∧
            t.filing.page p = { page with short := true } ∧
            (t.filing.doc k).pageCount = (s.filing.doc k).pageCount + 1 ∧
            t.filing.chan c = { ch with state := .page, openPage := some p, map := [], mark := none,
                                        timer := some (ch.stallTime * 50), lastFault := noted }))) ∧
    (∀ d, ch.state = .gap → ch.doc = some d →
      (s.filing.dir.freePages = [] ∨ 999 ≤ (s.filing.doc (slotOf d)).pageCount) →
      ∃ t, exec .dataWrite s = .next t ∧ out t ∧
        (s.board.port = .idle →
          s.filing.docClosed t.filing c (slotOf d) .refused ∧
          t.filing.chan c = { ch with doc := none, timer := none, lockPending := false,
                                      state := if ch.lockPending then .locked else .discard })) ∧
    (∀ p d, ch.state = .page → ch.openPage = some p → ch.doc = some d → Tbl.find ch.map (o / 8192) = none →
      s.filing.admits (s.filing.doc (slotOf d)).mailbox = false →
      ∃ t, exec .dataWrite s = .next t ∧ out t ∧
        (s.board.port = .idle →
          t.filing.page p = { s.filing.page p with short := true } ∧ t.filing.chan c = { ch with lastFault := noted } ∧
          t.filing.blocks = s.filing.blocks ∧ t.filing.boxes = s.filing.boxes)) ∧
    ((ch.state = .idle ∨ ch.state = .send) →
      ∃ t, exec .dataWrite s = .next t ∧ out t ∧
        (s.board.port = .idle → t.filing = s.filing.reportFault c .stray (argNat StrayPart.dataArea.code)))

/-- R52, whole: a trailer word outside PAGE, or narrower than 32 bits in any state, is ignored, reported as STRAY except
in DISCARD and LOCKED, and stored in channel record c. Which of the report's two records, channel and status, stands
first on the flush list, which no rule gives, is left open. -/
def Obligations.TrailerOutOfPlace : Prop :=
  ∀ (s : State) (x : Staged) (c o : Nat), s.drains x = true → x.cls = .landing c o → 1048572 ≤ o → o < 1048576 →
    ((s.filing.chan c).state ≠ .page ∨ x.write.width ≠ .full) →
    let stored := s.board.await (.page (0x4000 + 0x100 * (c - 1) + (o - 1048448)))
    let told := s.filing.reportFault c .stray (argNat StrayPart.trailerWord.code)
    let others (l : List RecordId) : List RecordId := l.filter (fun r => decide (r ≠ .channel c ∧ r ≠ .status))
    (((s.filing.chan c).state = .discard ∨ (s.filing.chan c).state = .locked ∨ s.filing.masked .stray = true) →
      exec .trailerWord s = .next { s with board := stored }) ∧
    ((s.filing.chan c).state ≠ .discard → (s.filing.chan c).state ≠ .locked →
      ∃ marks, marks.Perm told.mirror.flushList ∧ others marks = others told.mirror.flushList ∧
        exec .trailerWord s =
          .next { s with board := stored, filing := { told with mirror := { told.mirror with flushList := marks } } })

/-- A 32-bit trailer word in PAGE closes the page with its length, or with the mark plus one (1 with no mark) and
LENGTH_ESTIMATED where the length is out of range, counts its holes, files its blocks and trims those beyond the length;
with the last-page flag clear the channel enters GAP with the gap timer loaded, with the flag set the document closes
LAST_PAGE and the channel leaves the call (R25, R26, R46 to R49, R51, R91 to R93). -/
def Obligations.TrailerClosesThePage : Prop :=
  ∀ (s : State) (x : Staged) (c p d : Nat), s.drains x = true → x.cls = .landing c 1048572 → x.write.width = .full →
    (s.filing.chan c).state = .page → (s.filing.chan c).openPage = some p → (s.filing.chan c).doc = some d →
    let ch := s.filing.chan c
    let given := bits x.write.data 0 21
    let good := decide (1 ≤ given) && decide (given ≤ 1048448)
    let l := if good then given else match ch.mark with
      | some m => m + 1
      | none => 1
    ∃ t, exec .trailerWord s = .next t ∧
      t.board = s.board.await (.page (0x4000 + 0x100 * (c - 1) + 124)) ∧ t.store = s.store ∧
      (t.filing.chan c).openPage = none ∧ (t.filing.chan c).map = [] ∧ (t.filing.chan c).mark = none ∧
      s.filing.pageClosed t.filing c p (slotOf d) l false (!good) ∧
      (bits x.write.data 31 1 = 0 →
        (t.filing.chan c).state = .gap ∧ (t.filing.chan c).timer = some (ch.gapTime * 100) ∧
        (t.filing.chan c).doc = some d ∧ (∀ j, j ≠ slotOf d → t.filing.doc j = s.filing.doc j) ∧
        (t.filing.doc (slotOf d)).state = (s.filing.doc (slotOf d)).state) ∧
      (bits x.write.data 31 1 = 1 →
        s.filing.docClosed t.filing c (slotOf d) .lastPage ∧
        (t.filing.chan c).state = (if ch.lockPending then .locked else .idle) ∧ (t.filing.chan c).doc = none ∧
        (t.filing.chan c).timer = none)

/-- OK with a following page: next page and current page become that page, the resend count 0, the info fields and the
timer follow. OK on the last page: the recipient is DONE, RECIPIENT_DONE is raised, and its document is released where
nothing else holds it; the attempt ends, and the channel enters IDLE or LOCKED, unbound (R98, R99, R111, R113, R118). -/
def Obligations.ConfirmOkConfirmsThePage : Prop :=
  ∀ (s : State) (x : Staged) (c k i p : Nat), s.drains x = true → x.cls = .forward c 1048572 → x.write.width = .full →
    (s.filing.chan c).state = .send → (s.filing.chan c).bound = some (k, i) → (s.filing.chan c).sending = some p →
    bits x.write.data 24 8 = 1 → bits x.write.data 0 10 = (s.filing.chan c).info.seq →
    let ch := s.filing.chan c
    let r := (s.filing.doc k).recipient i
    ∃ t, exec .confirmOk s = .next t ∧
      t.board = s.board.await (.page (0x4000 + 0x100 * (c - 1) + 252)) ∧ t.store = s.store ∧
      (∀ q, (s.filing.page p).next = some q →
        (t.filing.doc k).recipient i = { r with nextPage := (s.filing.page q).seq, resend := 0 } ∧
        t.filing.chan c =
          { ch with sending := some q, timer := some (ch.confirmTime * 100),
                    info := { doc := some (k * 64 + (s.filing.doc k).gen), recipient := i,
                              seq := (s.filing.page q).seq, length := (s.filing.page q).length,
                              pages := (s.filing.doc k).pageCount } } ∧
        t.filing.queue = s.filing.queue ∧ t.filing.blocks = s.filing.blocks) ∧
      ((s.filing.page p).next = none →
        (let d := (s.filing.doc k).setRecipient i { r with state := .done, channel := none }
         let goes : Prop := (d.state = .filed ∨ d.state = .review) ∧ d.hold = false ∧ d.expired = true ∧
           d.anyLive = false ∧ s.filing.bound (s.filing.docId k) = false
         let told : List Word := [argNat (s.filing.docId k), argNat i, argNat c, argNat d.pageCount]
         (goes → s.filing.docReleased t.filing k ∧
           s.filing.tells t.filing .recipientDone (some (s.filing.docId k)) (.channel c) 0 told) ∧
         (¬ goes → t.filing.doc k = d ∧
           t.filing.ring = (s.filing.raise .recipientDone (some (s.filing.docId k)) (.channel c) 0 told).ring)) ∧
        (t.filing.chan c).state = (if ch.lockPending then .locked else .idle) ∧ (t.filing.chan c).bound = none ∧
        (t.filing.chan c).sending = none ∧ (t.filing.chan c).timer = none ∧
        (t.filing.chan c).info = SendInfo.cleared)

/-- Confirm words that end no attempt. RESEND, the first three on a page: the resend count rises by one and the timer is
reloaded; the current page and the next page stay. A confirm word outside SEND, or in SEND narrow, of an unknown outcome
or with a wrong echo, is stored and ignored, and reported as STRAY except in DISCARD and LOCKED (R117, R119); that the
report marks the channel record ahead of the status record is the model's choice (log entry 66). -/
def Obligations.ResendAndStrayConfirmWords : Prop :=
  (∀ (s : State) (x : Staged) (c k i : Nat), s.drains x = true → x.cls = .forward c 1048572 → x.write.width = .full →
      (s.filing.chan c).state = .send → (s.filing.chan c).bound = some (k, i) →
      bits x.write.data 24 8 = 2 → bits x.write.data 0 10 = (s.filing.chan c).info.seq →
      let ch := s.filing.chan c
      let r := (s.filing.doc k).recipient i
      r.resend < 3 →
      ∃ t, exec .confirmResend s = .next t ∧
        t.board = s.board.await (.page (0x4000 + 0x100 * (c - 1) + 252)) ∧ t.store = s.store ∧
        (t.filing.doc k).recipient i = { r with resend := r.resend + 1 } ∧
        (∀ j, j ≠ i → (t.filing.doc k).recipient j = (s.filing.doc k).recipient j) ∧
        (∀ j, j ≠ k → t.filing.doc j = s.filing.doc j) ∧
        t.filing.chan c = { ch with timer := some (ch.confirmTime * 100) } ∧
        (∀ e, e ≠ c → t.filing.chan e = s.filing.chan e) ∧
        t.filing.dirty (.document k) = true ∧ t.filing.ring = s.filing.ring ∧ t.filing.blocks = s.filing.blocks) ∧
  ∀ (s : State) (x : Staged) (c o : Nat), s.drains x = true → x.cls = .forward c o → 1048572 ≤ o → o < 1048576 →
    ((s.filing.chan c).state ≠ .send ∨ x.write.width ≠ .full ∨ bits x.write.data 24 8 = 0 ∨
      3 < bits x.write.data 24 8 ∨ bits x.write.data 0 10 ≠ (s.filing.chan c).info.seq) →
    let stored := s.board.await (.page (0x4000 + 0x100 * (c - 1) + (o - 1048448) + 128))
    (((s.filing.chan c).state = .discard ∨ (s.filing.chan c).state = .locked) →
      exec .confirmWordOutOfPlace s = .next { s with board := stored }) ∧
    ((s.filing.chan c).state ≠ .discard → (s.filing.chan c).state ≠ .locked →
      exec .confirmWordOutOfPlace s =
        .next { s with board := stored, filing := s.filing.reportFault c .stray (argNat StrayPart.confirmWord.code) })

/-- A failed attempt, by ABANDON or by the fourth RESEND: attempts rise by one and the channel is unbound. Below the
fifth the recipient waits for its retry due, the clock plus the backoff, with next page and resend count kept, its RETRY
entry is placed and RECIPIENT_RETRY is raised; at the fifth it is FAILED, RECIPIENT_FAILED is raised, and its document
is released where nothing else holds it (R98, R99, R119 to R122). -/
def Obligations.FailedAttemptIsRetried : Prop :=
  ∀ (s : State) (x : Staged) (c k i : Nat) (cmd : Instr), s.drains x = true → x.cls = .forward c 1048572 →
    x.write.width = .full → (s.filing.chan c).state = .send → (s.filing.chan c).bound = some (k, i) →
    bits x.write.data 0 10 = (s.filing.chan c).info.seq →
    let ch := s.filing.chan c
    let r := (s.filing.doc k).recipient i
    let dueAt : Time := s.filing.now + BitVec.ofNat 32 (min (s.filing.monitors.policy.retryBase * 2 ^ r.attempts) 14400 * 100)
    ((cmd = .confirmAbandon ∧ bits x.write.data 24 8 = 3) ∨
      (cmd = .confirmResend ∧ bits x.write.data 24 8 = 2 ∧ 3 ≤ r.resend)) →
    (4 ≤ r.attempts →
      ∃ t, exec cmd s = .next t ∧
        t.board = s.board.await (.page (0x4000 + 0x100 * (c - 1) + 252)) ∧ t.store = s.store ∧
        (let d := (s.filing.doc k).setRecipient i
           { r with attempts := r.attempts + 1, state := .failed, channel := none }
         let goes : Prop := (d.state = .filed ∨ d.state = .review) ∧ d.hold = false ∧ d.expired = true ∧
           d.anyLive = false ∧ s.filing.bound (s.filing.docId k) = false
         let told : List Word := [argNat (s.filing.docId k), packWord [(0, 8, i), (8, 8, r.attempts + 1)], 0,
           argNat r.nextPage]
         (goes → s.filing.docReleased t.filing k ∧
           s.filing.tells t.filing .recipientFailed (some (s.filing.docId k)) (.channel c) 0 told) ∧
         (¬ goes → t.filing.doc k = d ∧
           t.filing.ring = (s.filing.raise .recipientFailed (some (s.filing.docId k)) (.channel c) 0 told).ring)) ∧
        t.filing.chan c =
          { ch with state := if ch.lockPending then .locked else .idle, lockPending := false, bound := none,
                    sending := none, timer := none, info := SendInfo.cleared } ∧
        (∀ e, e ≠ c → t.filing.chan e = s.filing.chan e)) ∧
    (r.attempts < 4 →
    ∃ t, exec cmd s = .next t ∧
      t.board = s.board.await (.page (0x4000 + 0x100 * (c - 1) + 252)) ∧ t.store = s.store ∧
      (t.filing.doc k).recipient i =
        { r with attempts := r.attempts + 1, state := .retryWait, retryDue := some dueAt, channel := none } ∧
      (∀ j, j ≠ k → t.filing.doc j = s.filing.doc j) ∧
      t.filing.chan c =
        { ch with state := if ch.lockPending then .locked else .idle, lockPending := false, bound := none,
                  sending := none, timer := none, info := SendInfo.cleared } ∧
      (∀ e, e ≠ c → t.filing.chan e = s.filing.chan e) ∧
      t.filing.clock.deadlines = placeDeadline s.filing.now
        { kind := .retry i, slot := k, gen := (s.filing.doc k).gen, due := dueAt } s.filing.clock.deadlines ∧
      t.filing.ring = (s.filing.raise .recipientRetry (some (s.filing.docId k)) (.channel c) 0
        [argNat (s.filing.docId k), packWord [(0, 8, i), (8, 8, r.attempts + 1)], dueAt, argNat r.nextPage]).ring)

/-! ## Grants -/

/-- Kinds 2 and 3: the write-ahead entry of the head's new block is written as it stands and the head then waits for its
own store write only; that write puts its bytes at its destination and nowhere else, and leaves the queue (R10, R23,
R24, R196). The bits of a block entry without a meaning are the model's choice (log entry 46). -/
def Obligations.HeadOfTheQueueIsWritten : Prop :=
  (∀ (s : State) (w : HeadWork) (n : Nat), s.grants .ahead = true → s.board.head = some w → w.ahead = some n →
    ∃ t, exec .writeAheadWrite s = .next t ∧
      t.store.page.readWord (0xC0000 + 4 * n) = (s.filing.block n).layout ∧
      (∀ a, (a < 0xC0000 + 4 * n ∨ 0xC0000 + 4 * n + 4 ≤ a) → t.store.page.read a = s.store.page.read a) ∧
      t.store.general = s.store.general ∧ t.board.head = some { w with ahead := none } ∧
      t.board.queue = s.board.queue ∧ t.filing.dirty (.block n) = false ∧
      (∀ r, r ≠ .block n → t.filing.dirty r = s.filing.dirty r)) ∧
  (∀ (s : State) (x : Staged) (q : List Staged) (a : Nat), s.grants .head = true → s.board.queue = x :: q →
    (s.board.head = some { dest := .general a, ahead := none } →
      ∃ t, exec .headStoreWrite s = .next t ∧ t.board.queue = q ∧ t.board.head = none ∧ t.store.page = s.store.page ∧
        t.store.general.readBytes a x.write.width.bytes = (wordBytes x.write.data).take x.write.width.bytes ∧
        (∀ b, (b < a ∨ a + x.write.width.bytes ≤ b) → t.store.general.read b = s.store.general.read b)) ∧
    (s.board.head = some { dest := .page a, ahead := none } →
      a + x.write.width.bytes ≤ s.store.bankMiB * 1048576 →
      ∃ t, exec .headStoreWrite s = .next t ∧ t.board.queue = q ∧ t.board.head = none ∧
        t.store.general = s.store.general ∧
        t.store.page.readBytes a x.write.width.bytes = (wordBytes x.write.data).take x.write.width.bytes ∧
        (∀ b, (b < a ∨ a + x.write.width.bytes ≤ b) → t.store.page.read b = s.store.page.read b)))

/-- Kind 4: the consumer word is written 0 ahead of every entry; an entry's eight words, sequence, kind and code, slot
and tag, time, a zero and the four arguments, are written at its position, the producer index advances past it, the
status record is dirty, and an own result returns its slot to IDLE (R150, R152, R160, R193, R194). -/
def Obligations.RingWordsAreWritten : Prop :=
  ∀ s : State, s.grants .result = true →
    (s.filing.ring.resetWaits = true →
      ∃ t, exec .consumerWordReset s = .next t ∧ t.store.page.readWord 0xC0 = 0 ∧
        (∀ a, (a < 0xC0 ∨ 0xC4 ≤ a) → t.store.page.read a = s.store.page.read a) ∧
        t.filing = { s.filing with ring := { s.filing.ring with resetWaits := false } } ∧
        t.board = { s.board with starve := 0 }) ∧
    (∀ e rest, s.filing.ring.resetWaits = false → s.filing.ring.waiting = e :: rest →
      ∃ t, exec .resultEntryWrite s = .next t ∧
        t.store.page.readWords (0x2000 + 0x20 * e.pos.toNat) 8 = e.layout ∧
        (∀ a, (a < 0x2000 + 0x20 * e.pos.toNat ∨ 0x2000 + 0x20 * e.pos.toNat + 32 ≤ a) →
          t.store.page.read a = s.store.page.read a) ∧
        t.filing.ring = { s.filing.ring with waiting := rest, producer := e.pos + 1 } ∧
        t.filing.dirty .status = true ∧ t.board = { s.board with starve := 0 } ∧
        (∀ k tag, e.own = true → e.slot = some (k, tag) →
          t.filing.slot k = { s.filing.slot k with state := .idle } ∧
          ∀ j, j ≠ k → t.filing.slot j = s.filing.slot j) ∧
        (e.own = false → t.filing.posting = s.filing.posting))

/-- A record flush writes the record whole, as it stands, at its place and nowhere else, its words laid out as Tables
37, 38 and 42 to 44 give them, the status record's and words 32 to 47 of a channel record among them, and the record is
clean; a page record's flush holds its slot back no longer; a header write that clears the clean flag comes first (R90,
R162, R166, R187, R189, R190, R192, R195, R196). The bits of a block entry without a meaning (log entry 46), the words
of a FREE document slot (log entry 40), those of an EMPTY recipient place (log entry 57) and which byte of a word is a
string's first (log entry 1) are the model's choices. -/
def Obligations.RecordFlushWritesTheRecord : Prop :=
  ∀ s : State, s.grants .flush = true →
    (∀ r, s.flushUnit = some (.record r) → (∀ p, r = .page p → p < 8192) →
      ∃ t, exec .recordFlush s = .next t ∧
        (∀ g ∈ s.filing.layout r, t.store.page.readWords g.1 g.2.length = g.2) ∧
        (∀ a, (∀ g ∈ s.filing.layout r, a < g.1 ∨ g.1 + 4 * g.2.length ≤ a) →
          t.store.page.read a = s.store.page.read a) ∧
        t.store.general = s.store.general ∧ t.filing.dirty r = false ∧
        (∀ q, q ≠ r → t.filing.dirty q = s.filing.dirty q) ∧ t.filing.dir.docs = s.filing.dir.docs ∧
        t.filing.dir.pages = s.filing.dir.pages ∧ t.filing.blocks = s.filing.blocks ∧
        t.filing.dir.withheld = s.filing.dir.withheld.filter (fun y => decide (r ≠ .page y.2))) ∧
    (s.filing.mirror.rewrite = true →
      ∃ t, exec .recordFlush s = .next t ∧
        t.store.page.readWords 0 8 =
          withCheck [0x24160001#32, BitVec.ofNat 32 s.filing.mirror.sizeMiB, 0, s.filing.mirror.saved, 0, 0, 0] ∧
        t.filing.mirror.clean = false ∧ t.filing.mirror.rewrite = false ∧ t.filing.dirty .layoutHeader = false)

/-- The Scrub Unit begins the scrub chain's head when R29 allows it and else waits for it; one that waits begins as the
flush of its block's entry is written, or as the store write into its block leaves the queue, whichever is last. Each
line writes 32 zero bytes and raises the line count; the 256th line moves the block to the free chain's tail, and the
unit begins the next head by the same rule, or is idle with none (R29, R30). -/
def Obligations.ScrubZeroesTheBlock : Prop :=
  ∀ (s : State) (n : Nat),
    (∀ rest, s.calm = true → s.filing.scrubber = .idle → s.filing.blocks.scrub = n :: rest →
      exec .scrubBegin s =
        let u : ScrubUnit :=
          if s.filing.dirty (.block n) = false ∧ s.board.ahead ≠ some n ∧ s.board.headBlock ≠ some n then .scrubbing n 0
          else .waiting n
        .next { s with filing := { s.filing with scrubber := u } }) ∧
    (s.filing.scrubber = .waiting n → s.grants .flush = true → s.flushUnit = some (.record (.block n)) →
      ∃ t, exec .recordFlush s = .next t ∧
        t.filing.scrubber = if s.board.headBlock = some n then .waiting n else .scrubbing n 0) ∧
    (∀ a x q, s.filing.scrubber = .waiting n → s.grants .head = true → s.board.queue = x :: q →
      s.board.head = some { dest := .page a, ahead := none } → a / 8192 = n →
      a + x.write.width.bytes ≤ s.store.bankMiB * 1048576 →
      ∃ t, exec .headStoreWrite s = .next t ∧
        t.filing.scrubber = if s.filing.dirty (.block n) = true then .waiting n else .scrubbing n 0) ∧
    (∀ i, s.grants .scrub = true → s.filing.scrubber = .scrubbing n i →
      n * 8192 + 32 * i + 32 ≤ s.store.bankMiB * 1048576 →
      ∃ t, exec .scrubLine s = .next t ∧
        (∀ a, n * 8192 + 32 * i ≤ a → a < n * 8192 + 32 * i + 32 → t.store.page.read a = 0) ∧
        (∀ a, (a < n * 8192 + 32 * i ∨ n * 8192 + 32 * i + 32 ≤ a) → t.store.page.read a = s.store.page.read a) ∧
        (i < 255 → t.filing = { s.filing with scrubber := .scrubbing n (i + 1) }) ∧
        (255 ≤ i → t.filing.blocks.free = s.filing.blocks.free ++ [n] ∧
          t.filing.blocks.scrub = s.filing.blocks.scrub.tail ∧
          t.filing.block n = { state := .free, index := 0, next := none } ∧ t.filing.dirty (.block n) = true ∧
          t.filing.dirty .status = true ∧
          (s.filing.blocks.scrub.tail = [] → t.filing.scrubber = .idle) ∧
          (∀ m rest, s.filing.blocks.scrub.tail = m :: rest →
            t.filing.scrubber =
              if t.filing.dirty (.block m) = false ∧ s.board.ahead ≠ some m ∧ s.board.headBlock ≠ some m then .scrubbing m 0
              else .waiting m)))

/-- The starvation count (R15, R16): it is 0 at power-on and after BRESET and stays 0 to 16; a grant to kinds 1 to 3
raises it while any of kinds 4 to 6 waits and else sets it to 0; a grant to kinds 4 to 6 sets it to 0; at 16 with any of
kinds 4 to 6 waiting the next grant goes to the first waiting of 4, 5 and 6, and below 16 to the first waiting kind in
the order of R15. That the grant of a read whose translation gives no block counts as one of kind 1, though it is given
back unused, is the model's choice (log entry 20). -/
def Obligations.StarvationCount : Prop :=
  State.reset.board.starve = 0 ∧
  (∀ s t i, s.board.starve ≤ 16 → exec i s = .next t → t.board.starve ≤ 16) ∧
  (∀ s : State, s.board.starve < 16 →
    s.nextKind = [Kind.read, .ahead, .head, .result, .flush, .scrub].find? s.waits) ∧
  (∀ s t, s.filing.boot.phase ≠ .off → s.board.breset = false → exec .breset s = .next t → t.board.starve = 0) ∧
  (∀ s t i k, s.filing.settled = true → (k = .flush → s.filing.running = true) → s.nextKind = some k →
    (s.grantCommand = some i ∨ ∃ e, k = .read ∧ i = .boardReadGrant (some e)) → exec i s = .next t →
    t.board.starve =
      if k = .read ∨ k = .ahead ∨ k = .head then
        (if s.waits .result ∨ s.waits .flush ∨ s.waits .scrub then s.board.starve + 1 else 0)
      else 0) ∧
  (∀ s t i p errs e, s.startsAt p = true → exec i s = .next t →
    ((i = .sizingProbe e ∧ p = .sizing) ∨ (i = .layoutHeaderCheck e ∧ p = .headerCheck) ∨
      (i = .freshFormat ∧ p = .formatting) ∨ (i = .recoveryWalk errs ∧ p = .walking) ∨
      (i = .rebuild ∧ p = .rebuilding) ∨ (i = .ready ∧ (p = .formatted ∨ p = .rebuilt))) → t.board.starve = 0) ∧
  (∀ s : State, s.board.starve = 16 → s.waits .result = true → s.nextKind = some .result) ∧
  (∀ s : State, s.board.starve = 16 → s.waits .result = false → s.waits .flush = true → s.nextKind = some .flush) ∧
  (∀ s : State, s.board.starve = 16 → s.waits .result = false → s.waits .flush = false → s.waits .scrub = true →
    s.nextKind = some .scrub)

/-! ## Start-up, power warning, reset and power loss -/

/-- POWER_ON reads the straps, CHANS above 24 as 24, and goes on to sizing, or halts E1h with ZONE 0 or CLKSEL 3 (R2,
R179). POWER_LOSS with no record flush in hand, or with none of its words written, leaves the page bank as it is;
everything on chip is as before power-on (R32, R167). The model's choices: step 01h is whole in POWER_ON, so that no
state shows its code (log entry 74), the general bank is as nothing has written it (log entry 6), the pins are
deasserted and the fitted bank is kept (log entry 7), a record flush alone can be cut short (log entry 16). -/
def Obligations.PowerOnAndPowerLoss : Prop :=
  (∀ (s : State) (zone : BitVec 4) (gtop : BitVec 6) (chans : BitVec 5) (clksel : BitVec 2) (bank wrap : Nat),
    s.filing.boot.phase = .off → 1 ≤ bank →
    exec (.powerOn zone gtop chans clksel bank wrap) s =
      .next { s with
        board := { s.board with straps := { zone := zone.toNat, gtop := gtop.toNat, channels := min chans.toNat 24,
                                            clksel := clksel.toNat } }
        store := { s.store with bankMiB := bank, wrapMiB := wrap }
        filing := { s.filing with boot := { s.filing.boot with
          phase := if zone = 0 ∨ clksel = 3 then .haltStraps else .sizing } } }) ∧
  (∀ (s : State) (written : Nat), s.filing.boot.phase ≠ .off → (written = 0 ∨ s.nextKind ≠ some .flush) →
    exec (.powerLoss written) s =
      .next { pending := s.pending, board := State.reset.board, filing := State.reset.filing
              store := { s.store with general := [] } })

/-- A sizing probe leaves both banks as they were; it goes on to the next boundary, or ends sizing at the last one that
passed plus 1 MiB, halting below 8 MiB: E3h after an alias, else E2h (R180). Where a boundary lies in the fitted bank is
the model's own view of the wiring (log entry 14). -/
def Obligations.ProbeFixesTheSize : Prop :=
  ∀ (s : State) (err : Bool), s.startsAt .sizing = true →
    let b := s.filing.boot.boundary
    let aliased : Prop := 0 < s.store.wrapMiB ∧ b % s.store.wrapMiB = 0
    let passes : Prop := ¬ aliased ∧ err = false ∧ b < s.store.bankMiB
    ∃ t, exec (.sizingProbe err) s = .next t ∧ t.store = s.store ∧
      (passes → b < 511 → t.filing.boot.phase = .sizing ∧ t.filing.boot.boundary = b + 1) ∧
      (passes → 511 ≤ b → t.filing.boot.phase = .headerCheck ∧ t.filing.blockCount = (b + 1) * 128) ∧
      (¬ passes → 8 ≤ b → t.filing.boot.phase = .headerCheck ∧ t.filing.blockCount = b * 128) ∧
      (¬ passes → b < 8 → aliased → t.filing.boot.phase = .haltWrapped) ∧
      (¬ passes → b < 8 → ¬ aliased → t.filing.boot.phase = .haltShort)

/-- The layout header is classified by signature, check word and size; a valid or torn one leads to recovery with the
header first written with its clean flag clear; a torn one latches TORN and takes the detected size and a saved clock of
0 (R182). The model's choices: T takes the saved clock here (log entry 43), and a clean flag's word other than 1 is
clear (log entry 41). -/
def Obligations.HeaderIsClassified : Prop :=
  ∀ (s : State) (err : Bool), s.startsAt .headerCheck = true →
    let ws := s.store.page.readWords 0 8
    let good : Prop := checkGood ws = true ∧ 8 ≤ (wordAt ws 1).toNat ∧ (wordAt ws 1).toNat ≤ 512
    ∃ t, exec (.layoutHeaderCheck err) s = .next t ∧
      (err = false → wordAt ws 0 ≠ 0x24160001#32 → t.filing.boot.phase = .formatting ∧ t.store = s.store) ∧
      (err = false → wordAt ws 0 = 0x24160001#32 → good →
        t.filing.boot.phase = .walking ∧ t.filing.boot.recordedMiB = (wordAt ws 1).toNat ∧
        t.filing.now = wordAt ws 3 ∧ (t.filing.boot.cleanFound = true ↔ wordAt ws 2 = 1) ∧
        t.store.page.readWords 0 8 = sealed 8 [0x24160001#32, wordAt ws 1, 0, wordAt ws 3] ∧
        t.filing.monitors = s.filing.monitors) ∧
      ((err = true ∨ (wordAt ws 0 = 0x24160001#32 ∧ ¬ good)) →
        t.filing.boot.phase = .walking ∧ t.filing.boot.recordedMiB = s.filing.boot.sizeMiB ∧ t.filing.now = 0 ∧
        t.filing.boot.cleanFound = false ∧ t.filing.monitors.latches = s.filing.monitors.latches ||| 0x200#10 ∧
        t.store.page.readWords 0 8 = sealed 8 [0x24160001#32, argNat s.filing.boot.sizeMiB, 0, 0])

/-- A fresh format leaves every usable block on the scrub chain in ascending order with F = 0, every table at its
fresh-format values, and the layout header written with the clean flag clear and a saved clock of 0 (R33, R62, R70,
R103, R178, R183). -/
def Obligations.FormatBuildsEmptyTables : Prop :=
  ∀ s : State, s.startsAt .formatting = true →
    ∃ t, exec .freshFormat s = .next t ∧ t.filing.boot.phase = .formatted ∧ t.filing.freeCount = 0 ∧
      t.filing.blocks.scrub = (List.range (s.filing.blockCount - 128)).map (128 + ·) ∧
      (∀ n, 128 ≤ n → n < s.filing.blockCount → t.filing.block n = { state := .scrub, index := 0, next := none }) ∧
      (∀ n, n < 128 → (t.filing.block n).state = .reserved) ∧
      (∀ k, t.filing.doc k = Doc.freed 0) ∧ (∀ p, t.filing.page p = Page.freed) ∧
      t.filing.dir.freePages = List.range 8192 ∧ (∀ m, t.filing.mailbox m = Mailbox.fresh) ∧
      (∀ e, t.filing.route e = none) ∧ t.filing.queue.all = [] ∧ t.filing.clock.deadlines = [] ∧
      t.filing.monitors.policy = { floor := 256, lockout := false, masks := 0, retryBase := 120 } ∧
      t.store.page.readWords 0 8 = sealed 8 [0x24160001#32, argNat s.filing.boot.sizeMiB, 0, 0] ∧
      t.store.general = s.store.general

/-- The recovery walk writes neither bank and restores the records from their mirrors. Policy: a record that could be
read, sums to FFFFFFFFh and holds values in their ranges gives its fields, the floor clamped to N − 128, and any other
the fresh-format policy. Mailboxes: as their records read, mailbox 0 OPEN, or the fresh-format values. Routes: as their
records read, or empty; of two entries with one kind and pattern the lower is kept and the other's record is dirty.
Documents: as their records read, but for what their pages decide, or FREE with the next generation. Every torn record
latches TORN. Channels: IDLE with their records' timer settings clamped, or the defaults (R62, R79, R178, R184, R185).
The model's choices: which codes and values make a record torn, bits 7 and 9 to 31 of the policy's mask word among them
(log entry 29), fields without a meaning left unjudged (log entry 68), and the generation of a document record read with
a data error, that of the bank's bytes (log entry 61); that a retry due word of 0 in RETRY_WAIT is time 0 is log entry
50. -/
def Obligations.WalkRestoresTheRecords : Prop :=
  ∀ (s : State) (errs : List RecordId), s.startsAt .walking = true →
    let bank := s.store.page
    ∃ t, exec (.recoveryWalk errs) s = .next t ∧ t.store = s.store ∧ t.filing.boot.phase = .rebuilding ∧
      (let ws := bank.readWords 0x7800 16
       let good : Prop := RecordId.policy ∉ errs ∧ wordSum ws = 0xFFFFFFFF#32 ∧ (wordAt ws 1).toNat < 2 ∧
         wordAt ws 2 &&& 0xFFFFFE80#32 = 0 ∧ 10 ≤ (wordAt ws 3).toNat ∧ (wordAt ws 3).toNat ≤ 3600
       (good → t.filing.monitors.policy =
         { floor := min (wordAt ws 0).toNat (s.filing.blockCount - 128), lockout := decide (wordAt ws 1 = 1),
           masks := (wordAt ws 2).setWidth 10, retryBase := (wordAt ws 3).toNat }) ∧
       (¬ good → t.filing.monitors.policy = { floor := 256, lockout := false, masks := 0, retryBase := 120 } ∧
         t.filing.monitors.latches.getLsbD 9 = true)) ∧
      (∀ m, m < 64 →
        let ws := bank.readWords (0x6000 + 0x40 * m) 16
        (∀ b, RecordId.mailbox m ∉ errs → restoreMailbox ws = some b →
          wordSum ws = 0xFFFFFFFF#32 ∧ t.filing.mailbox m = { b with shut := b.shut && decide (m ≠ 0) }) ∧
        ((RecordId.mailbox m ∈ errs ∨ restoreMailbox ws = none) →
          t.filing.mailbox m = Mailbox.fresh ∧ t.filing.monitors.latches.getLsbD 9 = true)) ∧
      (∀ e, e < 128 →
        let ws := bank.readWords (0x7000 + 0x10 * e) 4
        (RecordId.route e ∉ errs → restoreRoute ws = some none → t.filing.route e = none) ∧
        (∀ r, RecordId.route e ∉ errs → restoreRoute ws = some (some r) →
          let twin : Prop := ∃ x q, x < e ∧ t.filing.route x = some q ∧ q.kind = r.kind ∧ q.pattern = r.pattern
          wordSum ws = 0xFFFFFFFF#32 ∧ (twin → t.filing.route e = none ∧ t.filing.dirty (.route e) = true) ∧
          (¬ twin → t.filing.route e = some r)) ∧
        ((RecordId.route e ∈ errs ∨ restoreRoute ws = none) →
          t.filing.route e = none ∧ t.filing.monitors.latches.getLsbD 9 = true)) ∧
      (∀ k, k < 1024 →
        let ws := bank.readWords (0x8000 + 0x100 * k) 64
        (∀ d, RecordId.document k ∉ errs → restoreDoc ws = some d →
          wordSum ws = 0xFFFFFFFF#32 ∧ (d.state = .free → t.filing.doc k = d) ∧
          t.filing.doc k = { d with pageCount := (t.filing.doc k).pageCount, firstPage := (t.filing.doc k).firstPage,
                                    damaged := (t.filing.doc k).damaged }) ∧
        ((RecordId.document k ∈ errs ∨ restoreDoc ws = none) →
          t.filing.doc k = Doc.freed ((bits (wordAt ws 1) 0 8 % 64 + 1) % 64) ∧
          t.filing.monitors.latches.getLsbD 9 = true)) ∧
      (∀ c, 1 ≤ c → c ≤ 24 →
        let ws := bank.readWords (0x4000 + 0x100 * (c - 1) + 128) 16
        t.filing.chan c =
          if RecordId.channel c ∈ errs then Channel.fresh
          else { Channel.fresh with stallTime := max 1 (min 120 (wordAt ws 8).toNat)
                                    gapTime := max 5 (min 300 (wordAt ws 9).toNat)
                                    confirmTime := max 5 (min 120 (wordAt ws 10).toNat) })

/-- The recovery walk settles the pages: a page record that is torn, FREE, or names a FREE slot is FREE; of the others,
one is kept for each slot and sequence number, of two the one that the document's recorded page list reaches first, and
where it reaches neither the lower-numbered; each document's pages are the kept ones in ascending sequence number, its
page count is theirs, and DAMAGED is set where a page was dropped or the count differs. The Block Table is as the mirror
shows it: an entry of no valid state, or read with a data error, stands RESERVED for the rebuild to take, a block beyond
the recorded size is SCRUB. Where the chain walk is made, it follows each kept page's links from its first block: those
of a CLOSED page take FILED blocks with rising indices below its keep count until the recorded count is reached, those
of a LANDING page LANDING and FILED blocks to the chain's end; a block that another chain holds, or another failure,
stops it; a block numbered N or above is dropped and its link followed on; a CLOSED page's holes are recounted. Where it
is skipped, a page whose recorded chain is whole keeps first block, count and holes as recorded (R21, R182, R184). The
model's choices: dropped blocks count towards the recorded count (log entry 25); of a chain that breaks under a skipped
walk the page keeps what stands before the break, its holes recounted (log entries 24 and 51); blocks 0 to 127 are
RESERVED whatever the mirror shows (log entry 53); a CLOSED page's index is held against the last block taken, dropped
blocks apart (log entry 71); a chain that comes back to a block of its own stops there (log entry 72); a LANDING page's
walk ends where links at blocks numbered N or above form a loop (log entry 76); which values make a record torn (log
entries 29 and 68). The tables are then as the rebuild takes them. -/
def Obligations.WalkSettlesThePages : Prop :=
  ∀ (s : State) (errs : List RecordId), s.startsAt .walking = true →
    let bank := s.store.page
    let words (p : Nat) := bank.readWords (0x48000 + 0x10 * p) 4 ++ bank.readWords (0x68000 + 4 * p) 1
    let docWords (k : Nat) := bank.readWords (0x8000 + 0x100 * k) 64
    let entry (n : Nat) : BlockEntry :=
      let w := wordAt (bank.readWords (0xC0000 + 4 * n) 1) 0
      if RecordId.block n ∈ errs ∨ n < 128 then { state := .reserved, index := 0, next := none }
      else if s.filing.boot.recordedMiB * 128 ≤ n ∧ n < s.filing.blockCount then
        { state := .scrub, index := 0, next := none }
      else
        { state := if bits w 0 3 = 1 then .free else if bits w 0 3 = 2 then .scrub else if bits w 0 3 = 3 then .landing
                   else if bits w 0 3 = 4 then .filed else .reserved
          index := bits w 8 7, next := if bits w 15 1 = 1 then some (bits w 16 16) else none }
    ∃ t, exec (.recoveryWalk errs) s = .next t ∧
      (let f := t.filing
       let kept (p : Nat) : Prop := (f.page p).state ≠ .free
       let good (p : Nat) (g : Page) : Prop := p < 8192 ∧ RecordId.page p ∉ errs ∧ restorePage (words p) = some g ∧
         g.state ≠ .free ∧ (f.doc g.owner).state ≠ .free
       let twins (g h : Page) : Prop := h.owner = g.owner ∧ h.seq = g.seq
       let links (next : Nat → Option Nat) (ns : List Nat) : Prop :=
         ∀ l a b r, ns = l ++ a :: b :: r → next a = some b
       let listed (k : Nat) (ps : List Nat) : Prop :=
         (∃ d, restoreDoc (docWords k) = some d ∧ ps.head? = d.firstPage) ∧
         links (fun p => if p < 8192 ∧ RecordId.page p ∉ errs then (restorePage (words p)).bind Page.next else none) ps
       (∀ p, (∀ g, ¬ good p g) → f.page p = Page.freed) ∧
       (∀ p, p < 8192 → (RecordId.page p ∈ errs ∨ restorePage (words p) = none) →
         f.monitors.latches.getLsbD 9 = true) ∧
       (∀ p g, good p g → ∃ q h, good q h ∧ twins g h ∧ kept q ∧ ∀ x y, good x y → twins g y → kept x → x = q) ∧
       (∀ p q g h, good p g → good q h → twins g h → p ≠ q →
         ((∃ ps, listed g.owner (ps ++ [p]) ∧ q ∉ ps) → ¬ kept q) ∧
         (p < q → (∀ ps, listed g.owner ps → q ∉ ps) → ¬ kept q)) ∧
       (∀ p g, good p g → kept p → f.page p =
         { g with next := (f.page p).next, first := (f.pageChain p).head?, count := (f.pageChain p).length,
                  holes := (f.page p).holes }) ∧
       (∀ k, k < 1024 → (f.doc k).state ≠ .free →
         (f.docPages k).Pairwise (fun p q => (f.page p).seq < (f.page q).seq) ∧
         (∀ p, p ∈ f.docPages k ↔ kept p ∧ (f.page p).owner = k) ∧ (f.docPages k).length = (f.doc k).pageCount ∧
         ∀ d, restoreDoc (docWords k) = some d →
           ((f.doc k).damaged = true ↔
             d.damaged = true ∨ (f.doc k).pageCount ≠ d.pageCount ∨ ∃ p g, good p g ∧ g.owner = k ∧ ¬ kept p)) ∧
       f.walked ∧
       (∀ n, 128 ≤ n → n < s.filing.blockCount →
         (f.block n).state = (entry n).state ∧ (f.block n).index = (entry n).index) ∧
       (∀ p g, good p g → kept p → g.state = .landing → (f.page p).holes = g.holes) ∧
       (s.filing.boot.skipsWalk = true → ∀ p g, good p g → kept p →
         (g.state = .closed →
           let keep := (g.length + 8191) / 8192
           (f.page p).holes = if (f.page p).count = g.count then g.holes else
             ((List.range keep).filter (fun j => !(f.pageChain p).any (fun n => (entry n).index == j))).length) ∧
         (∀ ns, ns.length = g.count → ns.head? = g.first → links (fun n => (entry n).next) ns →
           (∀ n ∈ ns, 128 ≤ n ∧ n < s.filing.blockCount ∧ ((entry n).state = .filed ∨ (entry n).state = .landing)) →
           ns.Nodup → (∀ q, kept q → q ≠ p → ∀ n ∈ ns, n ∉ f.pageChain q) →
           f.pageChain p = ns ∧ (f.page p).first = g.first ∧ (f.page p).count = g.count)) ∧
       (s.filing.boot.skipsWalk = false →
         (∀ p, kept p → (f.page p).state = .closed →
           let ns := f.pageChain p
           let keep := ((f.page p).length + 8191) / 8192
           ns.Pairwise (fun a b => (entry a).index < (entry b).index) ∧
           (∀ n ∈ ns, (entry n).state = .filed ∧ (entry n).index < keep) ∧
           (f.page p).holes =
             ((List.range keep).filter (fun j => !ns.any (fun n => (entry n).index == j))).length) ∧
         (∀ p g (ns : List Nat), good p g → kept p → ns.length ≤ 65536 → ns.head? = g.first →
           links (fun n => (entry n).next) ns → (g.state = .closed → ns.length ≤ g.count) →
           let stored (l : List Nat) : List Nat := l.filter (fun n => decide (n < s.filing.blockCount))
           let takes (before : List Nat) (n : Nat) : Prop := n ∉ before ∧ (∀ q, kept q → q ≠ p → n ∉ f.pageChain q) ∧
             (if g.state = .closed then (entry n).state = .filed ∧ (entry n).index < (g.length + 8191) / 8192 ∧
                ∀ m, before.getLast? = some m → (entry m).index < (entry n).index
              else (entry n).state = .filed ∨ (entry n).state = .landing)
           let onward : Option Nat := match ns.getLast? with
             | some n => (entry n).next
             | none => g.first
           (∀ l n r, ns = l ++ n :: r → n < s.filing.blockCount → takes (stored l) n) →
           (∀ m, onward = some m → (g.state = .closed ∧ ns.length = g.count) ∨
             (m < s.filing.blockCount ∧ ¬ takes (stored ns) m)) →
           f.pageChain p = stored ns)))

/-- The rebuild settles blocks and pages, from tables as the walk leaves them. The free chain is every FREE block,
ascending; the scrub chain is every other block that no page's chain holds, ascending, and behind it what the closes and
releases of the rebuild scrub. A LANDING page of a document that stays is closed: its length is its block count × 8,192,
1,048,448 at most, with TRUNCATED and LENGTH_ESTIMATED, its blocks below the keep count FILED in rising index, the
others scrubbed, its holes counted. A CLOSED page of such a document is kept as it is. A document that does not stay
loses its page records and all its blocks (R21, R25, R26, R48, R99, R185). The model's choices: a
LANDING page with no block takes length 1 (log entry 23); two blocks of one index in a LANDING chain are both kept or
both scrubbed (log entry 77). -/
def Obligations.RebuildSettlesBlocksAndPages : Prop :=
  ∀ s : State, s.startsAt .rebuilding = true → s.filing.walked →
    let f := s.filing
    let kept (p : Nat) : Prop := (f.page p).state ≠ .free
    let chained := (List.range 1024).flatMap (fun k => (f.docPages k).flatMap (fun p => f.pageChain p))
    let keep (p : Nat) : Nat := (max 1 (min ((f.page p).count * 8192) 1048448) + 8191) / 8192
    let usable := (List.range (f.blockCount - 128)).map (128 + ·)
    ∃ t rest, exec .rebuild s = .next t ∧
      t.filing.blocks.free = usable.filter (fun n => decide ((f.block n).state = .free)) ∧
      t.filing.blocks.scrub =
        usable.filter (fun n => decide ((f.block n).state ≠ .free ∧ n ∉ chained)) ++ rest ∧ rest.Nodup ∧
      (∀ n, 128 ≤ n → n < f.blockCount → n ∉ chained → t.filing.block n =
        { state := if (f.block n).state = .free then .free else .scrub, index := 0, next := none }) ∧
      (∀ n ∈ rest, n ∈ chained ∧ t.filing.block n = { state := .scrub, index := 0, next := none }) ∧
      (∀ p, ¬ kept p → t.filing.page p = f.page p) ∧
      ∀ p, kept p →
        let g := f.page p
        let left := (f.pageChain p).filter (fun n => decide ((f.block n).index < keep p))
        (∀ n ∈ f.pageChain p, n ∈ rest ↔
          f.goesAtRebuild g.owner ∨ (g.state = .landing ∧ keep p ≤ (f.block n).index)) ∧
        (f.goesAtRebuild g.owner → t.filing.page p = Page.freed) ∧
        (¬ f.goesAtRebuild g.owner → g.state = .closed →
          t.filing.page p = g ∧ t.filing.pageChain p = f.pageChain p ∧
          ∀ n ∈ f.pageChain p, t.filing.block n = f.block n) ∧
        (¬ f.goesAtRebuild g.owner → g.state = .landing →
          t.filing.page p = { g with
            state := .closed, length := max 1 (min (g.count * 8192) 1048448), first := (t.filing.page p).first
            count := left.length, truncated := true, estimated := true, closed := some f.now
            holes := ((List.range (keep p)).filter (fun j =>
              !(f.pageChain p).any (fun n => (f.block n).index == j))).length } ∧
          (t.filing.pageChain p).Perm left ∧
          (t.filing.pageChain p).Pairwise (fun a b => (f.block a).index ≤ (f.block b).index) ∧
          ∀ n ∈ left, (t.filing.block n).state = .filed ∧ (t.filing.block n).index = (f.block n).index)

/-- The rebuild settles documents, recipients, queue and deadlines, from tables as the walk leaves them. A RECEIVING
document with pages closes RECOVERED at the restored clock; one with no page, and one that nothing holds once EXPIRED is
set, is released; every other document stays. ACTIVE recipients are READY, unbound, with their counts kept; PENDING ones
of a document closed FILED are READY; one in RETRY_WAIT with no due time takes the restored clock. The forward queue
lists the READY recipients by class, slot and index; the deadline list holds the entries of each document in ascending
slot, RETAIN first, as R143 places them. The channels stay (R91 to R93, R98, R143, R182, R185). That a torn header's due
times are put in place before the closes is the model's choice (log entry 27). -/
def Obligations.RebuildSettlesDocuments : Prop :=
  ∀ s : State, s.startsAt .rebuilding = true → s.filing.walked →
    let f := s.filing
    let torn := f.boot.tornHeader
    ∃ t, exec .rebuild s = .next t ∧ t.filing.channels = f.channels ∧ t.filing.bindings = f.bindings ∧
      t.filing.now = f.now ∧
      (∀ k, (f.doc k).state = .free → t.filing.doc k = f.doc k) ∧
      (∀ k, (f.doc k).state ≠ .free → f.goesAtRebuild k → t.filing.doc k = Doc.freed (((f.doc k).gen + 1) % 64)) ∧
      (∀ k, (f.doc k).state ≠ .free → ¬ f.goesAtRebuild k →
        let d := f.doc k
        let b := f.mailbox d.mailbox
        let called := d.state == .receiving
        let hurt := (f.docPages k).any (fun p => (t.filing.page p).damaged)
        t.filing.doc k = { d with
          state := if called then (if b.strict then .review else .filed) else d.state
          closure := if called then .recovered else d.closure
          closed := if called then some f.now else d.closed
          damaged := d.damaged || (called && hurt)
          retention :=
            if called then (if b.hours = 0 then none else some (f.now + BitVec.ofNat 32 (b.hours * 360000)))
            else if torn && !d.expired then d.retention.map (fun _ => 1555200000#32)
            else d.retention
          blockTotal := (t.filing.doc k).blockTotal, recipients := (t.filing.doc k).recipients } ∧
        ∀ i, i < 4 →
          let r := d.recipient i
          let dueAt := if torn then r.retryDue.map (fun _ => 0#32) else r.retryDue
          (t.filing.doc k).recipient i =
            (match r.state with
             | .active => { r with state := .ready, channel := none, retryDue := dueAt }
             | .retryWait => { r with retryDue := dueAt.or (some f.now) }
             | .pending => { r with state := if called && !b.strict then .ready else .pending, retryDue := dueAt }
             | _ => { r with retryDue := dueAt })) ∧
      (let ready (cls : MailClass) : List (Nat × Nat) := (List.range 1024).flatMap (fun k =>
         ([0, 1, 2, 3].filter (fun i => ((t.filing.doc k).recipient i).state == .ready &&
           ((t.filing.doc k).recipient i).cls == cls)).map (fun i => (k, i)))
       t.filing.queue = { urgent := ready .urgent, normal := ready .normal, bulk := ready .bulk }) ∧
      (let retain (k : Nat) : List Deadline := match (t.filing.doc k).retention with
         | some d => if (t.filing.doc k).expired then []
           else [{ kind := .retain, slot := k, gen := (t.filing.doc k).gen, due := d }]
         | none => []
       let retries (k : Nat) : List Deadline := [0, 1, 2, 3].filterMap (fun i =>
         if ((t.filing.doc k).recipient i).state = .retryWait then
           ((t.filing.doc k).recipient i).retryDue.map (fun d =>
             { kind := .retry i, slot := k, gen := (t.filing.doc k).gen, due := d })
         else none)
       t.filing.clock.deadlines = ((List.range 1024).flatMap (fun k => retain k ++ retries k)).foldl
         (fun es e => placeDeadline f.now e es) [])

/-- The rebuild recounts each document's block total as the sum of its pages' block counts and each mailbox's usage as
the sum of its documents' block totals, sets OVER exactly where the recounted usage exceeds the quota, lists the FREE
page records in ascending order, and writes the layout header with the detected size (R66, R79, R103, R185; the header's
size is the model's choice, log entry 22). -/
def Obligations.RebuildRecounts : Prop :=
  ∀ s : State, s.startsAt .rebuilding = true →
    ∃ t, exec .rebuild s = .next t ∧ t.filing.boot.phase = .rebuilt ∧
      (∀ m, m < 64 → (t.filing.mailbox m).overQuota = decide ((t.filing.mailbox m).quota < (t.filing.mailbox m).usage)) ∧
      (∀ k, k < 1024 → (t.filing.doc k).state ≠ .free →
        (t.filing.doc k).blockTotal = ((t.filing.docPages k).map (fun p => (t.filing.page p).count)).sum) ∧
      (∀ m, m < 64 → (t.filing.mailbox m).usage =
        (((List.range 1024).filter (fun k => (t.filing.doc k).state != .free && (t.filing.doc k).mailbox == m)).map
          (fun k => (t.filing.doc k).blockTotal)).sum) ∧
      t.filing.dir.freePages = (List.range 8192).filter (fun p => decide ((t.filing.page p).state = .free)) ∧
      t.filing.dir.withheld = [] ∧ t.store.page.readWords 0 8 = t.filing.headerWords ∧
      t.filing.mirror.sizeMiB = t.filing.boot.sizeMiB ∧ t.store.general = s.store.general

/-- READY: the clock is stale with its save count at 0, the ring is empty with the consumer word's reset waiting, the
status record shows code 0Fh, and STARTED stands at position 0 with sequence 0, FORMATTED after a format and RECOVERED
after a recovery (R139, R147, R160, R186). The model's choices: T took its value earlier, as the header was classified
or the format written (log entry 43), so that it stays here; no record is dirty, the status record being written with
READY (log entry 17). -/
def Obligations.ReadyStarts : Prop :=
  ∀ s : State, (s.startsAt .formatted = true ∨ s.startsAt .rebuilt = true) → s.filing.posting.deferred = [] →
    ∃ t e, exec .ready s = .next t ∧ t.filing.boot.phase = .running ∧ t.filing.now = s.filing.now ∧
      t.filing.clock.stale = true ∧ t.filing.clock.saveCount = 0 ∧
      t.filing.ring.producer = 0 ∧ t.filing.ring.consumer = 0 ∧ t.filing.ring.resetWaits = true ∧
      t.attn = false ∧ t.filing.mirror.flushList = [] ∧
      t.store.page.readWord 0x60 = 0x0000010F#32 ∧
      t.filing.ring.waiting.head? = some e ∧ e.pos = 0 ∧ e.seq = 0 ∧ e.kind = 13 ∧
      e.code = (if s.filing.boot.phase = .formatted then 1 else 2) ∧ e.time = s.filing.now ∧
      wordAt e.args 1 = argNat s.filing.boot.sizeMiB

/-- Board traffic between step 01h and READY. General memory is read and written as ever. An allowed control window read
waits for writes of its master only and returns the bytes that stand, with no flush, no guard, no set noted and no
clearing; a refused one is all ones and latches PROTECTION. Every aperture read is all ones at once. Zone writes leave
the queue at their drain and reach nothing, a refused control window write latching PROTECTION. A tick does not advance
T. PWARN holds the Start-up Controller's next unit, BRESET empties the board path, and neither reaches the filing
blocks. After a halt every zone read is all ones and every zone write is discarded, with no fault (R7, R12, R13, R14,
R17, R138, R139, R172, R179, R181). That a refused control window write latches is the model's choice (log entry 18);
the FFh in bits 8 to 15 of its detail is the model's inference from R190 (log entry 69). -/
def Obligations.TrafficBeforeReady : Prop :=
  ∀ s : State, s.filing.settled = true →
    let early : Prop := s.filing.boot.phase ∈
      [Phase.sizing, .headerCheck, .formatting, .formatted, .walking, .rebuilding, .rebuilt]
    let halted : Prop := s.filing.boot.phase = .haltShort ∨ s.filing.boot.phase = .haltWrapped
    let protects (t : State) (m : BitVec 5) (cls : AddrClass) : Prop :=
      t.filing.monitors.latches = s.filing.monitors.latches ||| 0x080#10 ∧ t.filing.agrees s.filing ∧
      t.filing.monitors.capture = s.filing.monitors.capture.or
        (some { monitor := .protection, channel := none, master := some m.toNat, doc := none,
                detail := regionDetail cls, time := s.filing.now })
    (early → ∀ (m : BitVec 5) (addr : Word) (w : Width), s.canTake = true → aligned addr w = true →
      let cls := s.classify addr
      let i := readCommand m addr w cls
      let ones := s.board.served m addr w (onesWord w)
      (∀ g, cls.general = some g → ∃ p, exec i s = .next { s with board := s.board.holding m addr w cls p none } ∧
        ((∃ x ∈ s.board.queue, ∃ g', x.cls.general = some g' ∧ g' / 32 = g / 32) → p = .writes) ∧
        ((¬ ∃ x ∈ s.board.queue, ∃ g', x.cls.general = some g' ∧ g' / 32 = g / 32) → p = .store)) ∧
      (cls = .unbacked ∨ cls = .zoneUnbacked → exec i s = .next { s with board := ones }) ∧
      (∀ z, cls = .control z → m.toNat ≤ 24 →
        ((∃ x ∈ s.board.queue, x.write.master = m) →
          exec i s = .next { s with board := s.board.holding m addr w cls .writes none }) ∧
        ((∀ x ∈ s.board.queue, x.write.master ≠ m) →
          exec i s = .next { s with board := s.board.holding m addr w cls .store none })) ∧
      (∀ z, cls = .control z → 24 < m.toNat →
        ∃ t, exec i s = .next t ∧ t.board = ones ∧ t.store = s.store ∧ protects t m cls) ∧
      (cls.isAperture = true → exec i s = .next { s with board := ones })) ∧
    (early → ∀ h : HeldRead, s.nextKind = some .read → s.board.port = .readHeld h → h.noted = none →
      let serving (bs : List Byte) : State :=
        { s with board := { s.board.served h.master h.addr h.width (bytesWord bs) with starve := s.starveAfter .read } }
      (∀ g, h.cls.general = some g →
        exec (.boardReadGrant none) s = .next (serving (s.store.general.readBytes g h.width.bytes))) ∧
      (∀ z, h.cls = .control z → z + h.width.bytes ≤ s.store.bankMiB * 1048576 →
        exec (.boardReadGrant none) s = .next (serving (s.store.page.readBytes z h.width.bytes)))) ∧
    (early ∨ halted → ∀ x : Staged, s.offers x = true → (∀ h, s.board.port = .readHeld h → h.cls.isAperture = false) →
      let gone (t : State) : Prop := t.board.queue = s.board.queue.tail ∧ t.board.head = none ∧ t.store = s.store
      (∀ g, x.cls.general = some g → exec .writeDrain s = .next { s with board := s.board.await (.general g) }) ∧
      (x.cls = .unbacked ∨ x.cls = .zoneUnbacked ∨ x.cls.isAperture = true ∨
          (x.cls.isZone = true ∧ (x.cls.writeAllowed x.write.master.toNat = true ∨ halted)) →
        ∃ t, exec .writeDrain s = .next t ∧ gone t ∧ t.filing = s.filing) ∧
      (∀ z, early → x.cls = .control z → x.cls.writeAllowed x.write.master.toNat = false →
        ∃ t, exec .refusedWrite s = .next t ∧ gone t ∧ protects t x.write.master x.cls)) ∧
    (early ∨ halted → ∃ t, exec .tick s = .next t ∧ t.board = s.board ∧ t.store = s.store ∧
      t.filing.clock = { s.filing.clock with prescaler := 0 } ∧ t.filing.dir = s.filing.dir ∧
      t.filing.mirror.flushList = s.filing.mirror.flushList) ∧
    (early → (s.waits .flush = true ↔ s.board.pwarn = false) ∧
      (s.board.pwarn = false → exec .pwarnAssert s = .next { s with board := { s.board with pwarn := true } }) ∧
      (s.board.pwarn = true → exec .pwarnWithdraw s = .next { s with board := { s.board with pwarn := false } }) ∧
      (s.board.breset = false → s.filing.scrubber = .idle →
        exec .breset s = .next { s with board :=
          { s.board with port := .idle, queue := [], head := none, starve := 0, breset := true } })) ∧
    (halted → ∀ (m : BitVec 5) (addr : Word) (w : Width), s.canTake = true → aligned addr w = true →
      (s.classify addr).isZone = true →
      exec (readCommand m addr w (s.classify addr)) s = .next { s with board := s.board.served m addr w (onesWord w) })

/-- PWARN from READY onwards closes the guard and pauses the Scrub Unit: one that scrubs keeps its block and line, one
that is idle or waits keeps none, one paused stays as it is; its withdrawal clears the clean flag with a header write
waiting ahead of every flush, and the Scrub Unit goes on at the line it kept, or with no block kept takes the chain's
head by R29, or is idle on an empty chain; when the drain is complete the header is written with the clean flag set and
T as the saved clock, and the first record that a timer, a deadline or the clock save then makes dirty clears the flag,
its header write ahead of every flush (R29, R31, R165, R187). That this write is made also where nothing was dirty at
the assertion is the model's choice (log entry 21). -/
def Obligations.PowerWarning : Prop :=
  (∀ s : State, s.calm = true → s.board.pwarn = false →
    let warned (u : ScrubUnit) : State :=
      { s with board := { s.board with pwarn := true }
               filing := { s.filing with mirror := { s.filing.mirror with guarded := none }, scrubber := u } }
    (∀ n l, s.filing.scrubber = .scrubbing n l → exec .pwarnAssert s = .next (warned (.paused (some (n, l))))) ∧
    ((s.filing.scrubber = .idle ∨ ∃ n, s.filing.scrubber = .waiting n) →
      exec .pwarnAssert s = .next (warned (.paused none))) ∧
    (∀ h, s.filing.scrubber = .paused h → exec .pwarnAssert s = .next (warned (.paused h)))) ∧
  (∀ (s : State) (n l : Nat), s.calm = true → s.board.pwarn = true → s.filing.scrubber = .paused (some (n, l)) →
    exec .pwarnWithdraw s =
      .next { s with board := { s.board with pwarn := false }
                     filing := { s.filing with mirror := { s.filing.mirror with clean := false, rewrite := true }
                                               scrubber := .scrubbing n l } }) ∧
  (∀ s : State, s.calm = true → s.board.pwarn = true → s.filing.scrubber = .paused none → s.filing.blocks.scrub = [] →
    exec .pwarnWithdraw s =
      .next { s with board := { s.board with pwarn := false }
                     filing := { s.filing with mirror := { s.filing.mirror with clean := false, rewrite := true }
                                               scrubber := .idle } }) ∧
  (∀ (s : State) (n : Nat) (rest : List Nat), s.calm = true → s.board.pwarn = true →
    s.filing.scrubber = .paused none → s.filing.blocks.scrub = n :: rest →
    let u : ScrubUnit :=
      if s.filing.dirty (.block n) = false ∧ s.board.ahead ≠ some n ∧ s.board.headBlock ≠ some n then .scrubbing n 0
      else .waiting n
    exec .pwarnWithdraw s =
      .next { s with board := { s.board with pwarn := false }
                     filing := { s.filing with mirror := { s.filing.mirror with clean := false, rewrite := true }
                                               scrubber := u } }) ∧
  (∀ (s t : State) (i : Instr), s.board.pwarn = true → s.filing.mirror.clean = true →
    (i = .clockSave ∨ i = .retainDeadline ∨ i = .retryDeadline ∨
      ∃ c, i = .stallExpiry c ∨ i = .gapExpiry c ∨ i = .confirmTimeout c) → exec i s = .next t →
    (∃ r, t.filing.dirty r = true ∧ s.filing.dirty r = false) →
    t.filing.mirror.clean = false ∧ t.filing.mirror.rewrite = true ∧ t.flushUnit = some .rewrite) ∧
  (∀ s : State, s.grants .flush = true → s.board.pwarn = true → s.board.queue = [] →
    s.filing.mirror.flushList = [] → s.filing.mirror.clean = false → s.filing.mirror.rewrite = false →
    ∃ t, exec .cleanHeaderWrite s = .next t ∧
      t.store.page.readWords 0 8 = sealed 8 [0x24160001#32, argNat s.filing.mirror.sizeMiB, 1, s.filing.now] ∧
      (∀ a, 32 ≤ a → t.store.page.read a = s.store.page.read a) ∧
      t.filing.mirror.clean = true ∧ t.filing.mirror.saved = s.filing.now)

/-- BRESET from READY onwards: the board path holds nothing and keeps its straps, every slot is IDLE, the indices are 0
with the consumer word's reset waiting, the guard is closed, every channel is IDLE with no fault, and every review
aperture is unbound; clock and banks are kept. A call's open page is closed forced and its document closes CALL_ENDED,
as DOC_CLOSED tells; a channel in SEND returns its recipient to READY at its class with its counts kept; a document that
an aperture showed, a call's own among them, is released where nothing else holds it; every other document is kept. A
call's document, and one that is kept or released, lies in a slot below 1,024 at a generation below 64, as every document
does (R80). BRESET_WITHDRAW completes in every state and changes the pin alone (R17, R50, R58, R91 to R93, R128, R136,
R160, R165, R188). -/
def Obligations.BresetClearsTheBoardSide : Prop :=
  (∀ s : State, s.calm = true → s.board.breset = false →
    ∃ t, exec .breset s = .next t ∧ t.store = s.store ∧ t.pending = s.pending ∧
      t.board = { s.board with port := .idle, queue := [], head := none, starve := 0, breset := true } ∧
      (∀ x, (t.filing.slot x).state = .idle ∧ (t.filing.slot x).words = [] ∧ (t.filing.slot x).written = 0) ∧
      t.filing.posting.deferred = [] ∧ t.filing.ring.producer = 0 ∧ t.filing.ring.consumer = 0 ∧
      t.filing.ring.resetWaits = true ∧ t.attn = false ∧ t.filing.mirror.guarded = none ∧
      (∀ c, 1 ≤ c → c ≤ 24 → (t.filing.chan c).state = .idle ∧ (t.filing.chan c).timer = none ∧
        (t.filing.chan c).lockPending = false ∧ (t.filing.chan c).lastFault = none ∧ (t.filing.chan c).doc = none ∧
        (t.filing.chan c).openPage = none ∧ (t.filing.chan c).bound = none) ∧
      (∀ r, t.filing.binding r = none) ∧ t.filing.now = s.filing.now ∧
      (let f := s.filing
       let g := t.filing
       let onCall (e k : Nat) : Prop := ∃ d, (f.chan e).doc = some d ∧ slotOf d = k
       let onSend (e k : Nat) : Prop := ∃ i, (f.chan e).bound = some (k, i)
       let shown (k : Nat) : Prop := ∃ r b, r < 8 ∧ f.binding r = some b ∧ b.doc = f.docId k
       let free (k : Nat) : Prop := ((f.doc k).state = .filed ∨ (f.doc k).state = .review) ∧ (f.doc k).hold = false ∧
         (f.doc k).expired = true ∧ (f.doc k).anyLive = false
       let fresh : Filing := { f with ring := { f.ring with waiting := [] } }
       (∀ c d, 1 ≤ c → c ≤ 24 → ((f.chan c).state = .gap ∨ (f.chan c).state = .page) → (f.chan c).doc = some d →
         let k := slotOf d
         let dd := f.doc k
         let b := f.mailbox dd.mailbox
         let damaged := (f.docPages k).any (fun p => (g.page p).damaged)
         let st : DocState := if b.strict then .review else .filed
         let dueAt : Time := f.now + BitVec.ofNat 32 (b.hours * 360000)
         (∀ e, e ≠ c → ¬ onCall e k ∧ ¬ onSend e k ∧ ∀ p, (f.chan e).openPage = some p → p ∉ f.docPages k) →
         k < 1024 → dd.gen < 64 →
         (∀ j, j ≠ k → ∀ p ∈ f.docPages j, p ∉ f.docPages k) →
         (∀ p, (f.chan c).openPage = some p → p ∈ f.docPages k) →
         let goes : Prop := shown k ∧ dd.hold = false ∧ dd.expired = true ∧ dd.anyLive = false
         (∀ p, ¬ goes → (f.chan c).state = .page → (f.chan c).openPage = some p →
           g.page p = { f.page p with
             state := .closed, length := match (f.chan c).mark with
               | some m => m + 1
               | none => 1
             first := (g.page p).first, count := (g.page p).count, holes := (g.page p).holes, truncated := true,
             estimated := true, closed := some f.now }) ∧
         (dd.pageCount = 0 → g.doc k = Doc.freed ((dd.gen + 1) % 64)) ∧
         (dd.pageCount ≠ 0 → goes → g.doc k = Doc.freed ((dd.gen + 1) % 64)) ∧
         (dd.pageCount ≠ 0 → ¬ goes →
           fresh.tells g .docClosed (some (f.docId k)) (.channel c) (if st = .filed then 1 else 2)
             [argNat (f.docId k), packWord [(0, 8, c), (8, 8, dd.mailbox), (16, 8, 2), (31, 1, flag (g.doc k).damaged)],
              argNat dd.pageCount, argNat (g.doc k).blockTotal] ∧
           g.doc k = { dd with
             state := st, closure := .callEnded, closed := some f.now, damaged := dd.damaged || damaged
             retention := if b.hours = 0 then none else some dueAt
             blockTotal := (g.doc k).blockTotal, recipients := (g.doc k).recipients } ∧
           (∀ i, i < 4 → (g.doc k).recipient i =
             if st = .filed ∧ (dd.recipient i).state = .pending then { dd.recipient i with state := .ready }
             else dd.recipient i) ∧
           (∀ i, i < 4 → st = .filed → (dd.recipient i).state = .pending → (k, i) ∈ g.queue.all) ∧
           (b.hours ≠ 0 → { kind := .retain, slot := k, gen := dd.gen, due := dueAt } ∈ g.clock.deadlines))) ∧
       (∀ c k i, 1 ≤ c → c ≤ 24 → i < 4 → (f.chan c).state = .send → (f.chan c).bound = some (k, i) →
         (∀ e, e ≠ c → (f.chan e).bound ≠ some (k, i)) → (∀ e, ¬ onCall e k) →
         let r := (f.doc k).recipient i
         (g.doc k).recipient i = { r with state := .ready, channel := none } ∧
         (r.cls = .urgent → (k, i) ∈ g.queue.urgent) ∧ (r.cls = .normal → (k, i) ∈ g.queue.normal) ∧
         (r.cls = .bulk → (k, i) ∈ g.queue.bulk)) ∧
       (∀ k, k < 1024 → (f.doc k).gen < 64 → (∀ e, ¬ onCall e k ∧ ¬ onSend e k) →
         (shown k → free k → g.doc k = Doc.freed (((f.doc k).gen + 1) % 64) ∧
           fresh.releaseTold g k (f.doc k).mailbox) ∧
         (¬ (shown k ∧ free k) → g.doc k = f.doc k)))) ∧
  (∀ s : State, exec .bresetWithdraw s = .next { s with board := { s.board with breset := false } })

/-! ## Time -/

/-- A tick from READY onwards advances T by one, lowers every loaded channel timer that no mask holds and the guard's
count, and begins the examination of the deadline list, which it leaves as it is (R36, R138, R139, R145, R164). With no
command waiting a step is one bus clock cycle, the model's choice (log entry 10): the prescaler, 0 at power-on, rises by
one below P − 1, and at P − 1 the tick is delivered as TICK delivers it and the prescaler is 0 again, P being 250,000,
400,000 or 500,000 for CLKSEL 0, 1 or 2; without power and after a halt at the straps it does not count, and a tick
delivers nothing (R138, R179). -/
def Obligations.TickCounts : Prop :=
  (∀ s : State, s.calm = true →
    ∃ t, exec .tick s = .next t ∧ t.store = s.store ∧ t.board = s.board ∧ t.filing.now = s.filing.now + 1 ∧
      t.filing.clock.prescaler = 0 ∧ t.filing.clock.examining = true ∧
      t.filing.clock.deadlines = s.filing.clock.deadlines ∧
      (s.filing.clock.saveCount < 5999 → t.filing.clock.saveCount = s.filing.clock.saveCount + 1 ∧
        t.filing.clock.saveOwed = false) ∧
      (s.filing.clock.saveCount = 5999 → t.filing.clock.saveCount = 0 ∧ t.filing.clock.saveOwed = true) ∧
      (∀ c, 1 ≤ c → c ≤ 24 → t.filing.chan c =
        if s.filing.timerHeld (s.filing.chan c) then s.filing.chan c
        else { s.filing.chan c with timer := (s.filing.chan c).timer.map (fun v => v - 1) }) ∧
      t.filing.mirror.guarded = s.filing.mirror.guarded.map (fun g => (g.1, g.2 - 1)) ∧
      t.filing.mirror.flushList = s.filing.mirror.flushList ∧ t.filing.dir = s.filing.dir) ∧
  State.reset.filing.clock.prescaler = 0 ∧
  (∀ s : State, (s.filing.boot.phase = .off ∨ s.filing.boot.phase = .haltStraps) →
    (s.pending = [] → step s = .next s) ∧ (s.filing.settled = true → exec .tick s = .next s)) ∧
  ∀ (s : State) (divisor : Nat), s.pending = [] → s.filing.boot.phase ≠ .off → s.filing.boot.phase ≠ .haltStraps →
    ((s.board.straps.clksel = 0 ∧ divisor = 250000) ∨ (s.board.straps.clksel = 1 ∧ divisor = 400000) ∨
      (s.board.straps.clksel = 2 ∧ divisor = 500000)) →
    (s.filing.clock.prescaler + 1 < divisor →
      step s = .next { s with filing := { s.filing with clock := { s.filing.clock with
        prescaler := s.filing.clock.prescaler + 1 } } }) ∧
    (s.filing.clock.prescaler + 1 = divisor →
      step s = exec .tick s ∧ ∃ t, step s = .next t ∧ t.filing.clock.prescaler = 0)

/-- An expired channel timer ends the call or the attempt: the channel is left IDLE, or LOCKED where lock pending was
set or the fault locks; the fault is its last fault unless masked. A stall closes the page forced and the document
STALLED, a gap expiry the document GAP_EXPIRED, as PAGE_CLOSED and DOC_CLOSED tell; a confirm timeout below the fifth
attempt leaves the recipient in RETRY_WAIT until T plus the backoff, with its RETRY entry placed, as RECIPIENT_RETRY
tells, and at the fifth FAILED, as RECIPIENT_FAILED tells, its document released where nothing else holds it (R25, R26,
R48, R50, R53, R56, R91 to R93, R98, R121, R122, R124). -/
def Obligations.ChannelExpiriesEndCalls : Prop :=
  ∀ (s : State) (c : Nat), 1 ≤ c → c ≤ 24 → (s.filing.chan c).timer = some 0 →
    let ch := s.filing.chan c
    let pol := s.filing.monitors.policy
    let ended (t : State) (code : Nat) (m : Monitor) : Prop :=
      t.store = s.store ∧ t.board = s.board ∧ (∀ e, e ≠ c → t.filing.chan e = s.filing.chan e) ∧
      (t.filing.chan c).timer = none ∧ (t.filing.chan c).lockPending = false ∧
      (t.filing.chan c).state =
        (if ch.lockPending ∨ (pol.lockout = true ∧ pol.masks.getLsbD code = false) then .locked else .idle) ∧
      (t.filing.chan c).lastFault = (if pol.masks.getLsbD code then ch.lastFault else some m)
    (∀ p d, ch.state = .page → ch.openPage = some p → ch.doc = some d →
      ∃ t, exec (.stallExpiry c) s = .next t ∧ ended t 0 .stall ∧
        s.filing.pageClosed t.filing c p (slotOf d) (match ch.mark with
          | some m => m + 1
          | none => 1) true true ∧
        s.filing.docClosed t.filing c (slotOf d) .stalled ∧ (t.filing.chan c).doc = none ∧
        (t.filing.chan c).openPage = none) ∧
    (∀ d, ch.state = .gap → ch.doc = some d →
      ∃ t, exec (.gapExpiry c) s = .next t ∧ ended t 1 .gap ∧
        s.filing.docClosed t.filing c (slotOf d) .gapExpired ∧ (t.filing.chan c).doc = none) ∧
    (∀ k i, ch.state = .send → ch.bound = some (k, i) → ((s.filing.doc k).recipient i).attempts < 4 →
      ∃ t, exec (.confirmTimeout c) s = .next t ∧ ended t 2 .confirm ∧ (t.filing.chan c).bound = none ∧
        (let r := (s.filing.doc k).recipient i
         let dueAt : Time := s.filing.now + BitVec.ofNat 32 (min (pol.retryBase * 2 ^ r.attempts) 14400 * 100)
         (t.filing.doc k).recipient i =
           { r with attempts := r.attempts + 1, state := .retryWait, retryDue := some dueAt, channel := none } ∧
         (∀ j, j ≠ k → t.filing.doc j = s.filing.doc j) ∧
         t.filing.clock.deadlines = placeDeadline s.filing.now
           { kind := .retry i, slot := k, gen := (s.filing.doc k).gen, due := dueAt } s.filing.clock.deadlines ∧
         s.filing.tells t.filing .recipientRetry (some (s.filing.docId k)) (.channel c) 0
           [argNat (s.filing.docId k), packWord [(0, 8, i), (8, 8, r.attempts + 1)], dueAt, argNat r.nextPage])) ∧
    (∀ k i, ch.state = .send → ch.bound = some (k, i) → 4 ≤ ((s.filing.doc k).recipient i).attempts →
      let r := (s.filing.doc k).recipient i
      let d := (s.filing.doc k).setRecipient i { r with attempts := r.attempts + 1, state := .failed, channel := none }
      let goes : Prop := (d.state = .filed ∨ d.state = .review) ∧ d.hold = false ∧ d.expired = true ∧
        d.anyLive = false ∧ s.filing.bound (s.filing.docId k) = false
      ∃ t, exec (.confirmTimeout c) s = .next t ∧ ended t 2 .confirm ∧ (t.filing.chan c).bound = none ∧
        (∀ j, j ≠ k → t.filing.doc j = s.filing.doc j) ∧
        (goes → s.filing.docReleased t.filing k) ∧ (¬ goes → t.filing.doc k = d) ∧
        s.filing.tells t.filing .recipientFailed (some (s.filing.docId k)) (.channel c) 0
          [argNat (s.filing.docId k), packWord [(0, 8, i), (8, 8, r.attempts + 1)], 0, argNat r.nextPage])

/-- The events a tick leaves: a due RETAIN entry leaves the list and sets EXPIRED; the document is released, its blocks,
page records, usage and deadlines with its slot, exactly where it is FILED or REVIEW, not held, with no live recipient
and no binding, and else nothing else of it changes; a due RETRY entry leaves the list and its recipient joins the tail
of its class as READY; an owed save copies T; a guard at count 0 closes (R83, R98, R99, R123, R145, R147, R165). -/
def Obligations.TickEventsAct : Prop :=
  (∀ (s : State) (e : Deadline) (es : List Deadline), s.filing.clock.examining = true →
    s.filing.clock.deadlines = e :: es → due s.filing.now e.due = true → e.kind = .retain →
    let d := s.filing.doc e.slot
    let goes : Prop := (d.state = .filed ∨ d.state = .review) ∧ d.hold = false ∧ d.anyLive = false ∧
      s.filing.bound (s.filing.docId e.slot) = false
    ∃ t, exec .retainDeadline s = .next t ∧ t.store = s.store ∧ t.board = s.board ∧
      (∀ j, j ≠ e.slot → t.filing.doc j = s.filing.doc j) ∧ t.filing.dirty (.document e.slot) = true ∧
      t.filing.channels = s.filing.channels ∧ t.filing.bindings = s.filing.bindings ∧
      (¬ goes → t.filing.doc e.slot = { d with expired := true } ∧ t.filing.clock.deadlines = es ∧
        t.filing.dir.pages = s.filing.dir.pages ∧ t.filing.blocks = s.filing.blocks ∧ t.filing.boxes = s.filing.boxes ∧
        t.filing.ring = s.filing.ring) ∧
      (goes → t.filing.doc e.slot = Doc.freed ((d.gen + 1) % 64) ∧
        (e.gen = d.gen → s.filing.docReleased t.filing e.slot))) ∧
  (∀ (s : State) (e : Deadline) (es : List Deadline) (k : Nat), s.filing.clock.examining = true →
    s.filing.clock.deadlines = e :: es → due s.filing.now e.due = true → e.kind = .retry k →
    ∃ t, exec .retryDeadline s = .next t ∧ t.store = s.store ∧ t.board = s.board ∧ t.filing.clock.deadlines = es ∧
      (t.filing.doc e.slot).recipient k =
        { (s.filing.doc e.slot).recipient k with state := .ready, retryDue := none } ∧
      (((s.filing.doc e.slot).recipient k).cls = .urgent →
        t.filing.queue = { s.filing.queue with urgent := s.filing.queue.urgent ++ [(e.slot, k)] }) ∧
      (((s.filing.doc e.slot).recipient k).cls = .normal →
        t.filing.queue = { s.filing.queue with normal := s.filing.queue.normal ++ [(e.slot, k)] }) ∧
      (((s.filing.doc e.slot).recipient k).cls = .bulk →
        t.filing.queue = { s.filing.queue with bulk := s.filing.queue.bulk ++ [(e.slot, k)] }) ∧
      t.filing.dirty (.document e.slot) = true ∧ t.filing.ring = s.filing.ring) ∧
  (∀ s : State, s.filing.clock.saveOwed = true →
    ∃ t, exec .clockSave s = .next t ∧ t.store = s.store ∧ t.board = s.board ∧
      t.filing.mirror.saved = s.filing.now ∧ t.filing.dirty .layoutHeader = true ∧
      t.filing.clock = { s.filing.clock with saveOwed := false } ∧ t.filing.dir = s.filing.dir) ∧
  (∀ (s : State) (r : RecordId), s.filing.mirror.guarded = some (r, 0) →
    exec .guardExpiry s =
      .next { s with filing := { s.filing with mirror := { s.filing.mirror with guarded := none } } })

/-! ## Records of the page bank -/

/-- Every record that carries a check word is flushed with words that sum to FFFFFFFFh (R166). A record read back from
its flushed words is the record, every field at every value that its words have room for: a document with its
recipients, and a FREE slot of each generation; a page, and a FREE one; a mailbox; a routing entry, and an empty one
(R62, R70, R79, R80, R84, R85, R104, R184, R189, R190, R196). What an EMPTY place and a FREE slot show in fields with no
code for none is the model's choice (log entries 40 and 57); that a retry due word of 0 in RETRY_WAIT is time 0 is log
entry 50. -/
def Obligations.RecordsSumAndReadBack : Prop :=
  (∀ (f : Filing) (r : RecordId),
    (r = .layoutHeader ∨ r = .policy ∨ (∃ m, r = .mailbox m) ∨ (∃ e, r = .route e) ∨ (∃ k, r = .document k) ∨
      (∃ p, r = .page p)) →
    wordSum ((f.segments r).flatMap (fun g => g.2)) = 0xFFFFFFFF#32) ∧
  (∀ d : Doc, d.state ≠ .free → d.gen < 64 → d.mailbox < 64 → (∃ c, d.channel = some c ∧ 1 ≤ c ∧ c ≤ 24) →
    d.arrival.isSome = true → (d.closed.isSome = true ↔ d.state ≠ .receiving) → d.pageCount < 2 ^ 32 →
    (∀ p, d.firstPage = some p → p < 8192) → d.blockTotal < 2 ^ 32 → d.digits.length ≤ 16 → d.caller.length ≤ 20 →
    (d.recipients.map (fun x => x.1)).Pairwise (fun i j => i < j) →
    (∀ x ∈ d.recipients, x.1 < 4 ∧ x.2.state ≠ .empty ∧ 1 ≤ x.2.target.length ∧ x.2.target.length ≤ 20 ∧
      x.2.attempts ≤ 5 ∧ 1 ≤ x.2.nextPage ∧ x.2.nextPage ≤ 999 ∧ x.2.resend ≤ 3 ∧
      (x.2.retryDue.isSome = true ↔ x.2.state = .retryWait) ∧ ∀ c, x.2.channel = some c → 1 ≤ c ∧ c ≤ 24) →
    restoreDoc d.words = some d) ∧
  (∀ n, n < 64 → restoreDoc (Doc.freed n).words = some (Doc.freed n)) ∧
  (∀ g : Page, g.state ≠ .free → g.owner < 1024 → 1 ≤ g.seq → g.seq ≤ 999 → g.count ≤ 128 → g.holes ≤ 128 →
    (g.state = .landing → g.length = 0 ∧ g.closed = none) →
    (g.state = .closed → 1 ≤ g.length ∧ g.length ≤ 1048448 ∧ g.closed.isSome = true) →
    (g.count = 0 → g.first = none) → (0 < g.count → ∃ n, g.first = some n ∧ n < 65536) →
    (∀ q, g.next = some q → q < 8192) →
    restorePage g.words = some g) ∧
  restorePage Page.freed.words = some Page.freed ∧
  (∀ b : Mailbox, b.quota ≤ 65535 → b.usage < 2 ^ 32 → b.group < 16 → b.hours ≤ 4320 → b.defaults.length ≤ 2 →
    (∀ t ∈ b.defaults, 1 ≤ t.length ∧ t.length ≤ 20) →
    restoreMailbox b.words = some b) ∧
  (∀ r : Route, 1 ≤ r.pattern.length → r.pattern.length ≤ 16 → r.mailbox < 64 →
    restoreRoute (routeWords (some r)) = some (some r)) ∧
  restoreRoute (routeWords none) = some none
end

