-- ==== Sys2Proof/Laws/State.lean ====
section
/-! SUPPORT. One lemma per field per update: what an update of the filing blocks, of the board path or of the whole state
leaves alone. All hold by definition. -/

namespace Sys2Proof.Machine

variable (f : Filing)

/-! ### setDoc -/

@[simp] theorem Filing.setDoc_boot (s : Nat) (d : Doc) : (f.setDoc s d).boot = f.boot := rfl
@[simp] theorem Filing.setDoc_clock (s : Nat) (d : Doc) : (f.setDoc s d).clock = f.clock := rfl
@[simp] theorem Filing.setDoc_blocks (s : Nat) (d : Doc) : (f.setDoc s d).blocks = f.blocks := rfl
@[simp] theorem Filing.setDoc_scrubber (s : Nat) (d : Doc) : (f.setDoc s d).scrubber = f.scrubber := rfl
@[simp] theorem Filing.setDoc_channels (s : Nat) (d : Doc) : (f.setDoc s d).channels = f.channels := rfl
@[simp] theorem Filing.setDoc_boxes (s : Nat) (d : Doc) : (f.setDoc s d).boxes = f.boxes := rfl
@[simp] theorem Filing.setDoc_queue (s : Nat) (d : Doc) : (f.setDoc s d).queue = f.queue := rfl
@[simp] theorem Filing.setDoc_bindings (s : Nat) (d : Doc) : (f.setDoc s d).bindings = f.bindings := rfl
@[simp] theorem Filing.setDoc_posting (s : Nat) (d : Doc) : (f.setDoc s d).posting = f.posting := rfl
@[simp] theorem Filing.setDoc_ring (s : Nat) (d : Doc) : (f.setDoc s d).ring = f.ring := rfl
@[simp] theorem Filing.setDoc_mirror (s : Nat) (d : Doc) : (f.setDoc s d).mirror = f.mirror := rfl
@[simp] theorem Filing.setDoc_monitors (s : Nat) (d : Doc) : (f.setDoc s d).monitors = f.monitors := rfl

/-! ### setPage -/

@[simp] theorem Filing.setPage_boot (p : Nat) (g : Page) : (f.setPage p g).boot = f.boot := rfl
@[simp] theorem Filing.setPage_clock (p : Nat) (g : Page) : (f.setPage p g).clock = f.clock := rfl
@[simp] theorem Filing.setPage_blocks (p : Nat) (g : Page) : (f.setPage p g).blocks = f.blocks := rfl
@[simp] theorem Filing.setPage_scrubber (p : Nat) (g : Page) : (f.setPage p g).scrubber = f.scrubber := rfl
@[simp] theorem Filing.setPage_channels (p : Nat) (g : Page) : (f.setPage p g).channels = f.channels := rfl
@[simp] theorem Filing.setPage_boxes (p : Nat) (g : Page) : (f.setPage p g).boxes = f.boxes := rfl
@[simp] theorem Filing.setPage_queue (p : Nat) (g : Page) : (f.setPage p g).queue = f.queue := rfl
@[simp] theorem Filing.setPage_bindings (p : Nat) (g : Page) : (f.setPage p g).bindings = f.bindings := rfl
@[simp] theorem Filing.setPage_posting (p : Nat) (g : Page) : (f.setPage p g).posting = f.posting := rfl
@[simp] theorem Filing.setPage_ring (p : Nat) (g : Page) : (f.setPage p g).ring = f.ring := rfl
@[simp] theorem Filing.setPage_mirror (p : Nat) (g : Page) : (f.setPage p g).mirror = f.mirror := rfl
@[simp] theorem Filing.setPage_monitors (p : Nat) (g : Page) : (f.setPage p g).monitors = f.monitors := rfl

/-! ### setChan -/

@[simp] theorem Filing.setChan_boot (c : Nat) (ch : Channel) : (f.setChan c ch).boot = f.boot := rfl
@[simp] theorem Filing.setChan_clock (c : Nat) (ch : Channel) : (f.setChan c ch).clock = f.clock := rfl
@[simp] theorem Filing.setChan_blocks (c : Nat) (ch : Channel) : (f.setChan c ch).blocks = f.blocks := rfl
@[simp] theorem Filing.setChan_scrubber (c : Nat) (ch : Channel) : (f.setChan c ch).scrubber = f.scrubber := rfl
@[simp] theorem Filing.setChan_dir (c : Nat) (ch : Channel) : (f.setChan c ch).dir = f.dir := rfl
@[simp] theorem Filing.setChan_boxes (c : Nat) (ch : Channel) : (f.setChan c ch).boxes = f.boxes := rfl
@[simp] theorem Filing.setChan_queue (c : Nat) (ch : Channel) : (f.setChan c ch).queue = f.queue := rfl
@[simp] theorem Filing.setChan_bindings (c : Nat) (ch : Channel) : (f.setChan c ch).bindings = f.bindings := rfl
@[simp] theorem Filing.setChan_posting (c : Nat) (ch : Channel) : (f.setChan c ch).posting = f.posting := rfl
@[simp] theorem Filing.setChan_ring (c : Nat) (ch : Channel) : (f.setChan c ch).ring = f.ring := rfl
@[simp] theorem Filing.setChan_mirror (c : Nat) (ch : Channel) : (f.setChan c ch).mirror = f.mirror := rfl
@[simp] theorem Filing.setChan_monitors (c : Nat) (ch : Channel) : (f.setChan c ch).monitors = f.monitors := rfl

/-! ### setBox -/

@[simp] theorem Filing.setBox_boot (m : Nat) (b : Mailbox) : (f.setBox m b).boot = f.boot := rfl
@[simp] theorem Filing.setBox_clock (m : Nat) (b : Mailbox) : (f.setBox m b).clock = f.clock := rfl
@[simp] theorem Filing.setBox_blocks (m : Nat) (b : Mailbox) : (f.setBox m b).blocks = f.blocks := rfl
@[simp] theorem Filing.setBox_scrubber (m : Nat) (b : Mailbox) : (f.setBox m b).scrubber = f.scrubber := rfl
@[simp] theorem Filing.setBox_dir (m : Nat) (b : Mailbox) : (f.setBox m b).dir = f.dir := rfl
@[simp] theorem Filing.setBox_channels (m : Nat) (b : Mailbox) : (f.setBox m b).channels = f.channels := rfl
@[simp] theorem Filing.setBox_queue (m : Nat) (b : Mailbox) : (f.setBox m b).queue = f.queue := rfl
@[simp] theorem Filing.setBox_bindings (m : Nat) (b : Mailbox) : (f.setBox m b).bindings = f.bindings := rfl
@[simp] theorem Filing.setBox_posting (m : Nat) (b : Mailbox) : (f.setBox m b).posting = f.posting := rfl
@[simp] theorem Filing.setBox_ring (m : Nat) (b : Mailbox) : (f.setBox m b).ring = f.ring := rfl
@[simp] theorem Filing.setBox_mirror (m : Nat) (b : Mailbox) : (f.setBox m b).mirror = f.mirror := rfl
@[simp] theorem Filing.setBox_monitors (m : Nat) (b : Mailbox) : (f.setBox m b).monitors = f.monitors := rfl

/-! ### setRoute -/

@[simp] theorem Filing.setRoute_boot (e : Nat) (r : Option Route) : (f.setRoute e r).boot = f.boot := rfl
@[simp] theorem Filing.setRoute_clock (e : Nat) (r : Option Route) : (f.setRoute e r).clock = f.clock := rfl
@[simp] theorem Filing.setRoute_blocks (e : Nat) (r : Option Route) : (f.setRoute e r).blocks = f.blocks := rfl
@[simp] theorem Filing.setRoute_scrubber (e : Nat) (r : Option Route) : (f.setRoute e r).scrubber = f.scrubber := rfl
@[simp] theorem Filing.setRoute_dir (e : Nat) (r : Option Route) : (f.setRoute e r).dir = f.dir := rfl
@[simp] theorem Filing.setRoute_channels (e : Nat) (r : Option Route) : (f.setRoute e r).channels = f.channels := rfl
@[simp] theorem Filing.setRoute_queue (e : Nat) (r : Option Route) : (f.setRoute e r).queue = f.queue := rfl
@[simp] theorem Filing.setRoute_bindings (e : Nat) (r : Option Route) : (f.setRoute e r).bindings = f.bindings := rfl
@[simp] theorem Filing.setRoute_posting (e : Nat) (r : Option Route) : (f.setRoute e r).posting = f.posting := rfl
@[simp] theorem Filing.setRoute_ring (e : Nat) (r : Option Route) : (f.setRoute e r).ring = f.ring := rfl
@[simp] theorem Filing.setRoute_mirror (e : Nat) (r : Option Route) : (f.setRoute e r).mirror = f.mirror := rfl
@[simp] theorem Filing.setRoute_monitors (e : Nat) (r : Option Route) : (f.setRoute e r).monitors = f.monitors := rfl

/-! ### setBlock -/

@[simp] theorem Filing.setBlock_boot (n : Nat) (b : BlockEntry) : (f.setBlock n b).boot = f.boot := rfl
@[simp] theorem Filing.setBlock_clock (n : Nat) (b : BlockEntry) : (f.setBlock n b).clock = f.clock := rfl
@[simp] theorem Filing.setBlock_scrubber (n : Nat) (b : BlockEntry) : (f.setBlock n b).scrubber = f.scrubber := rfl
@[simp] theorem Filing.setBlock_dir (n : Nat) (b : BlockEntry) : (f.setBlock n b).dir = f.dir := rfl
@[simp] theorem Filing.setBlock_channels (n : Nat) (b : BlockEntry) : (f.setBlock n b).channels = f.channels := rfl
@[simp] theorem Filing.setBlock_boxes (n : Nat) (b : BlockEntry) : (f.setBlock n b).boxes = f.boxes := rfl
@[simp] theorem Filing.setBlock_queue (n : Nat) (b : BlockEntry) : (f.setBlock n b).queue = f.queue := rfl
@[simp] theorem Filing.setBlock_bindings (n : Nat) (b : BlockEntry) : (f.setBlock n b).bindings = f.bindings := rfl
@[simp] theorem Filing.setBlock_posting (n : Nat) (b : BlockEntry) : (f.setBlock n b).posting = f.posting := rfl
@[simp] theorem Filing.setBlock_ring (n : Nat) (b : BlockEntry) : (f.setBlock n b).ring = f.ring := rfl
@[simp] theorem Filing.setBlock_mirror (n : Nat) (b : BlockEntry) : (f.setBlock n b).mirror = f.mirror := rfl
@[simp] theorem Filing.setBlock_monitors (n : Nat) (b : BlockEntry) : (f.setBlock n b).monitors = f.monitors := rfl

/-! ### setSlot -/

@[simp] theorem Filing.setSlot_boot (s : Nat) (x : Slot) : (f.setSlot s x).boot = f.boot := rfl
@[simp] theorem Filing.setSlot_clock (s : Nat) (x : Slot) : (f.setSlot s x).clock = f.clock := rfl
@[simp] theorem Filing.setSlot_blocks (s : Nat) (x : Slot) : (f.setSlot s x).blocks = f.blocks := rfl
@[simp] theorem Filing.setSlot_scrubber (s : Nat) (x : Slot) : (f.setSlot s x).scrubber = f.scrubber := rfl
@[simp] theorem Filing.setSlot_dir (s : Nat) (x : Slot) : (f.setSlot s x).dir = f.dir := rfl
@[simp] theorem Filing.setSlot_channels (s : Nat) (x : Slot) : (f.setSlot s x).channels = f.channels := rfl
@[simp] theorem Filing.setSlot_boxes (s : Nat) (x : Slot) : (f.setSlot s x).boxes = f.boxes := rfl
@[simp] theorem Filing.setSlot_queue (s : Nat) (x : Slot) : (f.setSlot s x).queue = f.queue := rfl
@[simp] theorem Filing.setSlot_bindings (s : Nat) (x : Slot) : (f.setSlot s x).bindings = f.bindings := rfl
@[simp] theorem Filing.setSlot_ring (s : Nat) (x : Slot) : (f.setSlot s x).ring = f.ring := rfl
@[simp] theorem Filing.setSlot_mirror (s : Nat) (x : Slot) : (f.setSlot s x).mirror = f.mirror := rfl
@[simp] theorem Filing.setSlot_monitors (s : Nat) (x : Slot) : (f.setSlot s x).monitors = f.monitors := rfl

/-! ### setBinding -/

@[simp] theorem Filing.setBinding_boot (r : Nat) (b : Option Binding) : (f.setBinding r b).boot = f.boot := rfl
@[simp] theorem Filing.setBinding_clock (r : Nat) (b : Option Binding) : (f.setBinding r b).clock = f.clock := rfl
@[simp] theorem Filing.setBinding_blocks (r : Nat) (b : Option Binding) : (f.setBinding r b).blocks = f.blocks := rfl
@[simp] theorem Filing.setBinding_scrubber (r : Nat) (b : Option Binding) : (f.setBinding r b).scrubber = f.scrubber := rfl
@[simp] theorem Filing.setBinding_dir (r : Nat) (b : Option Binding) : (f.setBinding r b).dir = f.dir := rfl
@[simp] theorem Filing.setBinding_channels (r : Nat) (b : Option Binding) : (f.setBinding r b).channels = f.channels := rfl
@[simp] theorem Filing.setBinding_boxes (r : Nat) (b : Option Binding) : (f.setBinding r b).boxes = f.boxes := rfl
@[simp] theorem Filing.setBinding_queue (r : Nat) (b : Option Binding) : (f.setBinding r b).queue = f.queue := rfl
@[simp] theorem Filing.setBinding_posting (r : Nat) (b : Option Binding) : (f.setBinding r b).posting = f.posting := rfl
@[simp] theorem Filing.setBinding_ring (r : Nat) (b : Option Binding) : (f.setBinding r b).ring = f.ring := rfl
@[simp] theorem Filing.setBinding_mirror (r : Nat) (b : Option Binding) : (f.setBinding r b).mirror = f.mirror := rfl
@[simp] theorem Filing.setBinding_monitors (r : Nat) (b : Option Binding) : (f.setBinding r b).monitors = f.monitors := rfl

/-! ### mark -/

@[simp] theorem Filing.mark_boot (r : RecordId) : (f.mark r).boot = f.boot := rfl
@[simp] theorem Filing.mark_clock (r : RecordId) : (f.mark r).clock = f.clock := rfl
@[simp] theorem Filing.mark_blocks (r : RecordId) : (f.mark r).blocks = f.blocks := rfl
@[simp] theorem Filing.mark_scrubber (r : RecordId) : (f.mark r).scrubber = f.scrubber := rfl
@[simp] theorem Filing.mark_dir (r : RecordId) : (f.mark r).dir = f.dir := rfl
@[simp] theorem Filing.mark_channels (r : RecordId) : (f.mark r).channels = f.channels := rfl
@[simp] theorem Filing.mark_boxes (r : RecordId) : (f.mark r).boxes = f.boxes := rfl
@[simp] theorem Filing.mark_queue (r : RecordId) : (f.mark r).queue = f.queue := rfl
@[simp] theorem Filing.mark_bindings (r : RecordId) : (f.mark r).bindings = f.bindings := rfl
@[simp] theorem Filing.mark_posting (r : RecordId) : (f.mark r).posting = f.posting := rfl
@[simp] theorem Filing.mark_ring (r : RecordId) : (f.mark r).ring = f.ring := rfl
@[simp] theorem Filing.mark_monitors (r : RecordId) : (f.mark r).monitors = f.monitors := rfl

/-! ### unmark -/

@[simp] theorem Filing.unmark_boot (r : RecordId) : (f.unmark r).boot = f.boot := rfl
@[simp] theorem Filing.unmark_clock (r : RecordId) : (f.unmark r).clock = f.clock := rfl
@[simp] theorem Filing.unmark_blocks (r : RecordId) : (f.unmark r).blocks = f.blocks := rfl
@[simp] theorem Filing.unmark_scrubber (r : RecordId) : (f.unmark r).scrubber = f.scrubber := rfl
@[simp] theorem Filing.unmark_dir (r : RecordId) : (f.unmark r).dir = f.dir := rfl
@[simp] theorem Filing.unmark_channels (r : RecordId) : (f.unmark r).channels = f.channels := rfl
@[simp] theorem Filing.unmark_boxes (r : RecordId) : (f.unmark r).boxes = f.boxes := rfl
@[simp] theorem Filing.unmark_queue (r : RecordId) : (f.unmark r).queue = f.queue := rfl
@[simp] theorem Filing.unmark_bindings (r : RecordId) : (f.unmark r).bindings = f.bindings := rfl
@[simp] theorem Filing.unmark_posting (r : RecordId) : (f.unmark r).posting = f.posting := rfl
@[simp] theorem Filing.unmark_ring (r : RecordId) : (f.unmark r).ring = f.ring := rfl
@[simp] theorem Filing.unmark_monitors (r : RecordId) : (f.unmark r).monitors = f.monitors := rfl

/-! ### place -/

@[simp] theorem Filing.place_boot (e : Deadline) : (f.place e).boot = f.boot := rfl
@[simp] theorem Filing.place_blocks (e : Deadline) : (f.place e).blocks = f.blocks := rfl
@[simp] theorem Filing.place_scrubber (e : Deadline) : (f.place e).scrubber = f.scrubber := rfl
@[simp] theorem Filing.place_dir (e : Deadline) : (f.place e).dir = f.dir := rfl
@[simp] theorem Filing.place_channels (e : Deadline) : (f.place e).channels = f.channels := rfl
@[simp] theorem Filing.place_boxes (e : Deadline) : (f.place e).boxes = f.boxes := rfl
@[simp] theorem Filing.place_queue (e : Deadline) : (f.place e).queue = f.queue := rfl
@[simp] theorem Filing.place_bindings (e : Deadline) : (f.place e).bindings = f.bindings := rfl
@[simp] theorem Filing.place_posting (e : Deadline) : (f.place e).posting = f.posting := rfl
@[simp] theorem Filing.place_ring (e : Deadline) : (f.place e).ring = f.ring := rfl
@[simp] theorem Filing.place_mirror (e : Deadline) : (f.place e).mirror = f.mirror := rfl
@[simp] theorem Filing.place_monitors (e : Deadline) : (f.place e).monitors = f.monitors := rfl

/-! ### keepDeadlines -/

@[simp] theorem Filing.keepDeadlines_boot (k : Deadline → Bool) : (f.keepDeadlines k).boot = f.boot := rfl
@[simp] theorem Filing.keepDeadlines_blocks (k : Deadline → Bool) : (f.keepDeadlines k).blocks = f.blocks := rfl
@[simp] theorem Filing.keepDeadlines_scrubber (k : Deadline → Bool) : (f.keepDeadlines k).scrubber = f.scrubber := rfl
@[simp] theorem Filing.keepDeadlines_dir (k : Deadline → Bool) : (f.keepDeadlines k).dir = f.dir := rfl
@[simp] theorem Filing.keepDeadlines_channels (k : Deadline → Bool) : (f.keepDeadlines k).channels = f.channels := rfl
@[simp] theorem Filing.keepDeadlines_boxes (k : Deadline → Bool) : (f.keepDeadlines k).boxes = f.boxes := rfl
@[simp] theorem Filing.keepDeadlines_queue (k : Deadline → Bool) : (f.keepDeadlines k).queue = f.queue := rfl
@[simp] theorem Filing.keepDeadlines_bindings (k : Deadline → Bool) : (f.keepDeadlines k).bindings = f.bindings := rfl
@[simp] theorem Filing.keepDeadlines_posting (k : Deadline → Bool) : (f.keepDeadlines k).posting = f.posting := rfl
@[simp] theorem Filing.keepDeadlines_ring (k : Deadline → Bool) : (f.keepDeadlines k).ring = f.ring := rfl
@[simp] theorem Filing.keepDeadlines_mirror (k : Deadline → Bool) : (f.keepDeadlines k).mirror = f.mirror := rfl
@[simp] theorem Filing.keepDeadlines_monitors (k : Deadline → Bool) : (f.keepDeadlines k).monitors = f.monitors := rfl

/-! ### removeRetain -/

@[simp] theorem Filing.removeRetain_boot (s g : Nat) : (f.removeRetain s g).boot = f.boot := rfl
@[simp] theorem Filing.removeRetain_blocks (s g : Nat) : (f.removeRetain s g).blocks = f.blocks := rfl
@[simp] theorem Filing.removeRetain_scrubber (s g : Nat) : (f.removeRetain s g).scrubber = f.scrubber := rfl
@[simp] theorem Filing.removeRetain_dir (s g : Nat) : (f.removeRetain s g).dir = f.dir := rfl
@[simp] theorem Filing.removeRetain_channels (s g : Nat) : (f.removeRetain s g).channels = f.channels := rfl
@[simp] theorem Filing.removeRetain_boxes (s g : Nat) : (f.removeRetain s g).boxes = f.boxes := rfl
@[simp] theorem Filing.removeRetain_queue (s g : Nat) : (f.removeRetain s g).queue = f.queue := rfl
@[simp] theorem Filing.removeRetain_bindings (s g : Nat) : (f.removeRetain s g).bindings = f.bindings := rfl
@[simp] theorem Filing.removeRetain_posting (s g : Nat) : (f.removeRetain s g).posting = f.posting := rfl
@[simp] theorem Filing.removeRetain_ring (s g : Nat) : (f.removeRetain s g).ring = f.ring := rfl
@[simp] theorem Filing.removeRetain_mirror (s g : Nat) : (f.removeRetain s g).mirror = f.mirror := rfl
@[simp] theorem Filing.removeRetain_monitors (s g : Nat) : (f.removeRetain s g).monitors = f.monitors := rfl

/-! ### removeRetry -/

@[simp] theorem Filing.removeRetry_boot (s g k : Nat) : (f.removeRetry s g k).boot = f.boot := rfl
@[simp] theorem Filing.removeRetry_blocks (s g k : Nat) : (f.removeRetry s g k).blocks = f.blocks := rfl
@[simp] theorem Filing.removeRetry_scrubber (s g k : Nat) : (f.removeRetry s g k).scrubber = f.scrubber := rfl
@[simp] theorem Filing.removeRetry_dir (s g k : Nat) : (f.removeRetry s g k).dir = f.dir := rfl
@[simp] theorem Filing.removeRetry_channels (s g k : Nat) : (f.removeRetry s g k).channels = f.channels := rfl
@[simp] theorem Filing.removeRetry_boxes (s g k : Nat) : (f.removeRetry s g k).boxes = f.boxes := rfl
@[simp] theorem Filing.removeRetry_queue (s g k : Nat) : (f.removeRetry s g k).queue = f.queue := rfl
@[simp] theorem Filing.removeRetry_bindings (s g k : Nat) : (f.removeRetry s g k).bindings = f.bindings := rfl
@[simp] theorem Filing.removeRetry_posting (s g k : Nat) : (f.removeRetry s g k).posting = f.posting := rfl
@[simp] theorem Filing.removeRetry_ring (s g k : Nat) : (f.removeRetry s g k).ring = f.ring := rfl
@[simp] theorem Filing.removeRetry_mirror (s g k : Nat) : (f.removeRetry s g k).mirror = f.mirror := rfl
@[simp] theorem Filing.removeRetry_monitors (s g k : Nat) : (f.removeRetry s g k).monitors = f.monitors := rfl

/-! ### removeDeadlines -/

@[simp] theorem Filing.removeDeadlines_boot (s g : Nat) : (f.removeDeadlines s g).boot = f.boot := rfl
@[simp] theorem Filing.removeDeadlines_blocks (s g : Nat) : (f.removeDeadlines s g).blocks = f.blocks := rfl
@[simp] theorem Filing.removeDeadlines_scrubber (s g : Nat) : (f.removeDeadlines s g).scrubber = f.scrubber := rfl
@[simp] theorem Filing.removeDeadlines_dir (s g : Nat) : (f.removeDeadlines s g).dir = f.dir := rfl
@[simp] theorem Filing.removeDeadlines_channels (s g : Nat) : (f.removeDeadlines s g).channels = f.channels := rfl
@[simp] theorem Filing.removeDeadlines_boxes (s g : Nat) : (f.removeDeadlines s g).boxes = f.boxes := rfl
@[simp] theorem Filing.removeDeadlines_queue (s g : Nat) : (f.removeDeadlines s g).queue = f.queue := rfl
@[simp] theorem Filing.removeDeadlines_bindings (s g : Nat) : (f.removeDeadlines s g).bindings = f.bindings := rfl
@[simp] theorem Filing.removeDeadlines_posting (s g : Nat) : (f.removeDeadlines s g).posting = f.posting := rfl
@[simp] theorem Filing.removeDeadlines_ring (s g : Nat) : (f.removeDeadlines s g).ring = f.ring := rfl
@[simp] theorem Filing.removeDeadlines_mirror (s g : Nat) : (f.removeDeadlines s g).mirror = f.mirror := rfl
@[simp] theorem Filing.removeDeadlines_monitors (s g : Nat) : (f.removeDeadlines s g).monitors = f.monitors := rfl

/-! ### join -/

@[simp] theorem Filing.join_boot (s k : Nat) (c : MailClass) : (f.join s k c).boot = f.boot := rfl
@[simp] theorem Filing.join_clock (s k : Nat) (c : MailClass) : (f.join s k c).clock = f.clock := rfl
@[simp] theorem Filing.join_blocks (s k : Nat) (c : MailClass) : (f.join s k c).blocks = f.blocks := rfl
@[simp] theorem Filing.join_scrubber (s k : Nat) (c : MailClass) : (f.join s k c).scrubber = f.scrubber := rfl
@[simp] theorem Filing.join_dir (s k : Nat) (c : MailClass) : (f.join s k c).dir = f.dir := rfl
@[simp] theorem Filing.join_channels (s k : Nat) (c : MailClass) : (f.join s k c).channels = f.channels := rfl
@[simp] theorem Filing.join_boxes (s k : Nat) (c : MailClass) : (f.join s k c).boxes = f.boxes := rfl
@[simp] theorem Filing.join_bindings (s k : Nat) (c : MailClass) : (f.join s k c).bindings = f.bindings := rfl
@[simp] theorem Filing.join_posting (s k : Nat) (c : MailClass) : (f.join s k c).posting = f.posting := rfl
@[simp] theorem Filing.join_ring (s k : Nat) (c : MailClass) : (f.join s k c).ring = f.ring := rfl
@[simp] theorem Filing.join_mirror (s k : Nat) (c : MailClass) : (f.join s k c).mirror = f.mirror := rfl
@[simp] theorem Filing.join_monitors (s k : Nat) (c : MailClass) : (f.join s k c).monitors = f.monitors := rfl

/-! ### leave -/

@[simp] theorem Filing.leave_boot (s k : Nat) : (f.leave s k).boot = f.boot := rfl
@[simp] theorem Filing.leave_clock (s k : Nat) : (f.leave s k).clock = f.clock := rfl
@[simp] theorem Filing.leave_blocks (s k : Nat) : (f.leave s k).blocks = f.blocks := rfl
@[simp] theorem Filing.leave_scrubber (s k : Nat) : (f.leave s k).scrubber = f.scrubber := rfl
@[simp] theorem Filing.leave_dir (s k : Nat) : (f.leave s k).dir = f.dir := rfl
@[simp] theorem Filing.leave_channels (s k : Nat) : (f.leave s k).channels = f.channels := rfl
@[simp] theorem Filing.leave_boxes (s k : Nat) : (f.leave s k).boxes = f.boxes := rfl
@[simp] theorem Filing.leave_bindings (s k : Nat) : (f.leave s k).bindings = f.bindings := rfl
@[simp] theorem Filing.leave_posting (s k : Nat) : (f.leave s k).posting = f.posting := rfl
@[simp] theorem Filing.leave_ring (s k : Nat) : (f.leave s k).ring = f.ring := rfl
@[simp] theorem Filing.leave_mirror (s k : Nat) : (f.leave s k).mirror = f.mirror := rfl
@[simp] theorem Filing.leave_monitors (s k : Nat) : (f.leave s k).monitors = f.monitors := rfl

/-! ### setRecipient -/

@[simp] theorem Filing.setRecipient_boot (s k : Nat) (r : Recipient) : (f.setRecipient s k r).boot = f.boot := rfl
@[simp] theorem Filing.setRecipient_clock (s k : Nat) (r : Recipient) : (f.setRecipient s k r).clock = f.clock := rfl
@[simp] theorem Filing.setRecipient_blocks (s k : Nat) (r : Recipient) : (f.setRecipient s k r).blocks = f.blocks := rfl
@[simp] theorem Filing.setRecipient_scrubber (s k : Nat) (r : Recipient) : (f.setRecipient s k r).scrubber = f.scrubber := rfl
@[simp] theorem Filing.setRecipient_channels (s k : Nat) (r : Recipient) : (f.setRecipient s k r).channels = f.channels := rfl
@[simp] theorem Filing.setRecipient_boxes (s k : Nat) (r : Recipient) : (f.setRecipient s k r).boxes = f.boxes := rfl
@[simp] theorem Filing.setRecipient_queue (s k : Nat) (r : Recipient) : (f.setRecipient s k r).queue = f.queue := rfl
@[simp] theorem Filing.setRecipient_bindings (s k : Nat) (r : Recipient) : (f.setRecipient s k r).bindings = f.bindings := rfl
@[simp] theorem Filing.setRecipient_posting (s k : Nat) (r : Recipient) : (f.setRecipient s k r).posting = f.posting := rfl
@[simp] theorem Filing.setRecipient_ring (s k : Nat) (r : Recipient) : (f.setRecipient s k r).ring = f.ring := rfl
@[simp] theorem Filing.setRecipient_monitors (s k : Nat) (r : Recipient) : (f.setRecipient s k r).monitors = f.monitors := rfl

/-! ### produce -/

@[simp] theorem Filing.produce_boot (kind code : Nat) (slot : Option (Nat × Nat)) (time : Time) (args : List Word) (own : Bool) : (f.produce kind code slot time args own).boot = f.boot := rfl
@[simp] theorem Filing.produce_clock (kind code : Nat) (slot : Option (Nat × Nat)) (time : Time) (args : List Word) (own : Bool) : (f.produce kind code slot time args own).clock = f.clock := rfl
@[simp] theorem Filing.produce_blocks (kind code : Nat) (slot : Option (Nat × Nat)) (time : Time) (args : List Word) (own : Bool) : (f.produce kind code slot time args own).blocks = f.blocks := rfl
@[simp] theorem Filing.produce_scrubber (kind code : Nat) (slot : Option (Nat × Nat)) (time : Time) (args : List Word) (own : Bool) : (f.produce kind code slot time args own).scrubber = f.scrubber := rfl
@[simp] theorem Filing.produce_dir (kind code : Nat) (slot : Option (Nat × Nat)) (time : Time) (args : List Word) (own : Bool) : (f.produce kind code slot time args own).dir = f.dir := rfl
@[simp] theorem Filing.produce_channels (kind code : Nat) (slot : Option (Nat × Nat)) (time : Time) (args : List Word) (own : Bool) : (f.produce kind code slot time args own).channels = f.channels := rfl
@[simp] theorem Filing.produce_boxes (kind code : Nat) (slot : Option (Nat × Nat)) (time : Time) (args : List Word) (own : Bool) : (f.produce kind code slot time args own).boxes = f.boxes := rfl
@[simp] theorem Filing.produce_queue (kind code : Nat) (slot : Option (Nat × Nat)) (time : Time) (args : List Word) (own : Bool) : (f.produce kind code slot time args own).queue = f.queue := rfl
@[simp] theorem Filing.produce_bindings (kind code : Nat) (slot : Option (Nat × Nat)) (time : Time) (args : List Word) (own : Bool) : (f.produce kind code slot time args own).bindings = f.bindings := rfl
@[simp] theorem Filing.produce_posting (kind code : Nat) (slot : Option (Nat × Nat)) (time : Time) (args : List Word) (own : Bool) : (f.produce kind code slot time args own).posting = f.posting := rfl
@[simp] theorem Filing.produce_mirror (kind code : Nat) (slot : Option (Nat × Nat)) (time : Time) (args : List Word) (own : Bool) : (f.produce kind code slot time args own).mirror = f.mirror := rfl
@[simp] theorem Filing.produce_monitors (kind code : Nat) (slot : Option (Nat × Nat)) (time : Time) (args : List Word) (own : Bool) : (f.produce kind code slot time args own).monitors = f.monitors := rfl

/-! ### produceNotice -/

@[simp] theorem Filing.produceNotice_boot (n : Notice) : (f.produceNotice n).boot = f.boot := rfl
@[simp] theorem Filing.produceNotice_clock (n : Notice) : (f.produceNotice n).clock = f.clock := rfl
@[simp] theorem Filing.produceNotice_blocks (n : Notice) : (f.produceNotice n).blocks = f.blocks := rfl
@[simp] theorem Filing.produceNotice_scrubber (n : Notice) : (f.produceNotice n).scrubber = f.scrubber := rfl
@[simp] theorem Filing.produceNotice_dir (n : Notice) : (f.produceNotice n).dir = f.dir := rfl
@[simp] theorem Filing.produceNotice_channels (n : Notice) : (f.produceNotice n).channels = f.channels := rfl
@[simp] theorem Filing.produceNotice_boxes (n : Notice) : (f.produceNotice n).boxes = f.boxes := rfl
@[simp] theorem Filing.produceNotice_queue (n : Notice) : (f.produceNotice n).queue = f.queue := rfl
@[simp] theorem Filing.produceNotice_bindings (n : Notice) : (f.produceNotice n).bindings = f.bindings := rfl
@[simp] theorem Filing.produceNotice_posting (n : Notice) : (f.produceNotice n).posting = f.posting := rfl
@[simp] theorem Filing.produceNotice_mirror (n : Notice) : (f.produceNotice n).mirror = f.mirror := rfl
@[simp] theorem Filing.produceNotice_monitors (n : Notice) : (f.produceNotice n).monitors = f.monitors := rfl

/-! ### defer -/

@[simp] theorem Filing.defer_boot (d : Deferred) : (f.defer d).boot = f.boot := rfl
@[simp] theorem Filing.defer_clock (d : Deferred) : (f.defer d).clock = f.clock := rfl
@[simp] theorem Filing.defer_blocks (d : Deferred) : (f.defer d).blocks = f.blocks := rfl
@[simp] theorem Filing.defer_scrubber (d : Deferred) : (f.defer d).scrubber = f.scrubber := rfl
@[simp] theorem Filing.defer_dir (d : Deferred) : (f.defer d).dir = f.dir := rfl
@[simp] theorem Filing.defer_channels (d : Deferred) : (f.defer d).channels = f.channels := rfl
@[simp] theorem Filing.defer_boxes (d : Deferred) : (f.defer d).boxes = f.boxes := rfl
@[simp] theorem Filing.defer_queue (d : Deferred) : (f.defer d).queue = f.queue := rfl
@[simp] theorem Filing.defer_bindings (d : Deferred) : (f.defer d).bindings = f.bindings := rfl
@[simp] theorem Filing.defer_ring (d : Deferred) : (f.defer d).ring = f.ring := rfl
@[simp] theorem Filing.defer_mirror (d : Deferred) : (f.defer d).mirror = f.mirror := rfl
@[simp] theorem Filing.defer_monitors (d : Deferred) : (f.defer d).monitors = f.monitors := rfl

/-! ### clearLatches -/

@[simp] theorem Filing.clearLatches_boot (n : BitVec 10) (c : Bool) : (f.clearLatches n c).boot = f.boot := rfl
@[simp] theorem Filing.clearLatches_clock (n : BitVec 10) (c : Bool) : (f.clearLatches n c).clock = f.clock := rfl
@[simp] theorem Filing.clearLatches_blocks (n : BitVec 10) (c : Bool) : (f.clearLatches n c).blocks = f.blocks := rfl
@[simp] theorem Filing.clearLatches_scrubber (n : BitVec 10) (c : Bool) : (f.clearLatches n c).scrubber = f.scrubber := rfl
@[simp] theorem Filing.clearLatches_dir (n : BitVec 10) (c : Bool) : (f.clearLatches n c).dir = f.dir := rfl
@[simp] theorem Filing.clearLatches_channels (n : BitVec 10) (c : Bool) : (f.clearLatches n c).channels = f.channels := rfl
@[simp] theorem Filing.clearLatches_boxes (n : BitVec 10) (c : Bool) : (f.clearLatches n c).boxes = f.boxes := rfl
@[simp] theorem Filing.clearLatches_queue (n : BitVec 10) (c : Bool) : (f.clearLatches n c).queue = f.queue := rfl
@[simp] theorem Filing.clearLatches_bindings (n : BitVec 10) (c : Bool) : (f.clearLatches n c).bindings = f.bindings := rfl
@[simp] theorem Filing.clearLatches_posting (n : BitVec 10) (c : Bool) : (f.clearLatches n c).posting = f.posting := rfl
@[simp] theorem Filing.clearLatches_ring (n : BitVec 10) (c : Bool) : (f.clearLatches n c).ring = f.ring := rfl

/-! ### closeGuard -/

@[simp] theorem Filing.closeGuard_boot : (f.closeGuard).boot = f.boot := rfl
@[simp] theorem Filing.closeGuard_clock : (f.closeGuard).clock = f.clock := rfl
@[simp] theorem Filing.closeGuard_blocks : (f.closeGuard).blocks = f.blocks := rfl
@[simp] theorem Filing.closeGuard_scrubber : (f.closeGuard).scrubber = f.scrubber := rfl
@[simp] theorem Filing.closeGuard_dir : (f.closeGuard).dir = f.dir := rfl
@[simp] theorem Filing.closeGuard_channels : (f.closeGuard).channels = f.channels := rfl
@[simp] theorem Filing.closeGuard_boxes : (f.closeGuard).boxes = f.boxes := rfl
@[simp] theorem Filing.closeGuard_queue : (f.closeGuard).queue = f.queue := rfl
@[simp] theorem Filing.closeGuard_bindings : (f.closeGuard).bindings = f.bindings := rfl
@[simp] theorem Filing.closeGuard_posting : (f.closeGuard).posting = f.posting := rfl
@[simp] theorem Filing.closeGuard_ring : (f.closeGuard).ring = f.ring := rfl
@[simp] theorem Filing.closeGuard_monitors : (f.closeGuard).monitors = f.monitors := rfl

/-! ### tickGuard -/

@[simp] theorem Filing.tickGuard_boot : (f.tickGuard).boot = f.boot := rfl
@[simp] theorem Filing.tickGuard_clock : (f.tickGuard).clock = f.clock := rfl
@[simp] theorem Filing.tickGuard_blocks : (f.tickGuard).blocks = f.blocks := rfl
@[simp] theorem Filing.tickGuard_scrubber : (f.tickGuard).scrubber = f.scrubber := rfl
@[simp] theorem Filing.tickGuard_dir : (f.tickGuard).dir = f.dir := rfl
@[simp] theorem Filing.tickGuard_channels : (f.tickGuard).channels = f.channels := rfl
@[simp] theorem Filing.tickGuard_boxes : (f.tickGuard).boxes = f.boxes := rfl
@[simp] theorem Filing.tickGuard_queue : (f.tickGuard).queue = f.queue := rfl
@[simp] theorem Filing.tickGuard_bindings : (f.tickGuard).bindings = f.bindings := rfl
@[simp] theorem Filing.tickGuard_posting : (f.tickGuard).posting = f.posting := rfl
@[simp] theorem Filing.tickGuard_ring : (f.tickGuard).ring = f.ring := rfl
@[simp] theorem Filing.tickGuard_monitors : (f.tickGuard).monitors = f.monitors := rfl

/-! ### saveClock -/

@[simp] theorem Filing.saveClock_boot : (f.saveClock).boot = f.boot := rfl
@[simp] theorem Filing.saveClock_blocks : (f.saveClock).blocks = f.blocks := rfl
@[simp] theorem Filing.saveClock_scrubber : (f.saveClock).scrubber = f.scrubber := rfl
@[simp] theorem Filing.saveClock_dir : (f.saveClock).dir = f.dir := rfl
@[simp] theorem Filing.saveClock_channels : (f.saveClock).channels = f.channels := rfl
@[simp] theorem Filing.saveClock_boxes : (f.saveClock).boxes = f.boxes := rfl
@[simp] theorem Filing.saveClock_queue : (f.saveClock).queue = f.queue := rfl
@[simp] theorem Filing.saveClock_bindings : (f.saveClock).bindings = f.bindings := rfl
@[simp] theorem Filing.saveClock_posting : (f.saveClock).posting = f.posting := rfl
@[simp] theorem Filing.saveClock_ring : (f.saveClock).ring = f.ring := rfl
@[simp] theorem Filing.saveClock_monitors : (f.saveClock).monitors = f.monitors := rfl

/-! ### warn -/

@[simp] theorem Filing.warn_boot : (f.warn).boot = f.boot := rfl
@[simp] theorem Filing.warn_clock : (f.warn).clock = f.clock := rfl
@[simp] theorem Filing.warn_blocks : (f.warn).blocks = f.blocks := rfl
@[simp] theorem Filing.warn_dir : (f.warn).dir = f.dir := rfl
@[simp] theorem Filing.warn_channels : (f.warn).channels = f.channels := rfl
@[simp] theorem Filing.warn_boxes : (f.warn).boxes = f.boxes := rfl
@[simp] theorem Filing.warn_queue : (f.warn).queue = f.queue := rfl
@[simp] theorem Filing.warn_bindings : (f.warn).bindings = f.bindings := rfl
@[simp] theorem Filing.warn_posting : (f.warn).posting = f.posting := rfl
@[simp] theorem Filing.warn_ring : (f.warn).ring = f.ring := rfl
@[simp] theorem Filing.warn_monitors : (f.warn).monitors = f.monitors := rfl

/-! ### unwarn -/

@[simp] theorem Filing.unwarn_boot : (f.unwarn).boot = f.boot := rfl
@[simp] theorem Filing.unwarn_clock : (f.unwarn).clock = f.clock := rfl
@[simp] theorem Filing.unwarn_blocks : (f.unwarn).blocks = f.blocks := rfl
@[simp] theorem Filing.unwarn_scrubber : (f.unwarn).scrubber = f.scrubber := rfl
@[simp] theorem Filing.unwarn_dir : (f.unwarn).dir = f.dir := rfl
@[simp] theorem Filing.unwarn_channels : (f.unwarn).channels = f.channels := rfl
@[simp] theorem Filing.unwarn_boxes : (f.unwarn).boxes = f.boxes := rfl
@[simp] theorem Filing.unwarn_queue : (f.unwarn).queue = f.queue := rfl
@[simp] theorem Filing.unwarn_bindings : (f.unwarn).bindings = f.bindings := rfl
@[simp] theorem Filing.unwarn_posting : (f.unwarn).posting = f.posting := rfl
@[simp] theorem Filing.unwarn_ring : (f.unwarn).ring = f.ring := rfl
@[simp] theorem Filing.unwarn_monitors : (f.unwarn).monitors = f.monitors := rfl

/-! ### pageFlushed -/

@[simp] theorem Filing.pageFlushed_boot (p : Nat) : (f.pageFlushed p).boot = f.boot := rfl
@[simp] theorem Filing.pageFlushed_clock (p : Nat) : (f.pageFlushed p).clock = f.clock := rfl
@[simp] theorem Filing.pageFlushed_blocks (p : Nat) : (f.pageFlushed p).blocks = f.blocks := rfl
@[simp] theorem Filing.pageFlushed_scrubber (p : Nat) : (f.pageFlushed p).scrubber = f.scrubber := rfl
@[simp] theorem Filing.pageFlushed_channels (p : Nat) : (f.pageFlushed p).channels = f.channels := rfl
@[simp] theorem Filing.pageFlushed_boxes (p : Nat) : (f.pageFlushed p).boxes = f.boxes := rfl
@[simp] theorem Filing.pageFlushed_queue (p : Nat) : (f.pageFlushed p).queue = f.queue := rfl
@[simp] theorem Filing.pageFlushed_bindings (p : Nat) : (f.pageFlushed p).bindings = f.bindings := rfl
@[simp] theorem Filing.pageFlushed_posting (p : Nat) : (f.pageFlushed p).posting = f.posting := rfl
@[simp] theorem Filing.pageFlushed_ring (p : Nat) : (f.pageFlushed p).ring = f.ring := rfl
@[simp] theorem Filing.pageFlushed_mirror (p : Nat) : (f.pageFlushed p).mirror = f.mirror := rfl
@[simp] theorem Filing.pageFlushed_monitors (p : Nat) : (f.pageFlushed p).monitors = f.monitors := rfl

/-! ### captureHeader -/

@[simp] theorem Filing.captureHeader_boot (c w l : Nat) (bs : List Byte) : (f.captureHeader c w l bs).boot = f.boot := rfl
@[simp] theorem Filing.captureHeader_clock (c w l : Nat) (bs : List Byte) : (f.captureHeader c w l bs).clock = f.clock := rfl
@[simp] theorem Filing.captureHeader_blocks (c w l : Nat) (bs : List Byte) : (f.captureHeader c w l bs).blocks = f.blocks := rfl
@[simp] theorem Filing.captureHeader_scrubber (c w l : Nat) (bs : List Byte) : (f.captureHeader c w l bs).scrubber = f.scrubber := rfl
@[simp] theorem Filing.captureHeader_dir (c w l : Nat) (bs : List Byte) : (f.captureHeader c w l bs).dir = f.dir := rfl
@[simp] theorem Filing.captureHeader_boxes (c w l : Nat) (bs : List Byte) : (f.captureHeader c w l bs).boxes = f.boxes := rfl
@[simp] theorem Filing.captureHeader_queue (c w l : Nat) (bs : List Byte) : (f.captureHeader c w l bs).queue = f.queue := rfl
@[simp] theorem Filing.captureHeader_bindings (c w l : Nat) (bs : List Byte) : (f.captureHeader c w l bs).bindings = f.bindings := rfl
@[simp] theorem Filing.captureHeader_posting (c w l : Nat) (bs : List Byte) : (f.captureHeader c w l bs).posting = f.posting := rfl
@[simp] theorem Filing.captureHeader_ring (c w l : Nat) (bs : List Byte) : (f.captureHeader c w l bs).ring = f.ring := rfl
@[simp] theorem Filing.captureHeader_mirror (c w l : Nat) (bs : List Byte) : (f.captureHeader c w l bs).mirror = f.mirror := rfl
@[simp] theorem Filing.captureHeader_monitors (c w l : Nat) (bs : List Byte) : (f.captureHeader c w l bs).monitors = f.monitors := rfl

/-! ### captureWord -/

@[simp] theorem Filing.captureWord_boot (s i : Nat) (full : Bool) (w : Word) : (f.captureWord s i full w).boot = f.boot := rfl
@[simp] theorem Filing.captureWord_clock (s i : Nat) (full : Bool) (w : Word) : (f.captureWord s i full w).clock = f.clock := rfl
@[simp] theorem Filing.captureWord_blocks (s i : Nat) (full : Bool) (w : Word) : (f.captureWord s i full w).blocks = f.blocks := rfl
@[simp] theorem Filing.captureWord_scrubber (s i : Nat) (full : Bool) (w : Word) : (f.captureWord s i full w).scrubber = f.scrubber := rfl
@[simp] theorem Filing.captureWord_dir (s i : Nat) (full : Bool) (w : Word) : (f.captureWord s i full w).dir = f.dir := rfl
@[simp] theorem Filing.captureWord_channels (s i : Nat) (full : Bool) (w : Word) : (f.captureWord s i full w).channels = f.channels := rfl
@[simp] theorem Filing.captureWord_boxes (s i : Nat) (full : Bool) (w : Word) : (f.captureWord s i full w).boxes = f.boxes := rfl
@[simp] theorem Filing.captureWord_queue (s i : Nat) (full : Bool) (w : Word) : (f.captureWord s i full w).queue = f.queue := rfl
@[simp] theorem Filing.captureWord_bindings (s i : Nat) (full : Bool) (w : Word) : (f.captureWord s i full w).bindings = f.bindings := rfl
@[simp] theorem Filing.captureWord_ring (s i : Nat) (full : Bool) (w : Word) : (f.captureWord s i full w).ring = f.ring := rfl
@[simp] theorem Filing.captureWord_mirror (s i : Nat) (full : Bool) (w : Word) : (f.captureWord s i full w).mirror = f.mirror := rfl
@[simp] theorem Filing.captureWord_monitors (s i : Nat) (full : Bool) (w : Word) : (f.captureWord s i full w).monitors = f.monitors := rfl

/-! ### Parts of a group -/

@[simp] theorem Filing.setDoc_pages (s : Nat) (d : Doc) : (f.setDoc s d).dir.pages = f.dir.pages := rfl
@[simp] theorem Filing.setDoc_freePages (s : Nat) (d : Doc) : (f.setDoc s d).dir.freePages = f.dir.freePages := rfl
@[simp] theorem Filing.setDoc_withheld (s : Nat) (d : Doc) : (f.setDoc s d).dir.withheld = f.dir.withheld := rfl
@[simp] theorem Filing.setPage_docs (p : Nat) (g : Page) : (f.setPage p g).dir.docs = f.dir.docs := rfl
@[simp] theorem Filing.setPage_freePages (p : Nat) (g : Page) : (f.setPage p g).dir.freePages = f.dir.freePages := rfl
@[simp] theorem Filing.setPage_withheld (p : Nat) (g : Page) : (f.setPage p g).dir.withheld = f.dir.withheld := rfl
@[simp] theorem Filing.setBox_routes (m : Nat) (b : Mailbox) : (f.setBox m b).boxes.routes = f.boxes.routes := rfl
@[simp] theorem Filing.setRoute_mailboxes (e : Nat) (r : Option Route) : (f.setRoute e r).boxes.mailboxes = f.boxes.mailboxes := rfl
@[simp] theorem Filing.setBlock_free (n : Nat) (b : BlockEntry) : (f.setBlock n b).blocks.free = f.blocks.free := rfl
@[simp] theorem Filing.setBlock_scrub (n : Nat) (b : BlockEntry) : (f.setBlock n b).blocks.scrub = f.blocks.scrub := rfl
@[simp] theorem Filing.setSlot_deferred (s : Nat) (x : Slot) : (f.setSlot s x).posting.deferred = f.posting.deferred := rfl
@[simp] theorem Filing.place_now (e : Deadline) : (f.place e).now = f.now := rfl
@[simp] theorem Filing.keepDeadlines_now (k : Deadline → Bool) : (f.keepDeadlines k).now = f.now := rfl
@[simp] theorem Filing.mark_guarded (r : RecordId) : (f.mark r).mirror.guarded = f.mirror.guarded := rfl
@[simp] theorem Filing.mark_clean (r : RecordId) : (f.mark r).mirror.clean = false := rfl
@[simp] theorem Filing.mark_saved (r : RecordId) : (f.mark r).mirror.saved = f.mirror.saved := rfl
@[simp] theorem Filing.mark_sizeMiB (r : RecordId) : (f.mark r).mirror.sizeMiB = f.mirror.sizeMiB := rfl
@[simp] theorem Filing.produce_pending (k c : Nat) (sl : Option (Nat × Nat)) (t : Time) (a : List Word) (w : Bool) : (f.produce k c sl t a w).ring.pending = f.ring.pending := rfl
@[simp] theorem Filing.produce_consumer (k c : Nat) (sl : Option (Nat × Nat)) (t : Time) (a : List Word) (w : Bool) : (f.produce k c sl t a w).ring.consumer = f.ring.consumer := rfl
@[simp] theorem Filing.produce_producer (k c : Nat) (sl : Option (Nat × Nat)) (t : Time) (a : List Word) (w : Bool) : (f.produce k c sl t a w).ring.producer = f.ring.producer := rfl
@[simp] theorem Filing.defer_slots (d : Deferred) : (f.defer d).posting.slots = f.posting.slots := rfl
@[simp] theorem Filing.closeGuard_guarded : f.closeGuard.mirror.guarded = none := rfl
@[simp] theorem Filing.closeGuard_flushList : f.closeGuard.mirror.flushList = f.mirror.flushList := rfl

/-! ### The whole state -/

@[simp] theorem State.granted_filing (k : Kind) (s : State) : (s.granted k).filing = s.filing := rfl
@[simp] theorem State.granted_store (k : Kind) (s : State) : (s.granted k).store = s.store := rfl
@[simp] theorem State.granted_pending (k : Kind) (s : State) : (s.granted k).pending = s.pending := rfl
@[simp] theorem State.granted_port (k : Kind) (s : State) : (s.granted k).board.port = s.board.port := rfl
@[simp] theorem State.granted_queue (k : Kind) (s : State) : (s.granted k).board.queue = s.board.queue := rfl
@[simp] theorem State.granted_head (k : Kind) (s : State) : (s.granted k).board.head = s.board.head := rfl
@[simp] theorem State.granted_pwarn (k : Kind) (s : State) : (s.granted k).board.pwarn = s.board.pwarn := rfl
@[simp] theorem State.settle_board (s : State) : s.settle.board = s.board := by simp only [State.settle]
@[simp] theorem State.settle_store (s : State) : s.settle.store = s.store := by simp only [State.settle]
@[simp] theorem State.settle_pending (s : State) : s.settle.pending = s.pending := by simp only [State.settle]
@[simp] theorem State.settle_filing (s : State) : s.settle.filing = s.filing.settle := by simp only [State.settle]
@[simp] theorem State.writeRecord_filing (r : RecordId) (s : State) : (s.writeRecord r).filing = s.filing := rfl
@[simp] theorem State.writeRecord_board (r : RecordId) (s : State) : (s.writeRecord r).board = s.board := rfl
@[simp] theorem State.writeRecord_pending (r : RecordId) (s : State) : (s.writeRecord r).pending = s.pending := rfl
@[simp] theorem State.beginScrub_board (s : State) : s.beginScrub.board = s.board := rfl
@[simp] theorem State.beginScrub_store (s : State) : s.beginScrub.store = s.store := rfl
@[simp] theorem State.beginScrub_pending (s : State) : s.beginScrub.pending = s.pending := rfl
@[simp] theorem State.takeTick_board (s : State) : s.takeTick.board = s.board := by simp only [State.takeTick]
@[simp] theorem State.takeTick_store (s : State) : s.takeTick.store = s.store := by simp only [State.takeTick]
@[simp] theorem State.takeTick_pending (s : State) : s.takeTick.pending = s.pending := by simp only [State.takeTick]

variable (b : Board)

@[simp] theorem Board.serve_queue (m : BitVec 5) (a : Word) (w : Width) (bs : List Byte) :
    (b.serve m a w bs).queue = b.queue := rfl
@[simp] theorem Board.serve_head (m : BitVec 5) (a : Word) (w : Width) (bs : List Byte) :
    (b.serve m a w bs).head = b.head := rfl
@[simp] theorem Board.serve_starve (m : BitVec 5) (a : Word) (w : Width) (bs : List Byte) :
    (b.serve m a w bs).starve = b.starve := rfl
@[simp] theorem Board.serve_port (m : BitVec 5) (a : Word) (w : Width) (bs : List Byte) :
    (b.serve m a w bs).port = .idle := rfl
@[simp] theorem Board.serveAll_queue (m : BitVec 5) (a : Word) (w : Width) (x : Byte) :
    (b.serveAll m a w x).queue = b.queue := rfl
@[simp] theorem Board.serveAll_head (m : BitVec 5) (a : Word) (w : Width) (x : Byte) :
    (b.serveAll m a w x).head = b.head := rfl
@[simp] theorem Board.serveAll_starve (m : BitVec 5) (a : Word) (w : Width) (x : Byte) :
    (b.serveAll m a w x).starve = b.starve := rfl
@[simp] theorem Board.accept_head (w : BoardWrite) : (b.accept w).head = b.head := rfl
@[simp] theorem Board.accept_starve (w : BoardWrite) : (b.accept w).starve = b.starve := rfl
@[simp] theorem Board.accept_port (w : BoardWrite) : (b.accept w).port = b.port := rfl
@[simp] theorem Board.abandon_queue : b.abandon.queue = [] := rfl
@[simp] theorem Board.abandon_head : b.abandon.head = none := rfl
@[simp] theorem Board.abandon_port : b.abandon.port = .idle := rfl
@[simp] theorem Board.abandon_starve : b.abandon.starve = 0 := rfl
@[simp] theorem Board.abandon_straps : b.abandon.straps = b.straps := rfl

end Sys2Proof.Machine
end

