-- ==== Sys2Proof/Laws/Tables.lean ====
section
/-! SUPPORT. What tables and memories do: a record read back after it is put, a byte read back after a run is written, the
canonical form kept by every write, and a run of bytes read byte by byte. -/

namespace Sys2Proof.Machine

/-! ## Tables -/

theorem Tbl.find_put_self {α : Type} (t : Tbl α) (i : Nat) (x : α) : Tbl.find (Tbl.put t i x) i = some x := by
  induction t with
  | nil => simp [Tbl.put, Tbl.find]
  | cons c t ih =>
    obtain ⟨k, v⟩ := c
    by_cases h1 : k = i
    · simp [Tbl.put, Tbl.find, h1]
    · by_cases h2 : i < k <;> simp [Tbl.put, Tbl.find, h1, h2, ih]

theorem Tbl.find_put_ne {α : Type} (t : Tbl α) {i j : Nat} (x : α) (h : j ≠ i) :
    Tbl.find (Tbl.put t i x) j = Tbl.find t j := by
  induction t with
  | nil => simp [Tbl.put, Tbl.find, h.symm]
  | cons c t ih =>
    obtain ⟨k, v⟩ := c
    by_cases h1 : k = i
    · subst h1; simp [Tbl.put, Tbl.find, h.symm]
    · by_cases h2 : i < k <;> simp [Tbl.put, Tbl.find, h1, h2, h.symm, ih]

/-- What reading any record gives after one is put. -/
theorem Tbl.find_put {α : Type} (t : Tbl α) (i j : Nat) (x : α) :
    Tbl.find (Tbl.put t i x) j = if j = i then some x else Tbl.find t j := by
  by_cases h : j = i
  · subst h; simp [Tbl.find_put_self]
  · simp [h, Tbl.find_put_ne t x h]

theorem Tbl.find_append {α : Type} (s t : Tbl α) (i : Nat) :
    Tbl.find (s ++ t) i = (Tbl.find s i).or (Tbl.find t i) := by
  induction s with
  | nil => simp [Tbl.find]
  | cons c s ih =>
    obtain ⟨k, v⟩ := c
    by_cases h : k = i <;> simp [Tbl.find, h, ih]

theorem Tbl.find_filter_true {α : Type} (t : Tbl α) (p : Nat × α → Bool) (i : Nat) (h : ∀ v, p (i, v) = true) :
    Tbl.find (t.filter p) i = Tbl.find t i := by
  induction t with
  | nil => rfl
  | cons c t ih =>
    obtain ⟨k, v⟩ := c
    by_cases hk : k = i
    · subst hk; simp [h, Tbl.find]
    · by_cases hp : p (k, v) <;> simp [hp, Tbl.find, hk, ih]

theorem Tbl.find_filter_false {α : Type} (t : Tbl α) (p : Nat × α → Bool) (i : Nat) (h : ∀ v, p (i, v) = false) :
    Tbl.find (t.filter p) i = none := by
  induction t with
  | nil => rfl
  | cons c t ih =>
    obtain ⟨k, v⟩ := c
    by_cases hk : k = i
    · subst hk; simp [h, ih]
    · by_cases hp : p (k, v) <;> simp [hp, Tbl.find, hk, ih]

/-! ## Bytes read back -/

theorem Memory.find_cells (a : Nat) (bs : List Byte) (x : Nat) :
    (Tbl.find (Memory.cells a bs) x).getD Config.unlistedByte =
      if a ≤ x then bs.getD (x - a) Config.unlistedByte else Config.unlistedByte := by
  induction bs generalizing a with
  | nil => simp [Memory.cells, Tbl.find]
  | cons b bs ih =>
    have step := ih (a + 1)
    by_cases hx : x = a
    · subst hx
      by_cases hb : b = Config.unlistedByte
      · simp only [Memory.cells, hb, ↓reduceIte, step]; simp
      · simp [Memory.cells, hb, Tbl.find]
    · have hax : ¬ a = x := fun h => hx h.symm
      have key : (Tbl.find (Memory.cells a (b :: bs)) x).getD Config.unlistedByte =
          (Tbl.find (Memory.cells (a + 1) bs) x).getD Config.unlistedByte := by
        by_cases hb : b = Config.unlistedByte <;> simp [Memory.cells, hb, Tbl.find, hax]
      rw [key, step]
      by_cases hle : a + 1 ≤ x
      · obtain ⟨d, rfl⟩ := Nat.exists_eq_add_of_le hle
        have e1 : a + 1 + d - a = d + 1 := by omega
        have e2 : a + 1 + d - (a + 1) = d := by omega
        have e3 : a ≤ a + 1 + d := by omega
        simp [e1, e2, e3]
      · have : ¬ a ≤ x := by omega
        simp [hle, this]

theorem Memory.find_cells_none (a : Nat) (bs : List Byte) (x : Nat) (h : x < a ∨ a + bs.length ≤ x) :
    Tbl.find (Memory.cells a bs) x = none := by
  induction bs generalizing a with
  | nil => rfl
  | cons b bs ih =>
    have hlen : (b :: bs).length = bs.length + 1 := rfl
    have h' : x < a + 1 ∨ a + 1 + bs.length ≤ x := by omega
    have hax : ¬ a = x := by omega
    by_cases hb : b = Config.unlistedByte <;> simp [Memory.cells, hb, Tbl.find, hax, ih (a + 1) h']

/-- A byte of the run just written. -/
theorem Memory.read_write_in (m : Memory) (a : Nat) (bs : List Byte) (x : Nat) (h1 : a ≤ x) (h2 : x < a + bs.length) :
    (m.write a bs).read x = bs.getD (x - a) Config.unlistedByte := by
  have l : Tbl.find (m.filter (fun c => decide (c.1 < a))) x = none :=
    Tbl.find_filter_false m _ x (fun v => by simp; omega)
  have r : Tbl.find (m.filter (fun c => decide (a + bs.length ≤ c.1))) x = none :=
    Tbl.find_filter_false m _ x (fun v => by simp; omega)
  have c := Memory.find_cells a bs x
  simp only [h1, ↓reduceIte] at c
  simp [Memory.read, Memory.write, Tbl.find_append, l, r, c]

/-- A byte outside the run just written. -/
theorem Memory.read_write_out (m : Memory) (a : Nat) (bs : List Byte) (x : Nat) (h : x < a ∨ a + bs.length ≤ x) :
    (m.write a bs).read x = m.read x := by
  have c := Memory.find_cells_none a bs x h
  rcases h with h | h
  · have l : Tbl.find (m.filter (fun c => decide (c.1 < a))) x = Tbl.find m x :=
      Tbl.find_filter_true m _ x (fun v => by simpa using h)
    have r : Tbl.find (m.filter (fun c => decide (a + bs.length ≤ c.1))) x = none :=
      Tbl.find_filter_false m _ x (fun v => by simp; omega)
    simp [Memory.read, Memory.write, Tbl.find_append, l, r, c]
  · have l : Tbl.find (m.filter (fun c => decide (c.1 < a))) x = none :=
      Tbl.find_filter_false m _ x (fun v => by simp; omega)
    have r : Tbl.find (m.filter (fun c => decide (a + bs.length ≤ c.1))) x = Tbl.find m x :=
      Tbl.find_filter_true m _ x (fun v => by simpa using h)
    simp [Memory.read, Memory.write, Tbl.find_append, l, r, c]

/-- A run of bytes is the bytes of its addresses. -/
theorem Memory.readBytes_eq (m : Memory) (a n : Nat) : m.readBytes a n = (numbers a n).map m.read := by
  unfold Memory.readBytes numbers
  simp only [List.map_map]
  apply List.map_congr_left
  intro i hi
  have hi' : i < n := List.mem_range.mp hi
  simp only [Function.comp, Memory.read]
  rw [Tbl.find_filter_true m _ (a + i) (fun v => by simp; omega)]

/-- The run just written reads back. -/
theorem Memory.readBytes_write (m : Memory) (a : Nat) (bs : List Byte) : (m.write a bs).readBytes a bs.length = bs := by
  rw [Memory.readBytes_eq]
  apply List.ext_getElem
  · simp [numbers]
  · intro i h1 h2
    simp only [numbers, List.map_map, List.getElem_map, List.getElem_range, Function.comp]
    rw [Memory.read_write_in m a bs (a + i) (by omega) (by omega)]
    have e : a + i - a = i := by omega
    simp [e, List.getD_eq_getElem?_getD, h2]

/-- A run clear of the run just written is as before. -/
theorem Memory.readBytes_write_out (m : Memory) (a : Nat) (bs : List Byte) (b n : Nat)
    (h : b + n ≤ a ∨ a + bs.length ≤ b) : (m.write a bs).readBytes b n = m.readBytes b n := by
  rw [Memory.readBytes_eq, Memory.readBytes_eq]
  apply List.map_congr_left
  intro x hx
  simp only [numbers, List.mem_map, List.mem_range] at hx
  obtain ⟨i, hi, rfl⟩ := hx
  exact Memory.read_write_out m a bs _ (by omega)

/-! ## The canonical form -/

/-- The canonical form, as an order and a property of each entry. -/
theorem Memory.wf_iff (m : Memory) :
    m.wf = true ↔ m.Pairwise (fun c d => c.1 < d.1) ∧ ∀ c ∈ m, c.2 ≠ Config.unlistedByte := by
  induction m with
  | nil => simp [Memory.wf]
  | cons c t ih =>
    cases t with
    | nil => simp [Memory.wf]
    | cons d t =>
      simp only [Memory.wf, Bool.and_eq_true, bne_iff_ne, ne_eq, decide_eq_true_eq, ih]
      constructor
      · rintro ⟨⟨h1, h2⟩, h3, h4⟩
        refine ⟨List.pairwise_cons.mpr ⟨?_, h3⟩, ?_⟩
        · intro e he
          rcases List.mem_cons.mp he with rfl | he
          · exact h2
          · exact Nat.lt_trans h2 ((List.pairwise_cons.mp h3).1 e he)
        · intro e he
          rcases List.mem_cons.mp he with rfl | he
          · exact h1
          · exact h4 e he
      · rintro ⟨h1, h2⟩
        have h1' := List.pairwise_cons.mp h1
        exact ⟨⟨h2 c (by simp), h1'.1 d (by simp)⟩, h1'.2, fun e he => h2 e (List.mem_cons_of_mem _ he)⟩

theorem Memory.mem_cells (a : Nat) (bs : List Byte) (c : Host.Cell) (h : c ∈ Memory.cells a bs) :
    a ≤ c.1 ∧ c.1 < a + bs.length ∧ c.2 ≠ Config.unlistedByte := by
  induction bs generalizing a with
  | nil => simp [Memory.cells] at h
  | cons b bs ih =>
    have hlen : (b :: bs).length = bs.length + 1 := rfl
    by_cases hb : b = Config.unlistedByte
    · simp only [Memory.cells, hb, ↓reduceIte] at h
      have := ih (a + 1) h
      exact ⟨by omega, by omega, this.2.2⟩
    · simp only [Memory.cells, hb, ↓reduceIte, List.mem_cons] at h
      rcases h with rfl | h
      · exact ⟨Nat.le_refl _, by simp, hb⟩
      · have := ih (a + 1) h
        exact ⟨by omega, by omega, this.2.2⟩

theorem Memory.cells_pairwise (a : Nat) (bs : List Byte) :
    (Memory.cells a bs).Pairwise (fun c d => c.1 < d.1) := by
  induction bs generalizing a with
  | nil => simp [Memory.cells]
  | cons b bs ih =>
    by_cases hb : b = Config.unlistedByte
    · simpa [Memory.cells, hb] using ih (a + 1)
    · simp only [Memory.cells, hb, ↓reduceIte, List.pairwise_cons]
      exact ⟨fun c hc => by have := Memory.mem_cells (a + 1) bs c hc; omega, ih (a + 1)⟩

/-- A write keeps the canonical form. -/
theorem Memory.wf_write (m : Memory) (a : Nat) (bs : List Byte) (h : m.wf = true) : (m.write a bs).wf = true := by
  rw [Memory.wf_iff] at h ⊢
  obtain ⟨hp, hn⟩ := h
  constructor
  · rw [Memory.write, List.pairwise_append, List.pairwise_append]
    refine ⟨⟨hp.filter _, Memory.cells_pairwise a bs, ?_⟩, hp.filter _, ?_⟩
    · intro c hc d hd
      have h1 := (List.mem_filter.mp hc).2
      have h2 := Memory.mem_cells a bs d hd
      simp only [decide_eq_true_eq] at h1; omega
    · intro c hc d hd
      have h2 := (List.mem_filter.mp hd).2
      simp only [decide_eq_true_eq] at h2
      rcases List.mem_append.mp hc with hc | hc
      · have h1 := (List.mem_filter.mp hc).2
        simp only [decide_eq_true_eq] at h1; omega
      · have h1 := Memory.mem_cells a bs c hc; omega
  · intro c hc
    simp only [Memory.write, List.mem_append, List.mem_filter] at hc
    rcases hc with (⟨hc, _⟩ | hc) | ⟨hc, _⟩
    · exact hn c hc
    · exact (Memory.mem_cells a bs c hc).2.2
    · exact hn c hc

/-- The empty memory is canonical. -/
theorem Memory.wf_nil : Memory.wf [] = true := rfl

/-- Writing runs of words keeps the canonical form of the page bank and touches no other field of the store. -/
theorem Store.writeSegments_wf (segs : List (Nat × List Word)) (st : Store) (h : st.page.wf = true) :
    (st.writeSegments segs).page.wf = true := by
  unfold Store.writeSegments
  simp only
  induction segs generalizing st with
  | nil => exact h
  | cons x xs ih =>
    simp only [List.foldl_cons]
    exact ih { st with page := st.page.write x.1 (wordsBytes x.2) } (Memory.wf_write _ _ _ h)

@[simp] theorem Store.writeSegments_general (segs : List (Nat × List Word)) (st : Store) :
    (st.writeSegments segs).general = st.general := rfl
@[simp] theorem Store.writeSegments_bankMiB (segs : List (Nat × List Word)) (st : Store) :
    (st.writeSegments segs).bankMiB = st.bankMiB := rfl
@[simp] theorem Store.writeSegments_wrapMiB (segs : List (Nat × List Word)) (st : Store) :
    (st.writeSegments segs).wrapMiB = st.wrapMiB := rfl

/-- A byte outside every run that is written is as before. -/
theorem Store.writeSegments_read_out (segs : List (Nat × List Word)) (st : Store) (x : Nat)
    (h : ∀ g ∈ segs, x < g.1 ∨ g.1 + (wordsBytes g.2).length ≤ x) :
    (st.writeSegments segs).page.read x = st.page.read x := by
  unfold Store.writeSegments
  simp only
  induction segs generalizing st with
  | nil => rfl
  | cons y ys ih =>
    simp only [List.foldl_cons]
    rw [ih { st with page := st.page.write y.1 (wordsBytes y.2) } (fun g hg => h g (List.mem_cons_of_mem _ hg))]
    exact Memory.read_write_out _ _ _ _ (h y (by simp))

/-! ## Words and bytes -/

@[simp] theorem wordBytes_length (w : Word) : (wordBytes w).length = 4 := rfl

@[simp] theorem wordsBytes_length (ws : List Word) : (wordsBytes ws).length = 4 * ws.length := by
  induction ws with
  | nil => rfl
  | cons w ws ih => simp only [wordsBytes, List.flatMap_cons, List.length_append, wordBytes_length] at *; simp [ih]; omega

/-- The bytes of a word give the word back. -/
theorem bytesWord_wordBytes (w : Word) : bytesWord (wordBytes w) = w := by
  apply BitVec.eq_of_toNat_eq
  have hw : w.toNat < 2 ^ 32 := w.isLt
  simp only [wordBytes, bytesWord, bits, BitVec.toNat_ofNat]
  omega

/-- The bytes of words give the words back. -/
theorem bytesWords_wordsBytes (ws : List Word) : bytesWords ws.length (wordsBytes ws) = ws := by
  induction ws with
  | nil => rfl
  | cons w ws ih =>
    have e : wordsBytes (w :: ws) = wordBytes w ++ wordsBytes ws := rfl
    simp only [List.length_cons, bytesWords, e]
    rw [List.take_left' (by simp), List.drop_left' (by simp), bytesWord_wordBytes, ih]

/-- The words just written read back. -/
theorem Memory.readWords_write (m : Memory) (a : Nat) (ws : List Word) :
    (m.write a (wordsBytes ws)).readWords a ws.length = ws := by
  have h := Memory.readBytes_write m a (wordsBytes ws)
  rw [wordsBytes_length] at h
  rw [Memory.readWords, h, bytesWords_wordsBytes]

end Sys2Proof.Machine
end

