-- ==== Sys2Proof/Laws/Frames.lean ====
section
/-! SUPPORT. What the shared operations leave alone: notices and latches, usage, chains, and the board path's operations on
the whole state. -/

namespace Sys2Proof.Machine

variable (f : Filing)

/-! ### pend -/

@[simp] theorem Filing.pend_boot (n : Notice) : (f.pend n).boot = f.boot := by
  unfold Filing.pend; split_ifs <;> rfl
@[simp] theorem Filing.pend_clock (n : Notice) : (f.pend n).clock = f.clock := by
  unfold Filing.pend; split_ifs <;> rfl
@[simp] theorem Filing.pend_blocks (n : Notice) : (f.pend n).blocks = f.blocks := by
  unfold Filing.pend; split_ifs <;> rfl
@[simp] theorem Filing.pend_scrubber (n : Notice) : (f.pend n).scrubber = f.scrubber := by
  unfold Filing.pend; split_ifs <;> rfl
@[simp] theorem Filing.pend_dir (n : Notice) : (f.pend n).dir = f.dir := by
  unfold Filing.pend; split_ifs <;> rfl
@[simp] theorem Filing.pend_channels (n : Notice) : (f.pend n).channels = f.channels := by
  unfold Filing.pend; split_ifs <;> rfl
@[simp] theorem Filing.pend_boxes (n : Notice) : (f.pend n).boxes = f.boxes := by
  unfold Filing.pend; split_ifs <;> rfl
@[simp] theorem Filing.pend_queue (n : Notice) : (f.pend n).queue = f.queue := by
  unfold Filing.pend; split_ifs <;> rfl
@[simp] theorem Filing.pend_bindings (n : Notice) : (f.pend n).bindings = f.bindings := by
  unfold Filing.pend; split_ifs <;> rfl
@[simp] theorem Filing.pend_posting (n : Notice) : (f.pend n).posting = f.posting := by
  unfold Filing.pend; split_ifs <;> rfl
@[simp] theorem Filing.pend_monitors (n : Notice) : (f.pend n).monitors = f.monitors := by
  unfold Filing.pend; split_ifs <;> rfl

/-! ### raise -/

@[simp] theorem Filing.raise_boot (k : NoticeKind) (d : Option Nat) (i : KeyItem) (c : Nat) (a : List Word) : (f.raise k d i c a).boot = f.boot := by
  unfold Filing.raise; dsimp only; split_ifs <;> simp
@[simp] theorem Filing.raise_clock (k : NoticeKind) (d : Option Nat) (i : KeyItem) (c : Nat) (a : List Word) : (f.raise k d i c a).clock = f.clock := by
  unfold Filing.raise; dsimp only; split_ifs <;> simp
@[simp] theorem Filing.raise_blocks (k : NoticeKind) (d : Option Nat) (i : KeyItem) (c : Nat) (a : List Word) : (f.raise k d i c a).blocks = f.blocks := by
  unfold Filing.raise; dsimp only; split_ifs <;> simp
@[simp] theorem Filing.raise_scrubber (k : NoticeKind) (d : Option Nat) (i : KeyItem) (c : Nat) (a : List Word) : (f.raise k d i c a).scrubber = f.scrubber := by
  unfold Filing.raise; dsimp only; split_ifs <;> simp
@[simp] theorem Filing.raise_dir (k : NoticeKind) (d : Option Nat) (i : KeyItem) (c : Nat) (a : List Word) : (f.raise k d i c a).dir = f.dir := by
  unfold Filing.raise; dsimp only; split_ifs <;> simp
@[simp] theorem Filing.raise_channels (k : NoticeKind) (d : Option Nat) (i : KeyItem) (c : Nat) (a : List Word) : (f.raise k d i c a).channels = f.channels := by
  unfold Filing.raise; dsimp only; split_ifs <;> simp
@[simp] theorem Filing.raise_boxes (k : NoticeKind) (d : Option Nat) (i : KeyItem) (c : Nat) (a : List Word) : (f.raise k d i c a).boxes = f.boxes := by
  unfold Filing.raise; dsimp only; split_ifs <;> simp
@[simp] theorem Filing.raise_queue (k : NoticeKind) (d : Option Nat) (i : KeyItem) (c : Nat) (a : List Word) : (f.raise k d i c a).queue = f.queue := by
  unfold Filing.raise; dsimp only; split_ifs <;> simp
@[simp] theorem Filing.raise_bindings (k : NoticeKind) (d : Option Nat) (i : KeyItem) (c : Nat) (a : List Word) : (f.raise k d i c a).bindings = f.bindings := by
  unfold Filing.raise; dsimp only; split_ifs <;> simp
@[simp] theorem Filing.raise_posting (k : NoticeKind) (d : Option Nat) (i : KeyItem) (c : Nat) (a : List Word) : (f.raise k d i c a).posting = f.posting := by
  unfold Filing.raise; dsimp only; split_ifs <;> simp
@[simp] theorem Filing.raise_monitors (k : NoticeKind) (d : Option Nat) (i : KeyItem) (c : Nat) (a : List Word) : (f.raise k d i c a).monitors = f.monitors := by
  unfold Filing.raise; dsimp only; split_ifs <;> simp

/-! ### latch -/

@[simp] theorem Filing.latch_boot (e : LatchEvent) : (f.latch e).boot = f.boot := by
  unfold Filing.latch; split_ifs <;> simp [Filing.raiseStoreLow, Filing.raiseFault]
@[simp] theorem Filing.latch_clock (e : LatchEvent) : (f.latch e).clock = f.clock := by
  unfold Filing.latch; split_ifs <;> simp [Filing.raiseStoreLow, Filing.raiseFault]
@[simp] theorem Filing.latch_blocks (e : LatchEvent) : (f.latch e).blocks = f.blocks := by
  unfold Filing.latch; split_ifs <;> simp [Filing.raiseStoreLow, Filing.raiseFault]
@[simp] theorem Filing.latch_scrubber (e : LatchEvent) : (f.latch e).scrubber = f.scrubber := by
  unfold Filing.latch; split_ifs <;> simp [Filing.raiseStoreLow, Filing.raiseFault]
@[simp] theorem Filing.latch_dir (e : LatchEvent) : (f.latch e).dir = f.dir := by
  unfold Filing.latch; split_ifs <;> simp [Filing.raiseStoreLow, Filing.raiseFault]
@[simp] theorem Filing.latch_channels (e : LatchEvent) : (f.latch e).channels = f.channels := by
  unfold Filing.latch; split_ifs <;> simp [Filing.raiseStoreLow, Filing.raiseFault]
@[simp] theorem Filing.latch_boxes (e : LatchEvent) : (f.latch e).boxes = f.boxes := by
  unfold Filing.latch; split_ifs <;> simp [Filing.raiseStoreLow, Filing.raiseFault]
@[simp] theorem Filing.latch_queue (e : LatchEvent) : (f.latch e).queue = f.queue := by
  unfold Filing.latch; split_ifs <;> simp [Filing.raiseStoreLow, Filing.raiseFault]
@[simp] theorem Filing.latch_bindings (e : LatchEvent) : (f.latch e).bindings = f.bindings := by
  unfold Filing.latch; split_ifs <;> simp [Filing.raiseStoreLow, Filing.raiseFault]
@[simp] theorem Filing.latch_posting (e : LatchEvent) : (f.latch e).posting = f.posting := by
  unfold Filing.latch; split_ifs <;> simp [Filing.raiseStoreLow, Filing.raiseFault]

/-! ### evalOver -/

@[simp] theorem Filing.evalOver_boot (m : Nat) : (f.evalOver m).boot = f.boot := by
  unfold Filing.evalOver; dsimp only; split_ifs <;> simp
@[simp] theorem Filing.evalOver_clock (m : Nat) : (f.evalOver m).clock = f.clock := by
  unfold Filing.evalOver; dsimp only; split_ifs <;> simp
@[simp] theorem Filing.evalOver_blocks (m : Nat) : (f.evalOver m).blocks = f.blocks := by
  unfold Filing.evalOver; dsimp only; split_ifs <;> simp
@[simp] theorem Filing.evalOver_scrubber (m : Nat) : (f.evalOver m).scrubber = f.scrubber := by
  unfold Filing.evalOver; dsimp only; split_ifs <;> simp
@[simp] theorem Filing.evalOver_dir (m : Nat) : (f.evalOver m).dir = f.dir := by
  unfold Filing.evalOver; dsimp only; split_ifs <;> simp
@[simp] theorem Filing.evalOver_channels (m : Nat) : (f.evalOver m).channels = f.channels := by
  unfold Filing.evalOver; dsimp only; split_ifs <;> simp
@[simp] theorem Filing.evalOver_queue (m : Nat) : (f.evalOver m).queue = f.queue := by
  unfold Filing.evalOver; dsimp only; split_ifs <;> simp
@[simp] theorem Filing.evalOver_bindings (m : Nat) : (f.evalOver m).bindings = f.bindings := by
  unfold Filing.evalOver; dsimp only; split_ifs <;> simp
@[simp] theorem Filing.evalOver_posting (m : Nat) : (f.evalOver m).posting = f.posting := by
  unfold Filing.evalOver; dsimp only; split_ifs <;> simp

/-! ### setUsage -/

@[simp] theorem Filing.setUsage_boot (m u : Nat) : (f.setUsage m u).boot = f.boot := by
  simp [Filing.setUsage]
@[simp] theorem Filing.setUsage_clock (m u : Nat) : (f.setUsage m u).clock = f.clock := by
  simp [Filing.setUsage]
@[simp] theorem Filing.setUsage_blocks (m u : Nat) : (f.setUsage m u).blocks = f.blocks := by
  simp [Filing.setUsage]
@[simp] theorem Filing.setUsage_scrubber (m u : Nat) : (f.setUsage m u).scrubber = f.scrubber := by
  simp [Filing.setUsage]
@[simp] theorem Filing.setUsage_dir (m u : Nat) : (f.setUsage m u).dir = f.dir := by
  simp [Filing.setUsage]
@[simp] theorem Filing.setUsage_channels (m u : Nat) : (f.setUsage m u).channels = f.channels := by
  simp [Filing.setUsage]
@[simp] theorem Filing.setUsage_queue (m u : Nat) : (f.setUsage m u).queue = f.queue := by
  simp [Filing.setUsage]
@[simp] theorem Filing.setUsage_bindings (m u : Nat) : (f.setUsage m u).bindings = f.bindings := by
  simp [Filing.setUsage]
@[simp] theorem Filing.setUsage_posting (m u : Nat) : (f.setUsage m u).posting = f.posting := by
  simp [Filing.setUsage]

/-! ### returnUsage -/

@[simp] theorem Filing.returnUsage_boot (m n : Nat) : (f.returnUsage m n).boot = f.boot := by
  unfold Filing.returnUsage; split_ifs <;> simp
@[simp] theorem Filing.returnUsage_clock (m n : Nat) : (f.returnUsage m n).clock = f.clock := by
  unfold Filing.returnUsage; split_ifs <;> simp
@[simp] theorem Filing.returnUsage_blocks (m n : Nat) : (f.returnUsage m n).blocks = f.blocks := by
  unfold Filing.returnUsage; split_ifs <;> simp
@[simp] theorem Filing.returnUsage_scrubber (m n : Nat) : (f.returnUsage m n).scrubber = f.scrubber := by
  unfold Filing.returnUsage; split_ifs <;> simp
@[simp] theorem Filing.returnUsage_dir (m n : Nat) : (f.returnUsage m n).dir = f.dir := by
  unfold Filing.returnUsage; split_ifs <;> simp
@[simp] theorem Filing.returnUsage_channels (m n : Nat) : (f.returnUsage m n).channels = f.channels := by
  unfold Filing.returnUsage; split_ifs <;> simp
@[simp] theorem Filing.returnUsage_queue (m n : Nat) : (f.returnUsage m n).queue = f.queue := by
  unfold Filing.returnUsage; split_ifs <;> simp
@[simp] theorem Filing.returnUsage_bindings (m n : Nat) : (f.returnUsage m n).bindings = f.bindings := by
  unfold Filing.returnUsage; split_ifs <;> simp
@[simp] theorem Filing.returnUsage_posting (m n : Nat) : (f.returnUsage m n).posting = f.posting := by
  unfold Filing.returnUsage; split_ifs <;> simp

/-! ### freeChanged -/

@[simp] theorem Filing.freeChanged_boot (n : Nat) : (f.freeChanged n).boot = f.boot := by
  unfold Filing.freeChanged; dsimp only; split_ifs <;> simp [Filing.latchLow]
@[simp] theorem Filing.freeChanged_clock (n : Nat) : (f.freeChanged n).clock = f.clock := by
  unfold Filing.freeChanged; dsimp only; split_ifs <;> simp [Filing.latchLow]
@[simp] theorem Filing.freeChanged_blocks (n : Nat) : (f.freeChanged n).blocks = f.blocks := by
  unfold Filing.freeChanged; dsimp only; split_ifs <;> simp [Filing.latchLow]
@[simp] theorem Filing.freeChanged_scrubber (n : Nat) : (f.freeChanged n).scrubber = f.scrubber := by
  unfold Filing.freeChanged; dsimp only; split_ifs <;> simp [Filing.latchLow]
@[simp] theorem Filing.freeChanged_dir (n : Nat) : (f.freeChanged n).dir = f.dir := by
  unfold Filing.freeChanged; dsimp only; split_ifs <;> simp [Filing.latchLow]
@[simp] theorem Filing.freeChanged_channels (n : Nat) : (f.freeChanged n).channels = f.channels := by
  unfold Filing.freeChanged; dsimp only; split_ifs <;> simp [Filing.latchLow]
@[simp] theorem Filing.freeChanged_boxes (n : Nat) : (f.freeChanged n).boxes = f.boxes := by
  unfold Filing.freeChanged; dsimp only; split_ifs <;> simp [Filing.latchLow]
@[simp] theorem Filing.freeChanged_queue (n : Nat) : (f.freeChanged n).queue = f.queue := by
  unfold Filing.freeChanged; dsimp only; split_ifs <;> simp [Filing.latchLow]
@[simp] theorem Filing.freeChanged_bindings (n : Nat) : (f.freeChanged n).bindings = f.bindings := by
  unfold Filing.freeChanged; dsimp only; split_ifs <;> simp [Filing.latchLow]
@[simp] theorem Filing.freeChanged_posting (n : Nat) : (f.freeChanged n).posting = f.posting := by
  unfold Filing.freeChanged; dsimp only; split_ifs <;> simp [Filing.latchLow]

/-! ### changeDoc -/

@[simp] theorem Filing.changeDoc_boot (s : Nat) (d : Doc) : (f.changeDoc s d).boot = f.boot := by
  unfold Filing.changeDoc; split_ifs <;> simp
@[simp] theorem Filing.changeDoc_clock (s : Nat) (d : Doc) : (f.changeDoc s d).clock = f.clock := by
  unfold Filing.changeDoc; split_ifs <;> simp
@[simp] theorem Filing.changeDoc_blocks (s : Nat) (d : Doc) : (f.changeDoc s d).blocks = f.blocks := by
  unfold Filing.changeDoc; split_ifs <;> simp
@[simp] theorem Filing.changeDoc_scrubber (s : Nat) (d : Doc) : (f.changeDoc s d).scrubber = f.scrubber := by
  unfold Filing.changeDoc; split_ifs <;> simp
@[simp] theorem Filing.changeDoc_channels (s : Nat) (d : Doc) : (f.changeDoc s d).channels = f.channels := by
  unfold Filing.changeDoc; split_ifs <;> simp
@[simp] theorem Filing.changeDoc_boxes (s : Nat) (d : Doc) : (f.changeDoc s d).boxes = f.boxes := by
  unfold Filing.changeDoc; split_ifs <;> simp
@[simp] theorem Filing.changeDoc_queue (s : Nat) (d : Doc) : (f.changeDoc s d).queue = f.queue := by
  unfold Filing.changeDoc; split_ifs <;> simp
@[simp] theorem Filing.changeDoc_bindings (s : Nat) (d : Doc) : (f.changeDoc s d).bindings = f.bindings := by
  unfold Filing.changeDoc; split_ifs <;> simp
@[simp] theorem Filing.changeDoc_posting (s : Nat) (d : Doc) : (f.changeDoc s d).posting = f.posting := by
  unfold Filing.changeDoc; split_ifs <;> simp
@[simp] theorem Filing.changeDoc_ring (s : Nat) (d : Doc) : (f.changeDoc s d).ring = f.ring := by
  unfold Filing.changeDoc; split_ifs <;> simp
@[simp] theorem Filing.changeDoc_monitors (s : Nat) (d : Doc) : (f.changeDoc s d).monitors = f.monitors := by
  unfold Filing.changeDoc; split_ifs <;> simp

/-! ### changePage -/

@[simp] theorem Filing.changePage_boot (p : Nat) (g : Page) : (f.changePage p g).boot = f.boot := by
  unfold Filing.changePage; split_ifs <;> simp
@[simp] theorem Filing.changePage_clock (p : Nat) (g : Page) : (f.changePage p g).clock = f.clock := by
  unfold Filing.changePage; split_ifs <;> simp
@[simp] theorem Filing.changePage_blocks (p : Nat) (g : Page) : (f.changePage p g).blocks = f.blocks := by
  unfold Filing.changePage; split_ifs <;> simp
@[simp] theorem Filing.changePage_scrubber (p : Nat) (g : Page) : (f.changePage p g).scrubber = f.scrubber := by
  unfold Filing.changePage; split_ifs <;> simp
@[simp] theorem Filing.changePage_channels (p : Nat) (g : Page) : (f.changePage p g).channels = f.channels := by
  unfold Filing.changePage; split_ifs <;> simp
@[simp] theorem Filing.changePage_boxes (p : Nat) (g : Page) : (f.changePage p g).boxes = f.boxes := by
  unfold Filing.changePage; split_ifs <;> simp
@[simp] theorem Filing.changePage_queue (p : Nat) (g : Page) : (f.changePage p g).queue = f.queue := by
  unfold Filing.changePage; split_ifs <;> simp
@[simp] theorem Filing.changePage_bindings (p : Nat) (g : Page) : (f.changePage p g).bindings = f.bindings := by
  unfold Filing.changePage; split_ifs <;> simp
@[simp] theorem Filing.changePage_posting (p : Nat) (g : Page) : (f.changePage p g).posting = f.posting := by
  unfold Filing.changePage; split_ifs <;> simp
@[simp] theorem Filing.changePage_ring (p : Nat) (g : Page) : (f.changePage p g).ring = f.ring := by
  unfold Filing.changePage; split_ifs <;> simp
@[simp] theorem Filing.changePage_monitors (p : Nat) (g : Page) : (f.changePage p g).monitors = f.monitors := by
  unfold Filing.changePage; split_ifs <;> simp

/-! ### changeChan -/

@[simp] theorem Filing.changeChan_boot (c : Nat) (ch : Channel) : (f.changeChan c ch).boot = f.boot := by
  unfold Filing.changeChan; split_ifs <;> simp
@[simp] theorem Filing.changeChan_clock (c : Nat) (ch : Channel) : (f.changeChan c ch).clock = f.clock := by
  unfold Filing.changeChan; split_ifs <;> simp
@[simp] theorem Filing.changeChan_blocks (c : Nat) (ch : Channel) : (f.changeChan c ch).blocks = f.blocks := by
  unfold Filing.changeChan; split_ifs <;> simp
@[simp] theorem Filing.changeChan_scrubber (c : Nat) (ch : Channel) : (f.changeChan c ch).scrubber = f.scrubber := by
  unfold Filing.changeChan; split_ifs <;> simp
@[simp] theorem Filing.changeChan_dir (c : Nat) (ch : Channel) : (f.changeChan c ch).dir = f.dir := by
  unfold Filing.changeChan; split_ifs <;> simp
@[simp] theorem Filing.changeChan_boxes (c : Nat) (ch : Channel) : (f.changeChan c ch).boxes = f.boxes := by
  unfold Filing.changeChan; split_ifs <;> simp
@[simp] theorem Filing.changeChan_queue (c : Nat) (ch : Channel) : (f.changeChan c ch).queue = f.queue := by
  unfold Filing.changeChan; split_ifs <;> simp
@[simp] theorem Filing.changeChan_bindings (c : Nat) (ch : Channel) : (f.changeChan c ch).bindings = f.bindings := by
  unfold Filing.changeChan; split_ifs <;> simp
@[simp] theorem Filing.changeChan_posting (c : Nat) (ch : Channel) : (f.changeChan c ch).posting = f.posting := by
  unfold Filing.changeChan; split_ifs <;> simp
@[simp] theorem Filing.changeChan_ring (c : Nat) (ch : Channel) : (f.changeChan c ch).ring = f.ring := by
  unfold Filing.changeChan; split_ifs <;> simp
@[simp] theorem Filing.changeChan_monitors (c : Nat) (ch : Channel) : (f.changeChan c ch).monitors = f.monitors := by
  unfold Filing.changeChan; split_ifs <;> simp

/-! ### reportFault -/

@[simp] theorem Filing.reportFault_boot (c : Nat) (m : Monitor) (d : Word) : (f.reportFault c m d).boot = f.boot := by
  unfold Filing.reportFault; split_ifs <;> simp
@[simp] theorem Filing.reportFault_clock (c : Nat) (m : Monitor) (d : Word) : (f.reportFault c m d).clock = f.clock := by
  unfold Filing.reportFault; split_ifs <;> simp
@[simp] theorem Filing.reportFault_blocks (c : Nat) (m : Monitor) (d : Word) : (f.reportFault c m d).blocks = f.blocks := by
  unfold Filing.reportFault; split_ifs <;> simp
@[simp] theorem Filing.reportFault_scrubber (c : Nat) (m : Monitor) (d : Word) : (f.reportFault c m d).scrubber = f.scrubber := by
  unfold Filing.reportFault; split_ifs <;> simp
@[simp] theorem Filing.reportFault_dir (c : Nat) (m : Monitor) (d : Word) : (f.reportFault c m d).dir = f.dir := by
  unfold Filing.reportFault; split_ifs <;> simp
@[simp] theorem Filing.reportFault_boxes (c : Nat) (m : Monitor) (d : Word) : (f.reportFault c m d).boxes = f.boxes := by
  unfold Filing.reportFault; split_ifs <;> simp
@[simp] theorem Filing.reportFault_queue (c : Nat) (m : Monitor) (d : Word) : (f.reportFault c m d).queue = f.queue := by
  unfold Filing.reportFault; split_ifs <;> simp
@[simp] theorem Filing.reportFault_bindings (c : Nat) (m : Monitor) (d : Word) : (f.reportFault c m d).bindings = f.bindings := by
  unfold Filing.reportFault; split_ifs <;> simp
@[simp] theorem Filing.reportFault_posting (c : Nat) (m : Monitor) (d : Word) : (f.reportFault c m d).posting = f.posting := by
  unfold Filing.reportFault; split_ifs <;> simp

/-! ### stray -/

@[simp] theorem Filing.stray_boot (c : Nat) (p : StrayPart) : (f.stray c p).boot = f.boot := by
  simp [Filing.stray]
@[simp] theorem Filing.stray_clock (c : Nat) (p : StrayPart) : (f.stray c p).clock = f.clock := by
  simp [Filing.stray]
@[simp] theorem Filing.stray_blocks (c : Nat) (p : StrayPart) : (f.stray c p).blocks = f.blocks := by
  simp [Filing.stray]
@[simp] theorem Filing.stray_scrubber (c : Nat) (p : StrayPart) : (f.stray c p).scrubber = f.scrubber := by
  simp [Filing.stray]
@[simp] theorem Filing.stray_dir (c : Nat) (p : StrayPart) : (f.stray c p).dir = f.dir := by
  simp [Filing.stray]
@[simp] theorem Filing.stray_boxes (c : Nat) (p : StrayPart) : (f.stray c p).boxes = f.boxes := by
  simp [Filing.stray]
@[simp] theorem Filing.stray_queue (c : Nat) (p : StrayPart) : (f.stray c p).queue = f.queue := by
  simp [Filing.stray]
@[simp] theorem Filing.stray_bindings (c : Nat) (p : StrayPart) : (f.stray c p).bindings = f.bindings := by
  simp [Filing.stray]
@[simp] theorem Filing.stray_posting (c : Nat) (p : StrayPart) : (f.stray c p).posting = f.posting := by
  simp [Filing.stray]

/-! ### latchProtection -/

@[simp] theorem Filing.latchProtection_boot (m : BitVec 5) (c : AddrClass) : (f.latchProtection m c).boot = f.boot := by
  simp [Filing.latchProtection]
@[simp] theorem Filing.latchProtection_clock (m : BitVec 5) (c : AddrClass) : (f.latchProtection m c).clock = f.clock := by
  simp [Filing.latchProtection]
@[simp] theorem Filing.latchProtection_blocks (m : BitVec 5) (c : AddrClass) : (f.latchProtection m c).blocks = f.blocks := by
  simp [Filing.latchProtection]
@[simp] theorem Filing.latchProtection_scrubber (m : BitVec 5) (c : AddrClass) : (f.latchProtection m c).scrubber = f.scrubber := by
  simp [Filing.latchProtection]
@[simp] theorem Filing.latchProtection_dir (m : BitVec 5) (c : AddrClass) : (f.latchProtection m c).dir = f.dir := by
  simp [Filing.latchProtection]
@[simp] theorem Filing.latchProtection_channels (m : BitVec 5) (c : AddrClass) : (f.latchProtection m c).channels = f.channels := by
  simp [Filing.latchProtection]
@[simp] theorem Filing.latchProtection_boxes (m : BitVec 5) (c : AddrClass) : (f.latchProtection m c).boxes = f.boxes := by
  simp [Filing.latchProtection]
@[simp] theorem Filing.latchProtection_queue (m : BitVec 5) (c : AddrClass) : (f.latchProtection m c).queue = f.queue := by
  simp [Filing.latchProtection]
@[simp] theorem Filing.latchProtection_bindings (m : BitVec 5) (c : AddrClass) : (f.latchProtection m c).bindings = f.bindings := by
  simp [Filing.latchProtection]
@[simp] theorem Filing.latchProtection_posting (m : BitVec 5) (c : AddrClass) : (f.latchProtection m c).posting = f.posting := by
  simp [Filing.latchProtection]

/-! ### demand -/

@[simp] theorem Filing.demand_boot (r : RecordId) : (f.demand r).boot = f.boot := by
  unfold Filing.demand; split_ifs <;> rfl
@[simp] theorem Filing.demand_clock (r : RecordId) : (f.demand r).clock = f.clock := by
  unfold Filing.demand; split_ifs <;> rfl
@[simp] theorem Filing.demand_blocks (r : RecordId) : (f.demand r).blocks = f.blocks := by
  unfold Filing.demand; split_ifs <;> rfl
@[simp] theorem Filing.demand_scrubber (r : RecordId) : (f.demand r).scrubber = f.scrubber := by
  unfold Filing.demand; split_ifs <;> rfl
@[simp] theorem Filing.demand_dir (r : RecordId) : (f.demand r).dir = f.dir := by
  unfold Filing.demand; split_ifs <;> rfl
@[simp] theorem Filing.demand_channels (r : RecordId) : (f.demand r).channels = f.channels := by
  unfold Filing.demand; split_ifs <;> rfl
@[simp] theorem Filing.demand_boxes (r : RecordId) : (f.demand r).boxes = f.boxes := by
  unfold Filing.demand; split_ifs <;> rfl
@[simp] theorem Filing.demand_queue (r : RecordId) : (f.demand r).queue = f.queue := by
  unfold Filing.demand; split_ifs <;> rfl
@[simp] theorem Filing.demand_bindings (r : RecordId) : (f.demand r).bindings = f.bindings := by
  unfold Filing.demand; split_ifs <;> rfl
@[simp] theorem Filing.demand_posting (r : RecordId) : (f.demand r).posting = f.posting := by
  unfold Filing.demand; split_ifs <;> rfl
@[simp] theorem Filing.demand_ring (r : RecordId) : (f.demand r).ring = f.ring := by
  unfold Filing.demand; split_ifs <;> rfl
@[simp] theorem Filing.demand_monitors (r : RecordId) : (f.demand r).monitors = f.monitors := by
  unfold Filing.demand; split_ifs <;> rfl

/-! ### forwardServed -/

@[simp] theorem Filing.forwardServed_boot (c : Nat) : (f.forwardServed c).boot = f.boot := by
  unfold Filing.forwardServed; dsimp only; split_ifs <;> rfl
@[simp] theorem Filing.forwardServed_clock (c : Nat) : (f.forwardServed c).clock = f.clock := by
  unfold Filing.forwardServed; dsimp only; split_ifs <;> rfl
@[simp] theorem Filing.forwardServed_blocks (c : Nat) : (f.forwardServed c).blocks = f.blocks := by
  unfold Filing.forwardServed; dsimp only; split_ifs <;> rfl
@[simp] theorem Filing.forwardServed_scrubber (c : Nat) : (f.forwardServed c).scrubber = f.scrubber := by
  unfold Filing.forwardServed; dsimp only; split_ifs <;> rfl
@[simp] theorem Filing.forwardServed_dir (c : Nat) : (f.forwardServed c).dir = f.dir := by
  unfold Filing.forwardServed; dsimp only; split_ifs <;> rfl
@[simp] theorem Filing.forwardServed_boxes (c : Nat) : (f.forwardServed c).boxes = f.boxes := by
  unfold Filing.forwardServed; dsimp only; split_ifs <;> rfl
@[simp] theorem Filing.forwardServed_queue (c : Nat) : (f.forwardServed c).queue = f.queue := by
  unfold Filing.forwardServed; dsimp only; split_ifs <;> rfl
@[simp] theorem Filing.forwardServed_bindings (c : Nat) : (f.forwardServed c).bindings = f.bindings := by
  unfold Filing.forwardServed; dsimp only; split_ifs <;> rfl
@[simp] theorem Filing.forwardServed_posting (c : Nat) : (f.forwardServed c).posting = f.posting := by
  unfold Filing.forwardServed; dsimp only; split_ifs <;> rfl
@[simp] theorem Filing.forwardServed_ring (c : Nat) : (f.forwardServed c).ring = f.ring := by
  unfold Filing.forwardServed; dsimp only; split_ifs <;> rfl
@[simp] theorem Filing.forwardServed_mirror (c : Nat) : (f.forwardServed c).mirror = f.mirror := by
  unfold Filing.forwardServed; dsimp only; split_ifs <;> rfl
@[simp] theorem Filing.forwardServed_monitors (c : Nat) : (f.forwardServed c).monitors = f.monitors := by
  unfold Filing.forwardServed; dsimp only; split_ifs <;> rfl

/-! ### Reading a record after it is set -/

@[simp] theorem Filing.doc_setDoc (s : Nat) (d : Doc) : (f.setDoc s d).doc s = d := by
  simp [Filing.doc, Filing.setDoc, Tbl.find_put_self]
@[simp] theorem Filing.page_setPage (p : Nat) (g : Page) : (f.setPage p g).page p = g := by
  simp [Filing.page, Filing.setPage, Tbl.find_put_self]
@[simp] theorem Filing.chan_setChan (c : Nat) (ch : Channel) : (f.setChan c ch).chan c = ch := by
  simp [Filing.chan, Filing.setChan, Tbl.find_put_self]
@[simp] theorem Filing.mailbox_setBox (m : Nat) (b : Mailbox) : (f.setBox m b).mailbox m = b := by
  simp [Filing.mailbox, Filing.setBox, Tbl.find_put_self]
@[simp] theorem Filing.route_setRoute (e : Nat) (r : Option Route) : (f.setRoute e r).route e = r := by
  simp [Filing.route, Filing.setRoute, Tbl.find_put_self]
@[simp] theorem Filing.block_setBlock (n : Nat) (b : BlockEntry) : (f.setBlock n b).block n = b := by
  simp [Filing.block, Filing.setBlock, Tbl.find_put_self]
@[simp] theorem Filing.slot_setSlot (s : Nat) (x : Slot) : (f.setSlot s x).slot s = x := by
  simp [Filing.slot, Filing.setSlot, Tbl.find_put_self]

theorem Filing.doc_setDoc_ne {s t : Nat} (d : Doc) (h : t ≠ s) : (f.setDoc s d).doc t = f.doc t := by
  simp [Filing.doc, Filing.setDoc, Tbl.find_put_ne _ _ h]
theorem Filing.page_setPage_ne {p q : Nat} (g : Page) (h : q ≠ p) : (f.setPage p g).page q = f.page q := by
  simp [Filing.page, Filing.setPage, Tbl.find_put_ne _ _ h]
theorem Filing.chan_setChan_ne {c e : Nat} (ch : Channel) (h : e ≠ c) : (f.setChan c ch).chan e = f.chan e := by
  simp [Filing.chan, Filing.setChan, Tbl.find_put_ne _ _ h]
theorem Filing.mailbox_setBox_ne {m n : Nat} (b : Mailbox) (h : n ≠ m) : (f.setBox m b).mailbox n = f.mailbox n := by
  simp [Filing.mailbox, Filing.setBox, Tbl.find_put_ne _ _ h]
theorem Filing.route_setRoute_ne {e x : Nat} (r : Option Route) (h : x ≠ e) : (f.setRoute e r).route x = f.route x := by
  simp [Filing.route, Filing.setRoute, Tbl.find_put_ne _ _ h]
theorem Filing.block_setBlock_ne {n k : Nat} (b : BlockEntry) (h : k ≠ n) : (f.setBlock n b).block k = f.block k := by
  simp [Filing.block, Filing.setBlock, Tbl.find_put_ne _ _ h]
theorem Filing.slot_setSlot_ne {s t : Nat} (x : Slot) (h : t ≠ s) : (f.setSlot s x).slot t = f.slot t := by
  simp [Filing.slot, Filing.setSlot, Tbl.find_put_ne _ _ h]

@[simp] theorem Filing.doc_changeDoc (s : Nat) (d : Doc) : (f.changeDoc s d).doc s = d := by
  unfold Filing.changeDoc; split_ifs with h
  · exact h.symm
  · simp [Filing.doc, Filing.setDoc, Tbl.find_put_self]
@[simp] theorem Filing.page_changePage (p : Nat) (g : Page) : (f.changePage p g).page p = g := by
  unfold Filing.changePage; split_ifs with h
  · exact h.symm
  · simp [Filing.page, Filing.setPage, Tbl.find_put_self]
@[simp] theorem Filing.chan_changeChan (c : Nat) (ch : Channel) : (f.changeChan c ch).chan c = ch := by
  unfold Filing.changeChan; split_ifs with h
  · exact h.symm
  · simp [Filing.chan, Filing.setChan, Tbl.find_put_self]

theorem Filing.doc_changeDoc_ne {s t : Nat} (d : Doc) (h : t ≠ s) : (f.changeDoc s d).doc t = f.doc t := by
  unfold Filing.changeDoc; split_ifs <;> simp [Filing.doc, Filing.setDoc, Tbl.find_put_ne _ _ h]
theorem Filing.page_changePage_ne {p q : Nat} (g : Page) (h : q ≠ p) : (f.changePage p g).page q = f.page q := by
  unfold Filing.changePage; split_ifs <;> simp [Filing.page, Filing.setPage, Tbl.find_put_ne _ _ h]
theorem Filing.chan_changeChan_ne {c e : Nat} (ch : Channel) (h : e ≠ c) : (f.changeChan c ch).chan e = f.chan e := by
  unfold Filing.changeChan; split_ifs <;> simp [Filing.chan, Filing.setChan, Tbl.find_put_ne _ _ h]

/-! ### Dirty marks -/

/-- A record just marked is dirty. -/
@[simp] theorem Filing.mark_dirty (r : RecordId) : (f.mark r).dirty r = true := by
  unfold Filing.dirty Filing.mark; dsimp only; split_ifs <;> simp_all

/-- A mark makes no other record dirty but the layout header, whose clean flag it clears, and none clean (R187). -/
theorem Filing.mark_dirty_ne {r q : RecordId} (h : q ≠ r) :
    (f.mark r).dirty q = (f.dirty q || (f.mirror.clean && q == .layoutHeader)) := by
  unfold Filing.dirty Filing.mark; dsimp only
  split_ifs <;> simp [h, Bool.and_or_distrib_right, Bool.or_assoc]

/-- A record that has left the flush list is clean, but for a layout header whose rewrite waits. -/
theorem Filing.unmark_dirty (r : RecordId) : (f.unmark r).dirty r = (f.mirror.rewrite && r == .layoutHeader) := by
  simp [Filing.dirty, Filing.unmark]

variable (s : State)

/-! ### readRecord -/

@[simp] theorem State.readRecord_queue (h : HeldRead) (r : RecordId) : (s.readRecord h r).board.queue = s.board.queue := by
  unfold State.readRecord; dsimp only; split_ifs <;> rfl
@[simp] theorem State.readRecord_head (h : HeldRead) (r : RecordId) : (s.readRecord h r).board.head = s.board.head := by
  unfold State.readRecord; dsimp only; split_ifs <;> rfl
@[simp] theorem State.readRecord_starve (h : HeldRead) (r : RecordId) : (s.readRecord h r).board.starve = s.board.starve := by
  unfold State.readRecord; dsimp only; split_ifs <;> rfl
@[simp] theorem State.readRecord_straps (h : HeldRead) (r : RecordId) : (s.readRecord h r).board.straps = s.board.straps := by
  unfold State.readRecord; dsimp only; split_ifs <;> rfl
@[simp] theorem State.readRecord_pwarn (h : HeldRead) (r : RecordId) : (s.readRecord h r).board.pwarn = s.board.pwarn := by
  unfold State.readRecord; dsimp only; split_ifs <;> rfl
@[simp] theorem State.readRecord_breset (h : HeldRead) (r : RecordId) : (s.readRecord h r).board.breset = s.board.breset := by
  unfold State.readRecord; dsimp only; split_ifs <;> rfl
@[simp] theorem State.readRecord_store (h : HeldRead) (r : RecordId) : (s.readRecord h r).store = s.store := by
  unfold State.readRecord; dsimp only; split_ifs <;> rfl
@[simp] theorem State.readRecord_pending (h : HeldRead) (r : RecordId) : (s.readRecord h r).pending = s.pending := by
  unfold State.readRecord; dsimp only; split_ifs <;> rfl

/-! ### decideRead -/

/-- What the owner of a read can decide: all ones after a halt, a mirrored record's read, the store bus, zero bytes. -/
theorem State.decideRead_cases (h : HeldRead) :
    s.decideRead h = { s with board := s.board.serveAll h.master h.addr h.width 0xFF } ∨
    (∃ r, s.decideRead h = s.readRecord h r) ∨ s.decideRead h = s.readStore h ∨
    (∃ c, s.decideRead h = s.forwardZero h c) ∨ s.decideRead h = s.reviewZero h := by
  unfold State.decideRead
  by_cases hh : s.haltedRead h = true
  · exact .inl (if_pos hh)
  · rw [if_neg hh]
    cases h.cls with
    | control z =>
      dsimp only
      split_ifs
      · cases recordAt s.filing.blockCount z with
        | none => exact .inr (.inr (.inl rfl))
        | some p => exact .inr (.inl ⟨_, rfl⟩)
      · exact .inr (.inr (.inl rfl))
    | forward c o =>
      dsimp only
      split_ifs
      · exact .inr (.inr (.inl rfl))
      · exact .inr (.inr (.inr (.inl ⟨c, rfl⟩)))
      · exact .inr (.inl ⟨_, rfl⟩)
    | review r o =>
      dsimp only
      split_ifs
      · exact .inr (.inr (.inl rfl))
      · exact .inr (.inr (.inr (.inr rfl)))
    | _ => exact .inr (.inr (.inl rfl))

@[simp] theorem State.decideRead_queue (h : HeldRead) : (s.decideRead h).board.queue = s.board.queue := by
  rcases s.decideRead_cases h with e | ⟨r, e⟩ | e | ⟨c, e⟩ | e <;> rw [e] <;> first | rfl | simp
@[simp] theorem State.decideRead_head (h : HeldRead) : (s.decideRead h).board.head = s.board.head := by
  rcases s.decideRead_cases h with e | ⟨r, e⟩ | e | ⟨c, e⟩ | e <;> rw [e] <;> first | rfl | simp
@[simp] theorem State.decideRead_starve (h : HeldRead) : (s.decideRead h).board.starve = s.board.starve := by
  rcases s.decideRead_cases h with e | ⟨r, e⟩ | e | ⟨c, e⟩ | e <;> rw [e] <;> first | rfl | simp
@[simp] theorem State.decideRead_straps (h : HeldRead) : (s.decideRead h).board.straps = s.board.straps := by
  rcases s.decideRead_cases h with e | ⟨r, e⟩ | e | ⟨c, e⟩ | e <;> rw [e] <;> first | rfl | simp
@[simp] theorem State.decideRead_pwarn (h : HeldRead) : (s.decideRead h).board.pwarn = s.board.pwarn := by
  rcases s.decideRead_cases h with e | ⟨r, e⟩ | e | ⟨c, e⟩ | e <;> rw [e] <;> first | rfl | simp
@[simp] theorem State.decideRead_breset (h : HeldRead) : (s.decideRead h).board.breset = s.board.breset := by
  rcases s.decideRead_cases h with e | ⟨r, e⟩ | e | ⟨c, e⟩ | e <;> rw [e] <;> first | rfl | simp
@[simp] theorem State.decideRead_store (h : HeldRead) : (s.decideRead h).store = s.store := by
  rcases s.decideRead_cases h with e | ⟨r, e⟩ | e | ⟨c, e⟩ | e <;> rw [e] <;> first | rfl | simp
@[simp] theorem State.decideRead_pending (h : HeldRead) : (s.decideRead h).pending = s.pending := by
  rcases s.decideRead_cases h with e | ⟨r, e⟩ | e | ⟨c, e⟩ | e <;> rw [e] <;> first | rfl | simp

/-! ### holdRead -/

@[simp] theorem State.holdRead_queue (h : HeldRead) : (s.holdRead h).board.queue = s.board.queue := by
  unfold State.holdRead; split_ifs <;> simp
@[simp] theorem State.holdRead_head (h : HeldRead) : (s.holdRead h).board.head = s.board.head := by
  unfold State.holdRead; split_ifs <;> simp
@[simp] theorem State.holdRead_starve (h : HeldRead) : (s.holdRead h).board.starve = s.board.starve := by
  unfold State.holdRead; split_ifs <;> simp
@[simp] theorem State.holdRead_straps (h : HeldRead) : (s.holdRead h).board.straps = s.board.straps := by
  unfold State.holdRead; split_ifs <;> simp
@[simp] theorem State.holdRead_pwarn (h : HeldRead) : (s.holdRead h).board.pwarn = s.board.pwarn := by
  unfold State.holdRead; split_ifs <;> simp
@[simp] theorem State.holdRead_breset (h : HeldRead) : (s.holdRead h).board.breset = s.board.breset := by
  unfold State.holdRead; split_ifs <;> simp
@[simp] theorem State.holdRead_store (h : HeldRead) : (s.holdRead h).store = s.store := by
  unfold State.holdRead; split_ifs <;> simp
@[simp] theorem State.holdRead_pending (h : HeldRead) : (s.holdRead h).pending = s.pending := by
  unfold State.holdRead; split_ifs <;> simp

/-! ### recheckRead -/

@[simp] theorem State.recheckRead_queue : (s.recheckRead).board.queue = s.board.queue := by
  unfold State.recheckRead; split <;> (try split_ifs) <;> simp
@[simp] theorem State.recheckRead_head : (s.recheckRead).board.head = s.board.head := by
  unfold State.recheckRead; split <;> (try split_ifs) <;> simp
@[simp] theorem State.recheckRead_starve : (s.recheckRead).board.starve = s.board.starve := by
  unfold State.recheckRead; split <;> (try split_ifs) <;> simp
@[simp] theorem State.recheckRead_straps : (s.recheckRead).board.straps = s.board.straps := by
  unfold State.recheckRead; split <;> (try split_ifs) <;> simp
@[simp] theorem State.recheckRead_pwarn : (s.recheckRead).board.pwarn = s.board.pwarn := by
  unfold State.recheckRead; split <;> (try split_ifs) <;> simp
@[simp] theorem State.recheckRead_breset : (s.recheckRead).board.breset = s.board.breset := by
  unfold State.recheckRead; split <;> (try split_ifs) <;> simp
@[simp] theorem State.recheckRead_store : (s.recheckRead).store = s.store := by
  unfold State.recheckRead; split <;> (try split_ifs) <;> simp
@[simp] theorem State.recheckRead_pending : (s.recheckRead).pending = s.pending := by
  unfold State.recheckRead; split <;> (try split_ifs) <;> simp

/-! ### wakeRead -/

@[simp] theorem State.wakeRead_queue (r : RecordId) : (s.wakeRead r).board.queue = s.board.queue := by
  unfold State.wakeRead; split <;> (try split_ifs) <;> rfl
@[simp] theorem State.wakeRead_head (r : RecordId) : (s.wakeRead r).board.head = s.board.head := by
  unfold State.wakeRead; split <;> (try split_ifs) <;> rfl
@[simp] theorem State.wakeRead_starve (r : RecordId) : (s.wakeRead r).board.starve = s.board.starve := by
  unfold State.wakeRead; split <;> (try split_ifs) <;> rfl
@[simp] theorem State.wakeRead_straps (r : RecordId) : (s.wakeRead r).board.straps = s.board.straps := by
  unfold State.wakeRead; split <;> (try split_ifs) <;> rfl
@[simp] theorem State.wakeRead_pwarn (r : RecordId) : (s.wakeRead r).board.pwarn = s.board.pwarn := by
  unfold State.wakeRead; split <;> (try split_ifs) <;> rfl
@[simp] theorem State.wakeRead_breset (r : RecordId) : (s.wakeRead r).board.breset = s.board.breset := by
  unfold State.wakeRead; split <;> (try split_ifs) <;> rfl
@[simp] theorem State.wakeRead_store (r : RecordId) : (s.wakeRead r).store = s.store := by
  unfold State.wakeRead; split <;> (try split_ifs) <;> rfl
@[simp] theorem State.wakeRead_pending (r : RecordId) : (s.wakeRead r).pending = s.pending := by
  unfold State.wakeRead; split <;> (try split_ifs) <;> rfl

/-! ### wakeScrub -/

@[simp] theorem State.wakeScrub_queue : (s.wakeScrub).board.queue = s.board.queue := by
  unfold State.wakeScrub; split <;> (try split_ifs) <;> rfl
@[simp] theorem State.wakeScrub_head : (s.wakeScrub).board.head = s.board.head := by
  unfold State.wakeScrub; split <;> (try split_ifs) <;> rfl
@[simp] theorem State.wakeScrub_starve : (s.wakeScrub).board.starve = s.board.starve := by
  unfold State.wakeScrub; split <;> (try split_ifs) <;> rfl
@[simp] theorem State.wakeScrub_straps : (s.wakeScrub).board.straps = s.board.straps := by
  unfold State.wakeScrub; split <;> (try split_ifs) <;> rfl
@[simp] theorem State.wakeScrub_pwarn : (s.wakeScrub).board.pwarn = s.board.pwarn := by
  unfold State.wakeScrub; split <;> (try split_ifs) <;> rfl
@[simp] theorem State.wakeScrub_breset : (s.wakeScrub).board.breset = s.board.breset := by
  unfold State.wakeScrub; split <;> (try split_ifs) <;> rfl
@[simp] theorem State.wakeScrub_store : (s.wakeScrub).store = s.store := by
  unfold State.wakeScrub; split <;> (try split_ifs) <;> rfl
@[simp] theorem State.wakeScrub_pending : (s.wakeScrub).pending = s.pending := by
  unfold State.wakeScrub; split <;> (try split_ifs) <;> rfl

/-! ### recordWritten -/

@[simp] theorem State.recordWritten_queue (r : RecordId) : (s.recordWritten r).board.queue = s.board.queue := by
  simp [State.recordWritten]
@[simp] theorem State.recordWritten_head (r : RecordId) : (s.recordWritten r).board.head = s.board.head := by
  simp [State.recordWritten]
@[simp] theorem State.recordWritten_starve (r : RecordId) : (s.recordWritten r).board.starve = s.board.starve := by
  simp [State.recordWritten]
@[simp] theorem State.recordWritten_straps (r : RecordId) : (s.recordWritten r).board.straps = s.board.straps := by
  simp [State.recordWritten]
@[simp] theorem State.recordWritten_pwarn (r : RecordId) : (s.recordWritten r).board.pwarn = s.board.pwarn := by
  simp [State.recordWritten]
@[simp] theorem State.recordWritten_breset (r : RecordId) : (s.recordWritten r).board.breset = s.board.breset := by
  simp [State.recordWritten]
@[simp] theorem State.recordWritten_store (r : RecordId) : (s.recordWritten r).store = s.store := by
  simp [State.recordWritten]
@[simp] theorem State.recordWritten_pending (r : RecordId) : (s.recordWritten r).pending = s.pending := by
  simp [State.recordWritten]

/-! ### leaveQueue and drained -/

@[simp] theorem State.leaveQueue_queue : s.leaveQueue.board.queue = s.board.queue.tail := by simp [State.leaveQueue]
@[simp] theorem State.leaveQueue_head : s.leaveQueue.board.head = none := by simp [State.leaveQueue]
@[simp] theorem State.leaveQueue_starve : s.leaveQueue.board.starve = s.board.starve := by simp [State.leaveQueue]
@[simp] theorem State.leaveQueue_straps : s.leaveQueue.board.straps = s.board.straps := by simp [State.leaveQueue]
@[simp] theorem State.leaveQueue_store : s.leaveQueue.store = s.store := by simp [State.leaveQueue]
@[simp] theorem State.leaveQueue_pending : s.leaveQueue.pending = s.pending := by simp [State.leaveQueue]

/-- A drain leaves both banks alone: its store write comes at its grant. -/
@[simp] theorem State.drained_store (d : Option Dest) (a : Option Nat) : (s.drained d a).store = s.store := by
  unfold State.drained; split <;> simp
@[simp] theorem State.drained_pending (d : Option Dest) (a : Option Nat) : (s.drained d a).pending = s.pending := by
  unfold State.drained; split <;> simp
@[simp] theorem State.drained_starve (d : Option Dest) (a : Option Nat) :
    (s.drained d a).board.starve = s.board.starve := by
  unfold State.drained; split <;> simp
/-- A drained write stays at the head while it has a store destination, and leaves the queue else. -/
theorem State.drained_queue (d : Option Dest) (a : Option Nat) :
    (s.drained d a).board.queue = if d.isSome then s.board.queue else s.board.queue.tail := by
  unfold State.drained; split <;> simp
theorem State.drained_head (d : Option Dest) (a : Option Nat) :
    (s.drained d a).board.head = d.map (fun x => { dest := x, ahead := a }) := by
  unfold State.drained; split <;> simp

end Sys2Proof.Machine
end

