-- ==== Sys2Proof/Laws/Access.lean ====
section
/-! SUPPORT. The records that an operation of the filing blocks leaves as they are, read through their accessors. -/

namespace Sys2Proof.Machine

variable (f : Filing)

/-! ### setDoc -/

@[simp] theorem Filing.setDoc_running (s : Nat) (d : Doc) : (f.setDoc s d).running = f.running := by simp [Filing.running]
@[simp] theorem Filing.setDoc_now (s : Nat) (d : Doc) : (f.setDoc s d).now = f.now := by simp [Filing.now]
@[simp] theorem Filing.setDoc_block (s : Nat) (d : Doc) (k : Nat) : (f.setDoc s d).block k = f.block k := by simp [Filing.block]
@[simp] theorem Filing.setDoc_chan (s : Nat) (d : Doc) (k : Nat) : (f.setDoc s d).chan k = f.chan k := by simp [Filing.chan]
@[simp] theorem Filing.setDoc_mailbox (s : Nat) (d : Doc) (k : Nat) : (f.setDoc s d).mailbox k = f.mailbox k := by simp [Filing.mailbox]
@[simp] theorem Filing.setDoc_route (s : Nat) (d : Doc) (k : Nat) : (f.setDoc s d).route k = f.route k := by simp [Filing.route]
@[simp] theorem Filing.setDoc_binding (s : Nat) (d : Doc) (k : Nat) : (f.setDoc s d).binding k = f.binding k := by simp [Filing.binding]
@[simp] theorem Filing.setDoc_slot (s : Nat) (d : Doc) (k : Nat) : (f.setDoc s d).slot k = f.slot k := by simp [Filing.slot]

/-! ### setPage -/

@[simp] theorem Filing.setPage_running (p : Nat) (g : Page) : (f.setPage p g).running = f.running := by simp [Filing.running]
@[simp] theorem Filing.setPage_now (p : Nat) (g : Page) : (f.setPage p g).now = f.now := by simp [Filing.now]
@[simp] theorem Filing.setPage_block (p : Nat) (g : Page) (k : Nat) : (f.setPage p g).block k = f.block k := by simp [Filing.block]
@[simp] theorem Filing.setPage_chan (p : Nat) (g : Page) (k : Nat) : (f.setPage p g).chan k = f.chan k := by simp [Filing.chan]
@[simp] theorem Filing.setPage_mailbox (p : Nat) (g : Page) (k : Nat) : (f.setPage p g).mailbox k = f.mailbox k := by simp [Filing.mailbox]
@[simp] theorem Filing.setPage_route (p : Nat) (g : Page) (k : Nat) : (f.setPage p g).route k = f.route k := by simp [Filing.route]
@[simp] theorem Filing.setPage_binding (p : Nat) (g : Page) (k : Nat) : (f.setPage p g).binding k = f.binding k := by simp [Filing.binding]
@[simp] theorem Filing.setPage_slot (p : Nat) (g : Page) (k : Nat) : (f.setPage p g).slot k = f.slot k := by simp [Filing.slot]

/-! ### setChan -/

@[simp] theorem Filing.setChan_running (c : Nat) (ch : Channel) : (f.setChan c ch).running = f.running := by simp [Filing.running]
@[simp] theorem Filing.setChan_now (c : Nat) (ch : Channel) : (f.setChan c ch).now = f.now := by simp [Filing.now]
@[simp] theorem Filing.setChan_block (c : Nat) (ch : Channel) (k : Nat) : (f.setChan c ch).block k = f.block k := by simp [Filing.block]
@[simp] theorem Filing.setChan_doc (c : Nat) (ch : Channel) (k : Nat) : (f.setChan c ch).doc k = f.doc k := by simp [Filing.doc]
@[simp] theorem Filing.setChan_page (c : Nat) (ch : Channel) (k : Nat) : (f.setChan c ch).page k = f.page k := by simp [Filing.page]
@[simp] theorem Filing.setChan_mailbox (c : Nat) (ch : Channel) (k : Nat) : (f.setChan c ch).mailbox k = f.mailbox k := by simp [Filing.mailbox]
@[simp] theorem Filing.setChan_route (c : Nat) (ch : Channel) (k : Nat) : (f.setChan c ch).route k = f.route k := by simp [Filing.route]
@[simp] theorem Filing.setChan_binding (c : Nat) (ch : Channel) (k : Nat) : (f.setChan c ch).binding k = f.binding k := by simp [Filing.binding]
@[simp] theorem Filing.setChan_slot (c : Nat) (ch : Channel) (k : Nat) : (f.setChan c ch).slot k = f.slot k := by simp [Filing.slot]

/-! ### setBox -/

@[simp] theorem Filing.setBox_running (m : Nat) (b : Mailbox) : (f.setBox m b).running = f.running := by simp [Filing.running]
@[simp] theorem Filing.setBox_now (m : Nat) (b : Mailbox) : (f.setBox m b).now = f.now := by simp [Filing.now]
@[simp] theorem Filing.setBox_block (m : Nat) (b : Mailbox) (k : Nat) : (f.setBox m b).block k = f.block k := by simp [Filing.block]
@[simp] theorem Filing.setBox_doc (m : Nat) (b : Mailbox) (k : Nat) : (f.setBox m b).doc k = f.doc k := by simp [Filing.doc]
@[simp] theorem Filing.setBox_page (m : Nat) (b : Mailbox) (k : Nat) : (f.setBox m b).page k = f.page k := by simp [Filing.page]
@[simp] theorem Filing.setBox_chan (m : Nat) (b : Mailbox) (k : Nat) : (f.setBox m b).chan k = f.chan k := by simp [Filing.chan]
@[simp] theorem Filing.setBox_binding (m : Nat) (b : Mailbox) (k : Nat) : (f.setBox m b).binding k = f.binding k := by simp [Filing.binding]
@[simp] theorem Filing.setBox_slot (m : Nat) (b : Mailbox) (k : Nat) : (f.setBox m b).slot k = f.slot k := by simp [Filing.slot]

/-! ### setRoute -/

@[simp] theorem Filing.setRoute_running (e : Nat) (r : Option Route) : (f.setRoute e r).running = f.running := by simp [Filing.running]
@[simp] theorem Filing.setRoute_now (e : Nat) (r : Option Route) : (f.setRoute e r).now = f.now := by simp [Filing.now]
@[simp] theorem Filing.setRoute_block (e : Nat) (r : Option Route) (k : Nat) : (f.setRoute e r).block k = f.block k := by simp [Filing.block]
@[simp] theorem Filing.setRoute_doc (e : Nat) (r : Option Route) (k : Nat) : (f.setRoute e r).doc k = f.doc k := by simp [Filing.doc]
@[simp] theorem Filing.setRoute_page (e : Nat) (r : Option Route) (k : Nat) : (f.setRoute e r).page k = f.page k := by simp [Filing.page]
@[simp] theorem Filing.setRoute_chan (e : Nat) (r : Option Route) (k : Nat) : (f.setRoute e r).chan k = f.chan k := by simp [Filing.chan]
@[simp] theorem Filing.setRoute_binding (e : Nat) (r : Option Route) (k : Nat) : (f.setRoute e r).binding k = f.binding k := by simp [Filing.binding]
@[simp] theorem Filing.setRoute_slot (e : Nat) (r : Option Route) (k : Nat) : (f.setRoute e r).slot k = f.slot k := by simp [Filing.slot]

/-! ### setBlock -/

@[simp] theorem Filing.setBlock_running (n : Nat) (b : BlockEntry) : (f.setBlock n b).running = f.running := by simp [Filing.running]
@[simp] theorem Filing.setBlock_now (n : Nat) (b : BlockEntry) : (f.setBlock n b).now = f.now := by simp [Filing.now]
@[simp] theorem Filing.setBlock_doc (n : Nat) (b : BlockEntry) (k : Nat) : (f.setBlock n b).doc k = f.doc k := by simp [Filing.doc]
@[simp] theorem Filing.setBlock_page (n : Nat) (b : BlockEntry) (k : Nat) : (f.setBlock n b).page k = f.page k := by simp [Filing.page]
@[simp] theorem Filing.setBlock_chan (n : Nat) (b : BlockEntry) (k : Nat) : (f.setBlock n b).chan k = f.chan k := by simp [Filing.chan]
@[simp] theorem Filing.setBlock_mailbox (n : Nat) (b : BlockEntry) (k : Nat) : (f.setBlock n b).mailbox k = f.mailbox k := by simp [Filing.mailbox]
@[simp] theorem Filing.setBlock_route (n : Nat) (b : BlockEntry) (k : Nat) : (f.setBlock n b).route k = f.route k := by simp [Filing.route]
@[simp] theorem Filing.setBlock_binding (n : Nat) (b : BlockEntry) (k : Nat) : (f.setBlock n b).binding k = f.binding k := by simp [Filing.binding]
@[simp] theorem Filing.setBlock_slot (n : Nat) (b : BlockEntry) (k : Nat) : (f.setBlock n b).slot k = f.slot k := by simp [Filing.slot]

/-! ### setSlot -/

@[simp] theorem Filing.setSlot_running (s : Nat) (x : Slot) : (f.setSlot s x).running = f.running := by simp [Filing.running]
@[simp] theorem Filing.setSlot_now (s : Nat) (x : Slot) : (f.setSlot s x).now = f.now := by simp [Filing.now]
@[simp] theorem Filing.setSlot_block (s : Nat) (x : Slot) (k : Nat) : (f.setSlot s x).block k = f.block k := by simp [Filing.block]
@[simp] theorem Filing.setSlot_doc (s : Nat) (x : Slot) (k : Nat) : (f.setSlot s x).doc k = f.doc k := by simp [Filing.doc]
@[simp] theorem Filing.setSlot_page (s : Nat) (x : Slot) (k : Nat) : (f.setSlot s x).page k = f.page k := by simp [Filing.page]
@[simp] theorem Filing.setSlot_chan (s : Nat) (x : Slot) (k : Nat) : (f.setSlot s x).chan k = f.chan k := by simp [Filing.chan]
@[simp] theorem Filing.setSlot_mailbox (s : Nat) (x : Slot) (k : Nat) : (f.setSlot s x).mailbox k = f.mailbox k := by simp [Filing.mailbox]
@[simp] theorem Filing.setSlot_route (s : Nat) (x : Slot) (k : Nat) : (f.setSlot s x).route k = f.route k := by simp [Filing.route]
@[simp] theorem Filing.setSlot_binding (s : Nat) (x : Slot) (k : Nat) : (f.setSlot s x).binding k = f.binding k := by simp [Filing.binding]

/-! ### setBinding -/

@[simp] theorem Filing.setBinding_running (r : Nat) (b : Option Binding) : (f.setBinding r b).running = f.running := by simp [Filing.running]
@[simp] theorem Filing.setBinding_now (r : Nat) (b : Option Binding) : (f.setBinding r b).now = f.now := by simp [Filing.now]
@[simp] theorem Filing.setBinding_block (r : Nat) (b : Option Binding) (k : Nat) : (f.setBinding r b).block k = f.block k := by simp [Filing.block]
@[simp] theorem Filing.setBinding_doc (r : Nat) (b : Option Binding) (k : Nat) : (f.setBinding r b).doc k = f.doc k := by simp [Filing.doc]
@[simp] theorem Filing.setBinding_page (r : Nat) (b : Option Binding) (k : Nat) : (f.setBinding r b).page k = f.page k := by simp [Filing.page]
@[simp] theorem Filing.setBinding_chan (r : Nat) (b : Option Binding) (k : Nat) : (f.setBinding r b).chan k = f.chan k := by simp [Filing.chan]
@[simp] theorem Filing.setBinding_mailbox (r : Nat) (b : Option Binding) (k : Nat) : (f.setBinding r b).mailbox k = f.mailbox k := by simp [Filing.mailbox]
@[simp] theorem Filing.setBinding_route (r : Nat) (b : Option Binding) (k : Nat) : (f.setBinding r b).route k = f.route k := by simp [Filing.route]
@[simp] theorem Filing.setBinding_slot (r : Nat) (b : Option Binding) (k : Nat) : (f.setBinding r b).slot k = f.slot k := by simp [Filing.slot]

/-! ### mark -/

@[simp] theorem Filing.mark_running (r : RecordId) : (f.mark r).running = f.running := by simp [Filing.running]
@[simp] theorem Filing.mark_now (r : RecordId) : (f.mark r).now = f.now := by simp [Filing.now]
@[simp] theorem Filing.mark_block (r : RecordId) (k : Nat) : (f.mark r).block k = f.block k := by simp [Filing.block]
@[simp] theorem Filing.mark_doc (r : RecordId) (k : Nat) : (f.mark r).doc k = f.doc k := by simp [Filing.doc]
@[simp] theorem Filing.mark_page (r : RecordId) (k : Nat) : (f.mark r).page k = f.page k := by simp [Filing.page]
@[simp] theorem Filing.mark_chan (r : RecordId) (k : Nat) : (f.mark r).chan k = f.chan k := by simp [Filing.chan]
@[simp] theorem Filing.mark_mailbox (r : RecordId) (k : Nat) : (f.mark r).mailbox k = f.mailbox k := by simp [Filing.mailbox]
@[simp] theorem Filing.mark_route (r : RecordId) (k : Nat) : (f.mark r).route k = f.route k := by simp [Filing.route]
@[simp] theorem Filing.mark_binding (r : RecordId) (k : Nat) : (f.mark r).binding k = f.binding k := by simp [Filing.binding]
@[simp] theorem Filing.mark_slot (r : RecordId) (k : Nat) : (f.mark r).slot k = f.slot k := by simp [Filing.slot]

/-! ### unmark -/

@[simp] theorem Filing.unmark_running (r : RecordId) : (f.unmark r).running = f.running := by simp [Filing.running]
@[simp] theorem Filing.unmark_now (r : RecordId) : (f.unmark r).now = f.now := by simp [Filing.now]
@[simp] theorem Filing.unmark_block (r : RecordId) (k : Nat) : (f.unmark r).block k = f.block k := by simp [Filing.block]
@[simp] theorem Filing.unmark_doc (r : RecordId) (k : Nat) : (f.unmark r).doc k = f.doc k := by simp [Filing.doc]
@[simp] theorem Filing.unmark_page (r : RecordId) (k : Nat) : (f.unmark r).page k = f.page k := by simp [Filing.page]
@[simp] theorem Filing.unmark_chan (r : RecordId) (k : Nat) : (f.unmark r).chan k = f.chan k := by simp [Filing.chan]
@[simp] theorem Filing.unmark_mailbox (r : RecordId) (k : Nat) : (f.unmark r).mailbox k = f.mailbox k := by simp [Filing.mailbox]
@[simp] theorem Filing.unmark_route (r : RecordId) (k : Nat) : (f.unmark r).route k = f.route k := by simp [Filing.route]
@[simp] theorem Filing.unmark_binding (r : RecordId) (k : Nat) : (f.unmark r).binding k = f.binding k := by simp [Filing.binding]
@[simp] theorem Filing.unmark_slot (r : RecordId) (k : Nat) : (f.unmark r).slot k = f.slot k := by simp [Filing.slot]

/-! ### place -/

@[simp] theorem Filing.place_running (e : Deadline) : (f.place e).running = f.running := by simp [Filing.running]
@[simp] theorem Filing.place_block (e : Deadline) (k : Nat) : (f.place e).block k = f.block k := by simp [Filing.block]
@[simp] theorem Filing.place_doc (e : Deadline) (k : Nat) : (f.place e).doc k = f.doc k := by simp [Filing.doc]
@[simp] theorem Filing.place_page (e : Deadline) (k : Nat) : (f.place e).page k = f.page k := by simp [Filing.page]
@[simp] theorem Filing.place_chan (e : Deadline) (k : Nat) : (f.place e).chan k = f.chan k := by simp [Filing.chan]
@[simp] theorem Filing.place_mailbox (e : Deadline) (k : Nat) : (f.place e).mailbox k = f.mailbox k := by simp [Filing.mailbox]
@[simp] theorem Filing.place_route (e : Deadline) (k : Nat) : (f.place e).route k = f.route k := by simp [Filing.route]
@[simp] theorem Filing.place_binding (e : Deadline) (k : Nat) : (f.place e).binding k = f.binding k := by simp [Filing.binding]
@[simp] theorem Filing.place_slot (e : Deadline) (k : Nat) : (f.place e).slot k = f.slot k := by simp [Filing.slot]

/-! ### keepDeadlines -/

@[simp] theorem Filing.keepDeadlines_running (k : Deadline → Bool) : (f.keepDeadlines k).running = f.running := by simp [Filing.running]
@[simp] theorem Filing.keepDeadlines_block (k : Deadline → Bool) (j : Nat) : (f.keepDeadlines k).block j = f.block j := by simp [Filing.block]
@[simp] theorem Filing.keepDeadlines_doc (k : Deadline → Bool) (j : Nat) : (f.keepDeadlines k).doc j = f.doc j := by simp [Filing.doc]
@[simp] theorem Filing.keepDeadlines_page (k : Deadline → Bool) (j : Nat) : (f.keepDeadlines k).page j = f.page j := by simp [Filing.page]
@[simp] theorem Filing.keepDeadlines_chan (k : Deadline → Bool) (j : Nat) : (f.keepDeadlines k).chan j = f.chan j := by simp [Filing.chan]
@[simp] theorem Filing.keepDeadlines_mailbox (k : Deadline → Bool) (j : Nat) : (f.keepDeadlines k).mailbox j = f.mailbox j := by simp [Filing.mailbox]
@[simp] theorem Filing.keepDeadlines_route (k : Deadline → Bool) (j : Nat) : (f.keepDeadlines k).route j = f.route j := by simp [Filing.route]
@[simp] theorem Filing.keepDeadlines_binding (k : Deadline → Bool) (j : Nat) : (f.keepDeadlines k).binding j = f.binding j := by simp [Filing.binding]
@[simp] theorem Filing.keepDeadlines_slot (k : Deadline → Bool) (j : Nat) : (f.keepDeadlines k).slot j = f.slot j := by simp [Filing.slot]

/-! ### removeRetain -/

@[simp] theorem Filing.removeRetain_running (s g : Nat) : (f.removeRetain s g).running = f.running := by simp [Filing.running]
@[simp] theorem Filing.removeRetain_block (s g : Nat) (k : Nat) : (f.removeRetain s g).block k = f.block k := by simp [Filing.block]
@[simp] theorem Filing.removeRetain_doc (s g : Nat) (k : Nat) : (f.removeRetain s g).doc k = f.doc k := by simp [Filing.doc]
@[simp] theorem Filing.removeRetain_page (s g : Nat) (k : Nat) : (f.removeRetain s g).page k = f.page k := by simp [Filing.page]
@[simp] theorem Filing.removeRetain_chan (s g : Nat) (k : Nat) : (f.removeRetain s g).chan k = f.chan k := by simp [Filing.chan]
@[simp] theorem Filing.removeRetain_mailbox (s g : Nat) (k : Nat) : (f.removeRetain s g).mailbox k = f.mailbox k := by simp [Filing.mailbox]
@[simp] theorem Filing.removeRetain_route (s g : Nat) (k : Nat) : (f.removeRetain s g).route k = f.route k := by simp [Filing.route]
@[simp] theorem Filing.removeRetain_binding (s g : Nat) (k : Nat) : (f.removeRetain s g).binding k = f.binding k := by simp [Filing.binding]
@[simp] theorem Filing.removeRetain_slot (s g : Nat) (k : Nat) : (f.removeRetain s g).slot k = f.slot k := by simp [Filing.slot]

/-! ### removeRetry -/

@[simp] theorem Filing.removeRetry_running (s g k : Nat) : (f.removeRetry s g k).running = f.running := by simp [Filing.running]
@[simp] theorem Filing.removeRetry_block (s g k : Nat) (j : Nat) : (f.removeRetry s g k).block j = f.block j := by simp [Filing.block]
@[simp] theorem Filing.removeRetry_doc (s g k : Nat) (j : Nat) : (f.removeRetry s g k).doc j = f.doc j := by simp [Filing.doc]
@[simp] theorem Filing.removeRetry_page (s g k : Nat) (j : Nat) : (f.removeRetry s g k).page j = f.page j := by simp [Filing.page]
@[simp] theorem Filing.removeRetry_chan (s g k : Nat) (j : Nat) : (f.removeRetry s g k).chan j = f.chan j := by simp [Filing.chan]
@[simp] theorem Filing.removeRetry_mailbox (s g k : Nat) (j : Nat) : (f.removeRetry s g k).mailbox j = f.mailbox j := by simp [Filing.mailbox]
@[simp] theorem Filing.removeRetry_route (s g k : Nat) (j : Nat) : (f.removeRetry s g k).route j = f.route j := by simp [Filing.route]
@[simp] theorem Filing.removeRetry_binding (s g k : Nat) (j : Nat) : (f.removeRetry s g k).binding j = f.binding j := by simp [Filing.binding]
@[simp] theorem Filing.removeRetry_slot (s g k : Nat) (j : Nat) : (f.removeRetry s g k).slot j = f.slot j := by simp [Filing.slot]

/-! ### removeDeadlines -/

@[simp] theorem Filing.removeDeadlines_running (s g : Nat) : (f.removeDeadlines s g).running = f.running := by simp [Filing.running]
@[simp] theorem Filing.removeDeadlines_block (s g : Nat) (k : Nat) : (f.removeDeadlines s g).block k = f.block k := by simp [Filing.block]
@[simp] theorem Filing.removeDeadlines_doc (s g : Nat) (k : Nat) : (f.removeDeadlines s g).doc k = f.doc k := by simp [Filing.doc]
@[simp] theorem Filing.removeDeadlines_page (s g : Nat) (k : Nat) : (f.removeDeadlines s g).page k = f.page k := by simp [Filing.page]
@[simp] theorem Filing.removeDeadlines_chan (s g : Nat) (k : Nat) : (f.removeDeadlines s g).chan k = f.chan k := by simp [Filing.chan]
@[simp] theorem Filing.removeDeadlines_mailbox (s g : Nat) (k : Nat) : (f.removeDeadlines s g).mailbox k = f.mailbox k := by simp [Filing.mailbox]
@[simp] theorem Filing.removeDeadlines_route (s g : Nat) (k : Nat) : (f.removeDeadlines s g).route k = f.route k := by simp [Filing.route]
@[simp] theorem Filing.removeDeadlines_binding (s g : Nat) (k : Nat) : (f.removeDeadlines s g).binding k = f.binding k := by simp [Filing.binding]
@[simp] theorem Filing.removeDeadlines_slot (s g : Nat) (k : Nat) : (f.removeDeadlines s g).slot k = f.slot k := by simp [Filing.slot]

/-! ### join -/

@[simp] theorem Filing.join_running (s k : Nat) (c : MailClass) : (f.join s k c).running = f.running := by simp [Filing.running]
@[simp] theorem Filing.join_now (s k : Nat) (c : MailClass) : (f.join s k c).now = f.now := by simp [Filing.now]
@[simp] theorem Filing.join_block (s k : Nat) (c : MailClass) (j : Nat) : (f.join s k c).block j = f.block j := by simp [Filing.block]
@[simp] theorem Filing.join_doc (s k : Nat) (c : MailClass) (j : Nat) : (f.join s k c).doc j = f.doc j := by simp [Filing.doc]
@[simp] theorem Filing.join_page (s k : Nat) (c : MailClass) (j : Nat) : (f.join s k c).page j = f.page j := by simp [Filing.page]
@[simp] theorem Filing.join_chan (s k : Nat) (c : MailClass) (j : Nat) : (f.join s k c).chan j = f.chan j := by simp [Filing.chan]
@[simp] theorem Filing.join_mailbox (s k : Nat) (c : MailClass) (j : Nat) : (f.join s k c).mailbox j = f.mailbox j := by simp [Filing.mailbox]
@[simp] theorem Filing.join_route (s k : Nat) (c : MailClass) (j : Nat) : (f.join s k c).route j = f.route j := by simp [Filing.route]
@[simp] theorem Filing.join_binding (s k : Nat) (c : MailClass) (j : Nat) : (f.join s k c).binding j = f.binding j := by simp [Filing.binding]
@[simp] theorem Filing.join_slot (s k : Nat) (c : MailClass) (j : Nat) : (f.join s k c).slot j = f.slot j := by simp [Filing.slot]

/-! ### leave -/

@[simp] theorem Filing.leave_running (s k : Nat) : (f.leave s k).running = f.running := by simp [Filing.running]
@[simp] theorem Filing.leave_now (s k : Nat) : (f.leave s k).now = f.now := by simp [Filing.now]
@[simp] theorem Filing.leave_block (s k : Nat) (j : Nat) : (f.leave s k).block j = f.block j := by simp [Filing.block]
@[simp] theorem Filing.leave_doc (s k : Nat) (j : Nat) : (f.leave s k).doc j = f.doc j := by simp [Filing.doc]
@[simp] theorem Filing.leave_page (s k : Nat) (j : Nat) : (f.leave s k).page j = f.page j := by simp [Filing.page]
@[simp] theorem Filing.leave_chan (s k : Nat) (j : Nat) : (f.leave s k).chan j = f.chan j := by simp [Filing.chan]
@[simp] theorem Filing.leave_mailbox (s k : Nat) (j : Nat) : (f.leave s k).mailbox j = f.mailbox j := by simp [Filing.mailbox]
@[simp] theorem Filing.leave_route (s k : Nat) (j : Nat) : (f.leave s k).route j = f.route j := by simp [Filing.route]
@[simp] theorem Filing.leave_binding (s k : Nat) (j : Nat) : (f.leave s k).binding j = f.binding j := by simp [Filing.binding]
@[simp] theorem Filing.leave_slot (s k : Nat) (j : Nat) : (f.leave s k).slot j = f.slot j := by simp [Filing.slot]

/-! ### setRecipient -/

@[simp] theorem Filing.setRecipient_running (s k : Nat) (r : Recipient) : (f.setRecipient s k r).running = f.running := by simp [Filing.running]
@[simp] theorem Filing.setRecipient_now (s k : Nat) (r : Recipient) : (f.setRecipient s k r).now = f.now := by simp [Filing.now]
@[simp] theorem Filing.setRecipient_block (s k : Nat) (r : Recipient) (j : Nat) : (f.setRecipient s k r).block j = f.block j := by simp [Filing.block]
@[simp] theorem Filing.setRecipient_chan (s k : Nat) (r : Recipient) (j : Nat) : (f.setRecipient s k r).chan j = f.chan j := by simp [Filing.chan]
@[simp] theorem Filing.setRecipient_mailbox (s k : Nat) (r : Recipient) (j : Nat) : (f.setRecipient s k r).mailbox j = f.mailbox j := by simp [Filing.mailbox]
@[simp] theorem Filing.setRecipient_route (s k : Nat) (r : Recipient) (j : Nat) : (f.setRecipient s k r).route j = f.route j := by simp [Filing.route]
@[simp] theorem Filing.setRecipient_binding (s k : Nat) (r : Recipient) (j : Nat) : (f.setRecipient s k r).binding j = f.binding j := by simp [Filing.binding]
@[simp] theorem Filing.setRecipient_slot (s k : Nat) (r : Recipient) (j : Nat) : (f.setRecipient s k r).slot j = f.slot j := by simp [Filing.slot]

/-! ### produce -/

@[simp] theorem Filing.produce_running (kind code : Nat) (slot : Option (Nat × Nat)) (time : Time) (args : List Word) (own : Bool) : (f.produce kind code slot time args own).running = f.running := by simp [Filing.running]
@[simp] theorem Filing.produce_now (kind code : Nat) (slot : Option (Nat × Nat)) (time : Time) (args : List Word) (own : Bool) : (f.produce kind code slot time args own).now = f.now := by simp [Filing.now]
@[simp] theorem Filing.produce_block (kind code : Nat) (slot : Option (Nat × Nat)) (time : Time) (args : List Word) (own : Bool) (k : Nat) : (f.produce kind code slot time args own).block k = f.block k := by simp [Filing.block]
@[simp] theorem Filing.produce_doc (kind code : Nat) (slot : Option (Nat × Nat)) (time : Time) (args : List Word) (own : Bool) (k : Nat) : (f.produce kind code slot time args own).doc k = f.doc k := by simp [Filing.doc]
@[simp] theorem Filing.produce_page (kind code : Nat) (slot : Option (Nat × Nat)) (time : Time) (args : List Word) (own : Bool) (k : Nat) : (f.produce kind code slot time args own).page k = f.page k := by simp [Filing.page]
@[simp] theorem Filing.produce_chan (kind code : Nat) (slot : Option (Nat × Nat)) (time : Time) (args : List Word) (own : Bool) (k : Nat) : (f.produce kind code slot time args own).chan k = f.chan k := by simp [Filing.chan]
@[simp] theorem Filing.produce_mailbox (kind code : Nat) (slot : Option (Nat × Nat)) (time : Time) (args : List Word) (own : Bool) (k : Nat) : (f.produce kind code slot time args own).mailbox k = f.mailbox k := by simp [Filing.mailbox]
@[simp] theorem Filing.produce_route (kind code : Nat) (slot : Option (Nat × Nat)) (time : Time) (args : List Word) (own : Bool) (k : Nat) : (f.produce kind code slot time args own).route k = f.route k := by simp [Filing.route]
@[simp] theorem Filing.produce_binding (kind code : Nat) (slot : Option (Nat × Nat)) (time : Time) (args : List Word) (own : Bool) (k : Nat) : (f.produce kind code slot time args own).binding k = f.binding k := by simp [Filing.binding]
@[simp] theorem Filing.produce_slot (kind code : Nat) (slot : Option (Nat × Nat)) (time : Time) (args : List Word) (own : Bool) (k : Nat) : (f.produce kind code slot time args own).slot k = f.slot k := by simp [Filing.slot]

/-! ### produceNotice -/

@[simp] theorem Filing.produceNotice_running (n : Notice) : (f.produceNotice n).running = f.running := by simp [Filing.running]
@[simp] theorem Filing.produceNotice_now (n : Notice) : (f.produceNotice n).now = f.now := by simp [Filing.now]
@[simp] theorem Filing.produceNotice_block (n : Notice) (k : Nat) : (f.produceNotice n).block k = f.block k := by simp [Filing.block]
@[simp] theorem Filing.produceNotice_doc (n : Notice) (k : Nat) : (f.produceNotice n).doc k = f.doc k := by simp [Filing.doc]
@[simp] theorem Filing.produceNotice_page (n : Notice) (k : Nat) : (f.produceNotice n).page k = f.page k := by simp [Filing.page]
@[simp] theorem Filing.produceNotice_chan (n : Notice) (k : Nat) : (f.produceNotice n).chan k = f.chan k := by simp [Filing.chan]
@[simp] theorem Filing.produceNotice_mailbox (n : Notice) (k : Nat) : (f.produceNotice n).mailbox k = f.mailbox k := by simp [Filing.mailbox]
@[simp] theorem Filing.produceNotice_route (n : Notice) (k : Nat) : (f.produceNotice n).route k = f.route k := by simp [Filing.route]
@[simp] theorem Filing.produceNotice_binding (n : Notice) (k : Nat) : (f.produceNotice n).binding k = f.binding k := by simp [Filing.binding]
@[simp] theorem Filing.produceNotice_slot (n : Notice) (k : Nat) : (f.produceNotice n).slot k = f.slot k := by simp [Filing.slot]

/-! ### defer -/

@[simp] theorem Filing.defer_running (d : Deferred) : (f.defer d).running = f.running := by simp [Filing.running]
@[simp] theorem Filing.defer_now (d : Deferred) : (f.defer d).now = f.now := by simp [Filing.now]
@[simp] theorem Filing.defer_block (d : Deferred) (k : Nat) : (f.defer d).block k = f.block k := by simp [Filing.block]
@[simp] theorem Filing.defer_doc (d : Deferred) (k : Nat) : (f.defer d).doc k = f.doc k := by simp [Filing.doc]
@[simp] theorem Filing.defer_page (d : Deferred) (k : Nat) : (f.defer d).page k = f.page k := by simp [Filing.page]
@[simp] theorem Filing.defer_chan (d : Deferred) (k : Nat) : (f.defer d).chan k = f.chan k := by simp [Filing.chan]
@[simp] theorem Filing.defer_mailbox (d : Deferred) (k : Nat) : (f.defer d).mailbox k = f.mailbox k := by simp [Filing.mailbox]
@[simp] theorem Filing.defer_route (d : Deferred) (k : Nat) : (f.defer d).route k = f.route k := by simp [Filing.route]
@[simp] theorem Filing.defer_binding (d : Deferred) (k : Nat) : (f.defer d).binding k = f.binding k := by simp [Filing.binding]

/-! ### clearLatches -/

@[simp] theorem Filing.clearLatches_running (n : BitVec 10) (c : Bool) : (f.clearLatches n c).running = f.running := by simp [Filing.running]
@[simp] theorem Filing.clearLatches_now (n : BitVec 10) (c : Bool) : (f.clearLatches n c).now = f.now := by simp [Filing.now]
@[simp] theorem Filing.clearLatches_block (n : BitVec 10) (c : Bool) (k : Nat) : (f.clearLatches n c).block k = f.block k := by simp [Filing.block]
@[simp] theorem Filing.clearLatches_doc (n : BitVec 10) (c : Bool) (k : Nat) : (f.clearLatches n c).doc k = f.doc k := by simp [Filing.doc]
@[simp] theorem Filing.clearLatches_page (n : BitVec 10) (c : Bool) (k : Nat) : (f.clearLatches n c).page k = f.page k := by simp [Filing.page]
@[simp] theorem Filing.clearLatches_chan (n : BitVec 10) (c : Bool) (k : Nat) : (f.clearLatches n c).chan k = f.chan k := by simp [Filing.chan]
@[simp] theorem Filing.clearLatches_mailbox (n : BitVec 10) (c : Bool) (k : Nat) : (f.clearLatches n c).mailbox k = f.mailbox k := by simp [Filing.mailbox]
@[simp] theorem Filing.clearLatches_route (n : BitVec 10) (c : Bool) (k : Nat) : (f.clearLatches n c).route k = f.route k := by simp [Filing.route]
@[simp] theorem Filing.clearLatches_binding (n : BitVec 10) (c : Bool) (k : Nat) : (f.clearLatches n c).binding k = f.binding k := by simp [Filing.binding]
@[simp] theorem Filing.clearLatches_slot (n : BitVec 10) (c : Bool) (k : Nat) : (f.clearLatches n c).slot k = f.slot k := by simp [Filing.slot]

/-! ### closeGuard -/

@[simp] theorem Filing.closeGuard_running : (f.closeGuard).running = f.running := by simp [Filing.running]
@[simp] theorem Filing.closeGuard_now : (f.closeGuard).now = f.now := by simp [Filing.now]
@[simp] theorem Filing.closeGuard_block (k : Nat) : (f.closeGuard).block k = f.block k := by simp [Filing.block]
@[simp] theorem Filing.closeGuard_doc (k : Nat) : (f.closeGuard).doc k = f.doc k := by simp [Filing.doc]
@[simp] theorem Filing.closeGuard_page (k : Nat) : (f.closeGuard).page k = f.page k := by simp [Filing.page]
@[simp] theorem Filing.closeGuard_chan (k : Nat) : (f.closeGuard).chan k = f.chan k := by simp [Filing.chan]
@[simp] theorem Filing.closeGuard_mailbox (k : Nat) : (f.closeGuard).mailbox k = f.mailbox k := by simp [Filing.mailbox]
@[simp] theorem Filing.closeGuard_route (k : Nat) : (f.closeGuard).route k = f.route k := by simp [Filing.route]
@[simp] theorem Filing.closeGuard_binding (k : Nat) : (f.closeGuard).binding k = f.binding k := by simp [Filing.binding]
@[simp] theorem Filing.closeGuard_slot (k : Nat) : (f.closeGuard).slot k = f.slot k := by simp [Filing.slot]

/-! ### tickGuard -/

@[simp] theorem Filing.tickGuard_running : (f.tickGuard).running = f.running := by simp [Filing.running]
@[simp] theorem Filing.tickGuard_now : (f.tickGuard).now = f.now := by simp [Filing.now]
@[simp] theorem Filing.tickGuard_block (k : Nat) : (f.tickGuard).block k = f.block k := by simp [Filing.block]
@[simp] theorem Filing.tickGuard_doc (k : Nat) : (f.tickGuard).doc k = f.doc k := by simp [Filing.doc]
@[simp] theorem Filing.tickGuard_page (k : Nat) : (f.tickGuard).page k = f.page k := by simp [Filing.page]
@[simp] theorem Filing.tickGuard_chan (k : Nat) : (f.tickGuard).chan k = f.chan k := by simp [Filing.chan]
@[simp] theorem Filing.tickGuard_mailbox (k : Nat) : (f.tickGuard).mailbox k = f.mailbox k := by simp [Filing.mailbox]
@[simp] theorem Filing.tickGuard_route (k : Nat) : (f.tickGuard).route k = f.route k := by simp [Filing.route]
@[simp] theorem Filing.tickGuard_binding (k : Nat) : (f.tickGuard).binding k = f.binding k := by simp [Filing.binding]
@[simp] theorem Filing.tickGuard_slot (k : Nat) : (f.tickGuard).slot k = f.slot k := by simp [Filing.slot]

/-! ### saveClock -/

@[simp] theorem Filing.saveClock_running : (f.saveClock).running = f.running := by simp [Filing.running]
@[simp] theorem Filing.saveClock_block (k : Nat) : (f.saveClock).block k = f.block k := by simp [Filing.block]
@[simp] theorem Filing.saveClock_doc (k : Nat) : (f.saveClock).doc k = f.doc k := by simp [Filing.doc]
@[simp] theorem Filing.saveClock_page (k : Nat) : (f.saveClock).page k = f.page k := by simp [Filing.page]
@[simp] theorem Filing.saveClock_chan (k : Nat) : (f.saveClock).chan k = f.chan k := by simp [Filing.chan]
@[simp] theorem Filing.saveClock_mailbox (k : Nat) : (f.saveClock).mailbox k = f.mailbox k := by simp [Filing.mailbox]
@[simp] theorem Filing.saveClock_route (k : Nat) : (f.saveClock).route k = f.route k := by simp [Filing.route]
@[simp] theorem Filing.saveClock_binding (k : Nat) : (f.saveClock).binding k = f.binding k := by simp [Filing.binding]
@[simp] theorem Filing.saveClock_slot (k : Nat) : (f.saveClock).slot k = f.slot k := by simp [Filing.slot]

/-! ### warn -/

@[simp] theorem Filing.warn_running : (f.warn).running = f.running := by simp [Filing.running]
@[simp] theorem Filing.warn_now : (f.warn).now = f.now := by simp [Filing.now]
@[simp] theorem Filing.warn_block (k : Nat) : (f.warn).block k = f.block k := by simp [Filing.block]
@[simp] theorem Filing.warn_doc (k : Nat) : (f.warn).doc k = f.doc k := by simp [Filing.doc]
@[simp] theorem Filing.warn_page (k : Nat) : (f.warn).page k = f.page k := by simp [Filing.page]
@[simp] theorem Filing.warn_chan (k : Nat) : (f.warn).chan k = f.chan k := by simp [Filing.chan]
@[simp] theorem Filing.warn_mailbox (k : Nat) : (f.warn).mailbox k = f.mailbox k := by simp [Filing.mailbox]
@[simp] theorem Filing.warn_route (k : Nat) : (f.warn).route k = f.route k := by simp [Filing.route]
@[simp] theorem Filing.warn_binding (k : Nat) : (f.warn).binding k = f.binding k := by simp [Filing.binding]
@[simp] theorem Filing.warn_slot (k : Nat) : (f.warn).slot k = f.slot k := by simp [Filing.slot]

/-! ### unwarn -/

@[simp] theorem Filing.unwarn_running : (f.unwarn).running = f.running := by simp [Filing.running]
@[simp] theorem Filing.unwarn_now : (f.unwarn).now = f.now := by simp [Filing.now]
@[simp] theorem Filing.unwarn_block (k : Nat) : (f.unwarn).block k = f.block k := by simp [Filing.block]
@[simp] theorem Filing.unwarn_doc (k : Nat) : (f.unwarn).doc k = f.doc k := by simp [Filing.doc]
@[simp] theorem Filing.unwarn_page (k : Nat) : (f.unwarn).page k = f.page k := by simp [Filing.page]
@[simp] theorem Filing.unwarn_chan (k : Nat) : (f.unwarn).chan k = f.chan k := by simp [Filing.chan]
@[simp] theorem Filing.unwarn_mailbox (k : Nat) : (f.unwarn).mailbox k = f.mailbox k := by simp [Filing.mailbox]
@[simp] theorem Filing.unwarn_route (k : Nat) : (f.unwarn).route k = f.route k := by simp [Filing.route]
@[simp] theorem Filing.unwarn_binding (k : Nat) : (f.unwarn).binding k = f.binding k := by simp [Filing.binding]
@[simp] theorem Filing.unwarn_slot (k : Nat) : (f.unwarn).slot k = f.slot k := by simp [Filing.slot]

/-! ### pageFlushed -/

@[simp] theorem Filing.pageFlushed_running (p : Nat) : (f.pageFlushed p).running = f.running := by simp [Filing.running]
@[simp] theorem Filing.pageFlushed_now (p : Nat) : (f.pageFlushed p).now = f.now := by simp [Filing.now]
@[simp] theorem Filing.pageFlushed_block (p : Nat) (k : Nat) : (f.pageFlushed p).block k = f.block k := by simp [Filing.block]
@[simp] theorem Filing.pageFlushed_chan (p : Nat) (k : Nat) : (f.pageFlushed p).chan k = f.chan k := by simp [Filing.chan]
@[simp] theorem Filing.pageFlushed_mailbox (p : Nat) (k : Nat) : (f.pageFlushed p).mailbox k = f.mailbox k := by simp [Filing.mailbox]
@[simp] theorem Filing.pageFlushed_route (p : Nat) (k : Nat) : (f.pageFlushed p).route k = f.route k := by simp [Filing.route]
@[simp] theorem Filing.pageFlushed_binding (p : Nat) (k : Nat) : (f.pageFlushed p).binding k = f.binding k := by simp [Filing.binding]
@[simp] theorem Filing.pageFlushed_slot (p : Nat) (k : Nat) : (f.pageFlushed p).slot k = f.slot k := by simp [Filing.slot]

/-! ### captureHeader -/

@[simp] theorem Filing.captureHeader_running (c w l : Nat) (bs : List Byte) : (f.captureHeader c w l bs).running = f.running := by simp [Filing.running]
@[simp] theorem Filing.captureHeader_now (c w l : Nat) (bs : List Byte) : (f.captureHeader c w l bs).now = f.now := by simp [Filing.now]
@[simp] theorem Filing.captureHeader_block (c w l : Nat) (bs : List Byte) (k : Nat) : (f.captureHeader c w l bs).block k = f.block k := by simp [Filing.block]
@[simp] theorem Filing.captureHeader_doc (c w l : Nat) (bs : List Byte) (k : Nat) : (f.captureHeader c w l bs).doc k = f.doc k := by simp [Filing.doc]
@[simp] theorem Filing.captureHeader_page (c w l : Nat) (bs : List Byte) (k : Nat) : (f.captureHeader c w l bs).page k = f.page k := by simp [Filing.page]
@[simp] theorem Filing.captureHeader_mailbox (c w l : Nat) (bs : List Byte) (k : Nat) : (f.captureHeader c w l bs).mailbox k = f.mailbox k := by simp [Filing.mailbox]
@[simp] theorem Filing.captureHeader_route (c w l : Nat) (bs : List Byte) (k : Nat) : (f.captureHeader c w l bs).route k = f.route k := by simp [Filing.route]
@[simp] theorem Filing.captureHeader_binding (c w l : Nat) (bs : List Byte) (k : Nat) : (f.captureHeader c w l bs).binding k = f.binding k := by simp [Filing.binding]
@[simp] theorem Filing.captureHeader_slot (c w l : Nat) (bs : List Byte) (k : Nat) : (f.captureHeader c w l bs).slot k = f.slot k := by simp [Filing.slot]

/-! ### captureWord -/

@[simp] theorem Filing.captureWord_running (s i : Nat) (full : Bool) (w : Word) : (f.captureWord s i full w).running = f.running := by simp [Filing.running]
@[simp] theorem Filing.captureWord_now (s i : Nat) (full : Bool) (w : Word) : (f.captureWord s i full w).now = f.now := by simp [Filing.now]
@[simp] theorem Filing.captureWord_block (s i : Nat) (full : Bool) (w : Word) (k : Nat) : (f.captureWord s i full w).block k = f.block k := by simp [Filing.block]
@[simp] theorem Filing.captureWord_doc (s i : Nat) (full : Bool) (w : Word) (k : Nat) : (f.captureWord s i full w).doc k = f.doc k := by simp [Filing.doc]
@[simp] theorem Filing.captureWord_page (s i : Nat) (full : Bool) (w : Word) (k : Nat) : (f.captureWord s i full w).page k = f.page k := by simp [Filing.page]
@[simp] theorem Filing.captureWord_chan (s i : Nat) (full : Bool) (w : Word) (k : Nat) : (f.captureWord s i full w).chan k = f.chan k := by simp [Filing.chan]
@[simp] theorem Filing.captureWord_mailbox (s i : Nat) (full : Bool) (w : Word) (k : Nat) : (f.captureWord s i full w).mailbox k = f.mailbox k := by simp [Filing.mailbox]
@[simp] theorem Filing.captureWord_route (s i : Nat) (full : Bool) (w : Word) (k : Nat) : (f.captureWord s i full w).route k = f.route k := by simp [Filing.route]
@[simp] theorem Filing.captureWord_binding (s i : Nat) (full : Bool) (w : Word) (k : Nat) : (f.captureWord s i full w).binding k = f.binding k := by simp [Filing.binding]

/-! ### pend -/

@[simp] theorem Filing.pend_running (n : Notice) : (f.pend n).running = f.running := by simp [Filing.running]
@[simp] theorem Filing.pend_now (n : Notice) : (f.pend n).now = f.now := by simp [Filing.now]
@[simp] theorem Filing.pend_block (n : Notice) (k : Nat) : (f.pend n).block k = f.block k := by simp [Filing.block]
@[simp] theorem Filing.pend_doc (n : Notice) (k : Nat) : (f.pend n).doc k = f.doc k := by simp [Filing.doc]
@[simp] theorem Filing.pend_page (n : Notice) (k : Nat) : (f.pend n).page k = f.page k := by simp [Filing.page]
@[simp] theorem Filing.pend_chan (n : Notice) (k : Nat) : (f.pend n).chan k = f.chan k := by simp [Filing.chan]
@[simp] theorem Filing.pend_mailbox (n : Notice) (k : Nat) : (f.pend n).mailbox k = f.mailbox k := by simp [Filing.mailbox]
@[simp] theorem Filing.pend_route (n : Notice) (k : Nat) : (f.pend n).route k = f.route k := by simp [Filing.route]
@[simp] theorem Filing.pend_binding (n : Notice) (k : Nat) : (f.pend n).binding k = f.binding k := by simp [Filing.binding]
@[simp] theorem Filing.pend_slot (n : Notice) (k : Nat) : (f.pend n).slot k = f.slot k := by simp [Filing.slot]

/-! ### raise -/

@[simp] theorem Filing.raise_running (k : NoticeKind) (d : Option Nat) (i : KeyItem) (c : Nat) (a : List Word) : (f.raise k d i c a).running = f.running := by simp [Filing.running]
@[simp] theorem Filing.raise_now (k : NoticeKind) (d : Option Nat) (i : KeyItem) (c : Nat) (a : List Word) : (f.raise k d i c a).now = f.now := by simp [Filing.now]
@[simp] theorem Filing.raise_block (k : NoticeKind) (d : Option Nat) (i : KeyItem) (c : Nat) (a : List Word) (j : Nat) : (f.raise k d i c a).block j = f.block j := by simp [Filing.block]
@[simp] theorem Filing.raise_doc (k : NoticeKind) (d : Option Nat) (i : KeyItem) (c : Nat) (a : List Word) (j : Nat) : (f.raise k d i c a).doc j = f.doc j := by simp [Filing.doc]
@[simp] theorem Filing.raise_page (k : NoticeKind) (d : Option Nat) (i : KeyItem) (c : Nat) (a : List Word) (j : Nat) : (f.raise k d i c a).page j = f.page j := by simp [Filing.page]
@[simp] theorem Filing.raise_chan (k : NoticeKind) (d : Option Nat) (i : KeyItem) (c : Nat) (a : List Word) (j : Nat) : (f.raise k d i c a).chan j = f.chan j := by simp [Filing.chan]
@[simp] theorem Filing.raise_mailbox (k : NoticeKind) (d : Option Nat) (i : KeyItem) (c : Nat) (a : List Word) (j : Nat) : (f.raise k d i c a).mailbox j = f.mailbox j := by simp [Filing.mailbox]
@[simp] theorem Filing.raise_route (k : NoticeKind) (d : Option Nat) (i : KeyItem) (c : Nat) (a : List Word) (j : Nat) : (f.raise k d i c a).route j = f.route j := by simp [Filing.route]
@[simp] theorem Filing.raise_binding (k : NoticeKind) (d : Option Nat) (i : KeyItem) (c : Nat) (a : List Word) (j : Nat) : (f.raise k d i c a).binding j = f.binding j := by simp [Filing.binding]
@[simp] theorem Filing.raise_slot (k : NoticeKind) (d : Option Nat) (i : KeyItem) (c : Nat) (a : List Word) (j : Nat) : (f.raise k d i c a).slot j = f.slot j := by simp [Filing.slot]

/-! ### latch -/

@[simp] theorem Filing.latch_running (e : LatchEvent) : (f.latch e).running = f.running := by simp [Filing.running]
@[simp] theorem Filing.latch_now (e : LatchEvent) : (f.latch e).now = f.now := by simp [Filing.now]
@[simp] theorem Filing.latch_block (e : LatchEvent) (k : Nat) : (f.latch e).block k = f.block k := by simp [Filing.block]
@[simp] theorem Filing.latch_doc (e : LatchEvent) (k : Nat) : (f.latch e).doc k = f.doc k := by simp [Filing.doc]
@[simp] theorem Filing.latch_page (e : LatchEvent) (k : Nat) : (f.latch e).page k = f.page k := by simp [Filing.page]
@[simp] theorem Filing.latch_chan (e : LatchEvent) (k : Nat) : (f.latch e).chan k = f.chan k := by simp [Filing.chan]
@[simp] theorem Filing.latch_mailbox (e : LatchEvent) (k : Nat) : (f.latch e).mailbox k = f.mailbox k := by simp [Filing.mailbox]
@[simp] theorem Filing.latch_route (e : LatchEvent) (k : Nat) : (f.latch e).route k = f.route k := by simp [Filing.route]
@[simp] theorem Filing.latch_binding (e : LatchEvent) (k : Nat) : (f.latch e).binding k = f.binding k := by simp [Filing.binding]
@[simp] theorem Filing.latch_slot (e : LatchEvent) (k : Nat) : (f.latch e).slot k = f.slot k := by simp [Filing.slot]

/-! ### evalOver -/

@[simp] theorem Filing.evalOver_running (m : Nat) : (f.evalOver m).running = f.running := by simp [Filing.running]
@[simp] theorem Filing.evalOver_now (m : Nat) : (f.evalOver m).now = f.now := by simp [Filing.now]
@[simp] theorem Filing.evalOver_block (m : Nat) (k : Nat) : (f.evalOver m).block k = f.block k := by simp [Filing.block]
@[simp] theorem Filing.evalOver_doc (m : Nat) (k : Nat) : (f.evalOver m).doc k = f.doc k := by simp [Filing.doc]
@[simp] theorem Filing.evalOver_page (m : Nat) (k : Nat) : (f.evalOver m).page k = f.page k := by simp [Filing.page]
@[simp] theorem Filing.evalOver_chan (m : Nat) (k : Nat) : (f.evalOver m).chan k = f.chan k := by simp [Filing.chan]
@[simp] theorem Filing.evalOver_binding (m : Nat) (k : Nat) : (f.evalOver m).binding k = f.binding k := by simp [Filing.binding]
@[simp] theorem Filing.evalOver_slot (m : Nat) (k : Nat) : (f.evalOver m).slot k = f.slot k := by simp [Filing.slot]

/-! ### setUsage -/

@[simp] theorem Filing.setUsage_running (m u : Nat) : (f.setUsage m u).running = f.running := by simp [Filing.running]
@[simp] theorem Filing.setUsage_now (m u : Nat) : (f.setUsage m u).now = f.now := by simp [Filing.now]
@[simp] theorem Filing.setUsage_block (m u : Nat) (k : Nat) : (f.setUsage m u).block k = f.block k := by simp [Filing.block]
@[simp] theorem Filing.setUsage_doc (m u : Nat) (k : Nat) : (f.setUsage m u).doc k = f.doc k := by simp [Filing.doc]
@[simp] theorem Filing.setUsage_page (m u : Nat) (k : Nat) : (f.setUsage m u).page k = f.page k := by simp [Filing.page]
@[simp] theorem Filing.setUsage_chan (m u : Nat) (k : Nat) : (f.setUsage m u).chan k = f.chan k := by simp [Filing.chan]
@[simp] theorem Filing.setUsage_binding (m u : Nat) (k : Nat) : (f.setUsage m u).binding k = f.binding k := by simp [Filing.binding]
@[simp] theorem Filing.setUsage_slot (m u : Nat) (k : Nat) : (f.setUsage m u).slot k = f.slot k := by simp [Filing.slot]

/-! ### returnUsage -/

@[simp] theorem Filing.returnUsage_running (m n : Nat) : (f.returnUsage m n).running = f.running := by simp [Filing.running]
@[simp] theorem Filing.returnUsage_now (m n : Nat) : (f.returnUsage m n).now = f.now := by simp [Filing.now]
@[simp] theorem Filing.returnUsage_block (m n : Nat) (k : Nat) : (f.returnUsage m n).block k = f.block k := by simp [Filing.block]
@[simp] theorem Filing.returnUsage_doc (m n : Nat) (k : Nat) : (f.returnUsage m n).doc k = f.doc k := by simp [Filing.doc]
@[simp] theorem Filing.returnUsage_page (m n : Nat) (k : Nat) : (f.returnUsage m n).page k = f.page k := by simp [Filing.page]
@[simp] theorem Filing.returnUsage_chan (m n : Nat) (k : Nat) : (f.returnUsage m n).chan k = f.chan k := by simp [Filing.chan]
@[simp] theorem Filing.returnUsage_binding (m n : Nat) (k : Nat) : (f.returnUsage m n).binding k = f.binding k := by simp [Filing.binding]
@[simp] theorem Filing.returnUsage_slot (m n : Nat) (k : Nat) : (f.returnUsage m n).slot k = f.slot k := by simp [Filing.slot]

/-! ### freeChanged -/

@[simp] theorem Filing.freeChanged_running (n : Nat) : (f.freeChanged n).running = f.running := by simp [Filing.running]
@[simp] theorem Filing.freeChanged_now (n : Nat) : (f.freeChanged n).now = f.now := by simp [Filing.now]
@[simp] theorem Filing.freeChanged_block (n : Nat) (k : Nat) : (f.freeChanged n).block k = f.block k := by simp [Filing.block]
@[simp] theorem Filing.freeChanged_doc (n : Nat) (k : Nat) : (f.freeChanged n).doc k = f.doc k := by simp [Filing.doc]
@[simp] theorem Filing.freeChanged_page (n : Nat) (k : Nat) : (f.freeChanged n).page k = f.page k := by simp [Filing.page]
@[simp] theorem Filing.freeChanged_chan (n : Nat) (k : Nat) : (f.freeChanged n).chan k = f.chan k := by simp [Filing.chan]
@[simp] theorem Filing.freeChanged_mailbox (n : Nat) (k : Nat) : (f.freeChanged n).mailbox k = f.mailbox k := by simp [Filing.mailbox]
@[simp] theorem Filing.freeChanged_route (n : Nat) (k : Nat) : (f.freeChanged n).route k = f.route k := by simp [Filing.route]
@[simp] theorem Filing.freeChanged_binding (n : Nat) (k : Nat) : (f.freeChanged n).binding k = f.binding k := by simp [Filing.binding]
@[simp] theorem Filing.freeChanged_slot (n : Nat) (k : Nat) : (f.freeChanged n).slot k = f.slot k := by simp [Filing.slot]

/-! ### changeDoc -/

@[simp] theorem Filing.changeDoc_running (s : Nat) (d : Doc) : (f.changeDoc s d).running = f.running := by simp [Filing.running]
@[simp] theorem Filing.changeDoc_now (s : Nat) (d : Doc) : (f.changeDoc s d).now = f.now := by simp [Filing.now]
@[simp] theorem Filing.changeDoc_block (s : Nat) (d : Doc) (k : Nat) : (f.changeDoc s d).block k = f.block k := by simp [Filing.block]
@[simp] theorem Filing.changeDoc_chan (s : Nat) (d : Doc) (k : Nat) : (f.changeDoc s d).chan k = f.chan k := by simp [Filing.chan]
@[simp] theorem Filing.changeDoc_mailbox (s : Nat) (d : Doc) (k : Nat) : (f.changeDoc s d).mailbox k = f.mailbox k := by simp [Filing.mailbox]
@[simp] theorem Filing.changeDoc_route (s : Nat) (d : Doc) (k : Nat) : (f.changeDoc s d).route k = f.route k := by simp [Filing.route]
@[simp] theorem Filing.changeDoc_binding (s : Nat) (d : Doc) (k : Nat) : (f.changeDoc s d).binding k = f.binding k := by simp [Filing.binding]
@[simp] theorem Filing.changeDoc_slot (s : Nat) (d : Doc) (k : Nat) : (f.changeDoc s d).slot k = f.slot k := by simp [Filing.slot]

/-! ### changePage -/

@[simp] theorem Filing.changePage_running (p : Nat) (g : Page) : (f.changePage p g).running = f.running := by simp [Filing.running]
@[simp] theorem Filing.changePage_now (p : Nat) (g : Page) : (f.changePage p g).now = f.now := by simp [Filing.now]
@[simp] theorem Filing.changePage_block (p : Nat) (g : Page) (k : Nat) : (f.changePage p g).block k = f.block k := by simp [Filing.block]
@[simp] theorem Filing.changePage_chan (p : Nat) (g : Page) (k : Nat) : (f.changePage p g).chan k = f.chan k := by simp [Filing.chan]
@[simp] theorem Filing.changePage_mailbox (p : Nat) (g : Page) (k : Nat) : (f.changePage p g).mailbox k = f.mailbox k := by simp [Filing.mailbox]
@[simp] theorem Filing.changePage_route (p : Nat) (g : Page) (k : Nat) : (f.changePage p g).route k = f.route k := by simp [Filing.route]
@[simp] theorem Filing.changePage_binding (p : Nat) (g : Page) (k : Nat) : (f.changePage p g).binding k = f.binding k := by simp [Filing.binding]
@[simp] theorem Filing.changePage_slot (p : Nat) (g : Page) (k : Nat) : (f.changePage p g).slot k = f.slot k := by simp [Filing.slot]

/-! ### changeChan -/

@[simp] theorem Filing.changeChan_running (c : Nat) (ch : Channel) : (f.changeChan c ch).running = f.running := by simp [Filing.running]
@[simp] theorem Filing.changeChan_now (c : Nat) (ch : Channel) : (f.changeChan c ch).now = f.now := by simp [Filing.now]
@[simp] theorem Filing.changeChan_block (c : Nat) (ch : Channel) (k : Nat) : (f.changeChan c ch).block k = f.block k := by simp [Filing.block]
@[simp] theorem Filing.changeChan_doc (c : Nat) (ch : Channel) (k : Nat) : (f.changeChan c ch).doc k = f.doc k := by simp [Filing.doc]
@[simp] theorem Filing.changeChan_page (c : Nat) (ch : Channel) (k : Nat) : (f.changeChan c ch).page k = f.page k := by simp [Filing.page]
@[simp] theorem Filing.changeChan_mailbox (c : Nat) (ch : Channel) (k : Nat) : (f.changeChan c ch).mailbox k = f.mailbox k := by simp [Filing.mailbox]
@[simp] theorem Filing.changeChan_route (c : Nat) (ch : Channel) (k : Nat) : (f.changeChan c ch).route k = f.route k := by simp [Filing.route]
@[simp] theorem Filing.changeChan_binding (c : Nat) (ch : Channel) (k : Nat) : (f.changeChan c ch).binding k = f.binding k := by simp [Filing.binding]
@[simp] theorem Filing.changeChan_slot (c : Nat) (ch : Channel) (k : Nat) : (f.changeChan c ch).slot k = f.slot k := by simp [Filing.slot]

/-! ### reportFault -/

@[simp] theorem Filing.reportFault_running (c : Nat) (m : Monitor) (d : Word) : (f.reportFault c m d).running = f.running := by simp [Filing.running]
@[simp] theorem Filing.reportFault_now (c : Nat) (m : Monitor) (d : Word) : (f.reportFault c m d).now = f.now := by simp [Filing.now]
@[simp] theorem Filing.reportFault_block (c : Nat) (m : Monitor) (d : Word) (k : Nat) : (f.reportFault c m d).block k = f.block k := by simp [Filing.block]
@[simp] theorem Filing.reportFault_doc (c : Nat) (m : Monitor) (d : Word) (k : Nat) : (f.reportFault c m d).doc k = f.doc k := by simp [Filing.doc]
@[simp] theorem Filing.reportFault_page (c : Nat) (m : Monitor) (d : Word) (k : Nat) : (f.reportFault c m d).page k = f.page k := by simp [Filing.page]
@[simp] theorem Filing.reportFault_mailbox (c : Nat) (m : Monitor) (d : Word) (k : Nat) : (f.reportFault c m d).mailbox k = f.mailbox k := by simp [Filing.mailbox]
@[simp] theorem Filing.reportFault_route (c : Nat) (m : Monitor) (d : Word) (k : Nat) : (f.reportFault c m d).route k = f.route k := by simp [Filing.route]
@[simp] theorem Filing.reportFault_binding (c : Nat) (m : Monitor) (d : Word) (k : Nat) : (f.reportFault c m d).binding k = f.binding k := by simp [Filing.binding]
@[simp] theorem Filing.reportFault_slot (c : Nat) (m : Monitor) (d : Word) (k : Nat) : (f.reportFault c m d).slot k = f.slot k := by simp [Filing.slot]

/-! ### stray -/

@[simp] theorem Filing.stray_running (c : Nat) (p : StrayPart) : (f.stray c p).running = f.running := by simp [Filing.running]
@[simp] theorem Filing.stray_now (c : Nat) (p : StrayPart) : (f.stray c p).now = f.now := by simp [Filing.now]
@[simp] theorem Filing.stray_block (c : Nat) (p : StrayPart) (k : Nat) : (f.stray c p).block k = f.block k := by simp [Filing.block]
@[simp] theorem Filing.stray_doc (c : Nat) (p : StrayPart) (k : Nat) : (f.stray c p).doc k = f.doc k := by simp [Filing.doc]
@[simp] theorem Filing.stray_page (c : Nat) (p : StrayPart) (k : Nat) : (f.stray c p).page k = f.page k := by simp [Filing.page]
@[simp] theorem Filing.stray_mailbox (c : Nat) (p : StrayPart) (k : Nat) : (f.stray c p).mailbox k = f.mailbox k := by simp [Filing.mailbox]
@[simp] theorem Filing.stray_route (c : Nat) (p : StrayPart) (k : Nat) : (f.stray c p).route k = f.route k := by simp [Filing.route]
@[simp] theorem Filing.stray_binding (c : Nat) (p : StrayPart) (k : Nat) : (f.stray c p).binding k = f.binding k := by simp [Filing.binding]
@[simp] theorem Filing.stray_slot (c : Nat) (p : StrayPart) (k : Nat) : (f.stray c p).slot k = f.slot k := by simp [Filing.slot]

/-! ### latchProtection -/

@[simp] theorem Filing.latchProtection_running (m : BitVec 5) (c : AddrClass) : (f.latchProtection m c).running = f.running := by simp [Filing.running]
@[simp] theorem Filing.latchProtection_now (m : BitVec 5) (c : AddrClass) : (f.latchProtection m c).now = f.now := by simp [Filing.now]
@[simp] theorem Filing.latchProtection_block (m : BitVec 5) (c : AddrClass) (k : Nat) : (f.latchProtection m c).block k = f.block k := by simp [Filing.block]
@[simp] theorem Filing.latchProtection_doc (m : BitVec 5) (c : AddrClass) (k : Nat) : (f.latchProtection m c).doc k = f.doc k := by simp [Filing.doc]
@[simp] theorem Filing.latchProtection_page (m : BitVec 5) (c : AddrClass) (k : Nat) : (f.latchProtection m c).page k = f.page k := by simp [Filing.page]
@[simp] theorem Filing.latchProtection_chan (m : BitVec 5) (c : AddrClass) (k : Nat) : (f.latchProtection m c).chan k = f.chan k := by simp [Filing.chan]
@[simp] theorem Filing.latchProtection_mailbox (m : BitVec 5) (c : AddrClass) (k : Nat) : (f.latchProtection m c).mailbox k = f.mailbox k := by simp [Filing.mailbox]
@[simp] theorem Filing.latchProtection_route (m : BitVec 5) (c : AddrClass) (k : Nat) : (f.latchProtection m c).route k = f.route k := by simp [Filing.route]
@[simp] theorem Filing.latchProtection_binding (m : BitVec 5) (c : AddrClass) (k : Nat) : (f.latchProtection m c).binding k = f.binding k := by simp [Filing.binding]
@[simp] theorem Filing.latchProtection_slot (m : BitVec 5) (c : AddrClass) (k : Nat) : (f.latchProtection m c).slot k = f.slot k := by simp [Filing.slot]

/-! ### demand -/

@[simp] theorem Filing.demand_running (r : RecordId) : (f.demand r).running = f.running := by simp [Filing.running]
@[simp] theorem Filing.demand_now (r : RecordId) : (f.demand r).now = f.now := by simp [Filing.now]
@[simp] theorem Filing.demand_block (r : RecordId) (k : Nat) : (f.demand r).block k = f.block k := by simp [Filing.block]
@[simp] theorem Filing.demand_doc (r : RecordId) (k : Nat) : (f.demand r).doc k = f.doc k := by simp [Filing.doc]
@[simp] theorem Filing.demand_page (r : RecordId) (k : Nat) : (f.demand r).page k = f.page k := by simp [Filing.page]
@[simp] theorem Filing.demand_chan (r : RecordId) (k : Nat) : (f.demand r).chan k = f.chan k := by simp [Filing.chan]
@[simp] theorem Filing.demand_mailbox (r : RecordId) (k : Nat) : (f.demand r).mailbox k = f.mailbox k := by simp [Filing.mailbox]
@[simp] theorem Filing.demand_route (r : RecordId) (k : Nat) : (f.demand r).route k = f.route k := by simp [Filing.route]
@[simp] theorem Filing.demand_binding (r : RecordId) (k : Nat) : (f.demand r).binding k = f.binding k := by simp [Filing.binding]
@[simp] theorem Filing.demand_slot (r : RecordId) (k : Nat) : (f.demand r).slot k = f.slot k := by simp [Filing.slot]

/-! ### forwardServed -/

@[simp] theorem Filing.forwardServed_running (c : Nat) : (f.forwardServed c).running = f.running := by simp [Filing.running]
@[simp] theorem Filing.forwardServed_now (c : Nat) : (f.forwardServed c).now = f.now := by simp [Filing.now]
@[simp] theorem Filing.forwardServed_block (c : Nat) (k : Nat) : (f.forwardServed c).block k = f.block k := by simp [Filing.block]
@[simp] theorem Filing.forwardServed_doc (c : Nat) (k : Nat) : (f.forwardServed c).doc k = f.doc k := by simp [Filing.doc]
@[simp] theorem Filing.forwardServed_page (c : Nat) (k : Nat) : (f.forwardServed c).page k = f.page k := by simp [Filing.page]
@[simp] theorem Filing.forwardServed_mailbox (c : Nat) (k : Nat) : (f.forwardServed c).mailbox k = f.mailbox k := by simp [Filing.mailbox]
@[simp] theorem Filing.forwardServed_route (c : Nat) (k : Nat) : (f.forwardServed c).route k = f.route k := by simp [Filing.route]
@[simp] theorem Filing.forwardServed_binding (c : Nat) (k : Nat) : (f.forwardServed c).binding k = f.binding k := by simp [Filing.binding]
@[simp] theorem Filing.forwardServed_slot (c : Nat) (k : Nat) : (f.forwardServed c).slot k = f.slot k := by simp [Filing.slot]

/-! ### Within one table -/

@[simp] theorem Filing.setDoc_page (s : Nat) (d : Doc) (k : Nat) : (f.setDoc s d).page k = f.page k := rfl
@[simp] theorem Filing.setPage_doc (p : Nat) (g : Page) (k : Nat) : (f.setPage p g).doc k = f.doc k := rfl
@[simp] theorem Filing.setRecipient_page (s k : Nat) (r : Recipient) (j : Nat) : (f.setRecipient s k r).page j = f.page j := rfl
@[simp] theorem Filing.changeDoc_page (s : Nat) (d : Doc) (k : Nat) : (f.changeDoc s d).page k = f.page k := by
  unfold Filing.changeDoc; split_ifs <;> rfl
@[simp] theorem Filing.changePage_doc (p : Nat) (g : Page) (k : Nat) : (f.changePage p g).doc k = f.doc k := by
  unfold Filing.changePage; split_ifs <;> rfl
@[simp] theorem Filing.setBox_route (m : Nat) (b : Mailbox) (e : Nat) : (f.setBox m b).route e = f.route e := rfl
@[simp] theorem Filing.setRoute_mailbox (e : Nat) (r : Option Route) (m : Nat) :
    (f.setRoute e r).mailbox m = f.mailbox m := rfl

theorem Doc.recipient_setRecipient (d : Doc) (k : Nat) (r : Recipient) : (d.setRecipient k r).recipient k = r := by
  simp [Doc.recipient, Doc.setRecipient, Tbl.find_put_self]
theorem Doc.recipient_setRecipient_ne (d : Doc) {k j : Nat} (r : Recipient) (h : j ≠ k) :
    (d.setRecipient k r).recipient j = d.recipient j := by
  simp [Doc.recipient, Doc.setRecipient, Tbl.find_put_ne _ _ h]

/-- The document after a recipient of it is set. -/
@[simp] theorem Filing.doc_setRecipient (s k : Nat) (r : Recipient) :
    (f.setRecipient s k r).doc s = (f.doc s).setRecipient k r := by
  simp [Filing.setRecipient, Filing.doc, Filing.setDoc, Tbl.find_put_self]
theorem Filing.doc_setRecipient_ne {s t k : Nat} (r : Recipient) (h : t ≠ s) : (f.setRecipient s k r).doc t = f.doc t := by
  simp [Filing.setRecipient, Filing.doc, Filing.setDoc, Tbl.find_put_ne _ _ h]

end Sys2Proof.Machine
end

