-- ==== Sys2Proof/Laws/Steps.lean ====
section
/-! SUPPORT. What each kind of step does, once: a settled state is left as it is by `settle`, and the shared shapes of the
meanings (drain, read, grant, start-up unit) reduce to their owner's part under hypotheses on the state alone. -/

namespace Sys2Proof.Machine

/-! ## Settling -/

theorem foldl_fixed {α β : Type} (g : β → α → β) (l : List α) (b : β) (h : ∀ a ∈ l, g b a = b) : l.foldl g b = b := by
  induction l with
  | nil => rfl
  | cons a l ih =>
    simp only [List.foldl_cons]
    rw [h a (by simp)]
    exact ih (fun x hx => h x (List.mem_cons_of_mem _ hx))

/-- Where nothing is owed, settling changes nothing. -/
theorem Filing.settle_of_settled (f : Filing) (h : f.settled = true) : f.settle = f := by
  simp only [Filing.settled, Bool.and_eq_true, List.all_eq_true, Bool.not_eq_true', Bool.or_eq_false_iff] at h
  obtain ⟨⟨⟨h1, h2⟩, h3⟩, h4⟩ := h
  have e1 : channelNumbers.foldl (fun f c => f.settleChannel c) f = f :=
    foldl_fixed _ _ _ (fun c hc => by
      obtain ⟨⟨a, b⟩, d⟩ := h1 c hc
      simp [Filing.settleChannel, a, b, d])
  simp [Filing.settle, e1, h2, h3, h4]

theorem State.settle_of_settled (s : State) (h : s.filing.settled = true) : s.settle = s := by
  simp [State.settle, Filing.settle_of_settled _ h]

/-! ## Shapes of meanings -/

/-- A drain of row `row` on an undrained head of that row. -/
theorem State.drainAs_eq {s : State} {row : DrainRow} {act : Staged → State → State} {x : Staged} {q : List Staged}
    (hs : s.filing.settled = true) (hh : s.board.head = none) (hq : s.board.queue = x :: q) (hr : s.drainRow x = row) :
    s.drainAs row act = .next (act x s) := by
  simp [State.drainAs, State.settle_of_settled s hs, hh, hq, hr]

/-- A drain answers a next state whatever the head is: the settled state, or the drained one. -/
theorem State.drainAs_cases (s : State) (row : DrainRow) (act : Staged → State → State) :
    s.drainAs row act = .next s.settle ∨
      ∃ x q, s.board.queue = x :: q ∧ s.board.head = none ∧ s.settle.drainRow x = row ∧
        s.drainAs row act = .next (act x s.settle) := by
  unfold State.drainAs
  simp only [State.settle_board]
  split
  · rename_i h1 h2
    split_ifs with h3
    · exact .inr ⟨_, _, h2, h1, h3, rfl⟩
    · exact .inl rfl
  · exact .inl rfl

/-- A read of row `row` that the port takes. -/
theorem State.readAs_eq {s : State} {row : ReadRow} {act : AddrClass → State → State} {m : BitVec 5} {addr : Word}
    {w : Width} (ha : aligned addr w = true) (hs : s.filing.settled = true) (ht : s.canTake = true)
    (hr : readRow m.toNat (s.classify addr) = row) :
    s.readAs row act m addr w = .next (act (s.classify addr) s) := by
  simp [State.readAs, ha, State.settle_of_settled s hs, ht, hr]

/-- The next grant goes to kind k. -/
theorem State.grantAs_eq {s : State} {k : Kind} {act : State → Answer} (hs : s.filing.settled = true)
    (hk : s.nextKind = some k) : s.grantAs k act = act (s.granted k) := by
  simp [State.grantAs, State.settle_of_settled s hs, hk]

/-- A grant's command answers the settled state, or its unit's outcome. -/
theorem State.grantAs_cases (s : State) (k : Kind) (act : State → Answer) :
    s.grantAs k act = .next s.settle ∨
      (s.settle.nextKind = some k ∧ s.grantAs k act = act (s.settle.granted k)) := by
  unfold State.grantAs
  dsimp only
  split_ifs with h
  · exact .inr ⟨h, rfl⟩
  · exact .inl rfl

/-- A start-up unit in its phase, granted as kind 5. -/
theorem State.startUnit_eq {s : State} {p : Phase → Bool} {act : State → State} (hp : p s.filing.boot.phase = true)
    (hk : s.nextKind = some .flush) : s.startUnit p act = .next (act (s.granted .flush)) := by
  simp [State.startUnit, hp, hk]

/-- A start-up command answers its state, or the state after its unit. -/
theorem State.startUnit_cases (s : State) (p : Phase → Bool) (act : State → State) :
    s.startUnit p act = .next s ∨
      (p s.filing.boot.phase = true ∧ s.nextKind = some .flush ∧ s.startUnit p act = .next (act (s.granted .flush))) := by
  unfold State.startUnit
  split_ifs with h
  · simp only [Bool.and_eq_true, beq_iff_eq] at h
    exact .inr ⟨h.1, h.2, rfl⟩
  · exact .inl rfl

/-! ## The arbiter -/

/-- A kind that is granted has work waiting. -/
theorem State.nextKind_waits {s : State} {k : Kind} (h : s.nextKind = some k) : s.waits k = true :=
  List.find?_some h

/-- At the limit the part's own work goes first. -/
theorem State.nextKind_starved {s : State} {k : Kind} (h : s.nextKind = some k) (hs : Config.starveLimit ≤ s.board.starve)
    (hi : s.internalWaits = true) : k.isBoard = false := by
  have hm := List.mem_of_find?_eq_some h
  simp only [State.order, hs, hi, and_self, ↓reduceIte, List.mem_cons, List.not_mem_nil, or_false] at hm
  rcases hm with rfl | rfl | rfl <;> rfl

/-- The starvation count stays within its limit (R16). -/
theorem State.granted_starve_le {s : State} {k : Kind} (h : s.nextKind = some k) :
    (s.granted k).board.starve ≤ Config.starveLimit := by
  show s.starveAfter k ≤ _
  unfold State.starveAfter
  split_ifs with hb
  · simp only [Bool.and_eq_true] at hb
    by_cases hl : Config.starveLimit ≤ s.board.starve
    · have := State.nextKind_starved h hl hb.2
      rw [this] at hb; simp at hb
    · omega
  · exact Nat.zero_le _

end Sys2Proof.Machine
end

