-- ==== Sys2Proof/Laws/Conditions.lean ====
section
/-! SUPPORT. What the conditions of Safety.lean say, and each shared shape of a meaning under them. -/

namespace Sys2Proof.Machine

theorem State.calm_iff (s : State) : s.calm = true ↔ s.filing.boot.phase = .running ∧ s.filing.settled = true := by
  simp [State.calm, Filing.running]

theorem State.offers_iff (s : State) (x : Staged) :
    s.offers x = true ↔ s.board.head = none ∧ ∃ q, s.board.queue = x :: q := by
  unfold State.offers
  cases s.board.queue <;> simp

theorem State.drains_iff (s : State) (x : Staged) :
    s.drains x = true ↔ s.filing.boot.phase = .running ∧ s.filing.settled = true ∧ s.board.head = none ∧
      (∃ q, s.board.queue = x :: q) ∧ x.cls.writeAllowed x.write.master.toNat = true := by
  simp only [State.drains, Bool.and_eq_true, State.calm_iff, State.offers_iff]
  tauto

theorem State.reads_iff (s : State) (addr : Word) (w : Width) :
    s.reads addr w = true ↔ s.filing.boot.phase = .running ∧ s.filing.settled = true ∧ s.canTake = true ∧
      aligned addr w = true := by
  simp only [State.reads, Bool.and_eq_true, State.calm_iff]
  tauto

theorem State.grants_iff (s : State) (k : Kind) :
    s.grants k = true ↔ s.filing.boot.phase = .running ∧ s.filing.settled = true ∧ s.nextKind = some k := by
  simp only [State.grants, Bool.and_eq_true, State.calm_iff, beq_iff_eq]
  tauto

theorem State.startsAt_iff (s : State) (p : Phase) :
    s.startsAt p = true ↔ s.filing.boot.phase = p ∧ s.nextKind = some .flush := by
  simp [State.startsAt]

/-- A drain of its row, where the write at the head drains. -/
theorem State.drainAs_of_drains {s : State} {row : DrainRow} {act : Staged → State → State} {x : Staged}
    (h : s.drains x = true) (hr : s.filing.drainRow x = row) : s.drainAs row act = .next (act x s) := by
  obtain ⟨hp, hs, hh, ⟨q, hq⟩, ha⟩ := (State.drains_iff s x).mp h
  refine State.drainAs_eq hs hh hq ?_
  simp [State.drainRow, ha, Filing.running, hp, hr]

/-- A read of its row, where the port takes one. -/
theorem State.readAs_of_reads {s : State} {row : ReadRow} {act : AddrClass → State → State} {m : BitVec 5} {addr : Word}
    {w : Width} (h : s.reads addr w = true) (hr : readRow m.toNat (s.classify addr) = row) :
    s.readAs row act m addr w = .next (act (s.classify addr) s) := by
  obtain ⟨_, hs, ht, ha⟩ := (State.reads_iff s addr w).mp h
  exact State.readAs_eq ha hs ht hr

/-- A unit of its kind, where the next grant goes to it. -/
theorem State.grantAs_of_grants {s : State} {k : Kind} {act : State → Answer} (h : s.grants k = true) :
    s.grantAs k act = act (s.granted k) := by
  obtain ⟨_, hs, hk⟩ := (State.grants_iff s k).mp h
  exact State.grantAs_eq hs hk

/-- A drain with a store destination leaves the write waiting at the head. -/
theorem State.drainTo_of_dest {x : Staged} {f : Filing} {s : State} {d : Dest} (h : x.cls.dest = some d) :
    s.drainTo x f = { s with board := s.board.await d, filing := f } := by
  simp [State.drainTo, State.drained, h, Board.await]

/-- With no read in the port, a head that leaves changes nothing else. -/
theorem State.leaveQueue_of_idle {s : State} (h : s.board.port = .idle) :
    s.leaveQueue = { s with board := { s.board with queue := s.board.queue.tail, head := none } } := by
  simp [State.leaveQueue, State.recheckRead, h]

/-! ## Header captures -/

/-- A write to a header slot word replaces its bytes of the captured word, and nothing else (R35, R38). -/
theorem Filing.captureWrite_landing (f : Filing) (x : Staged) (c o : Nat) (h : x.cls = .landing c o) :
    f.captureWrite x = f.setChan c { f.chan c with
      header := Tbl.put (f.chan c).header ((o - 1048448) / 4)
        (overlayWord ((f.chan c).headerWord ((o - 1048448) / 4)) ((o - 1048448) % 4) x.write.bytes) } := by
  simp only [Filing.captureWrite, AddrClass.channelOffset, h, Filing.captureHeader, Config.dataAreaBytes]

/-- A 32-bit call word is captured whole as header word 15. -/
theorem Filing.captureWrite_callWord (f : Filing) (x : Staged) (c : Nat) (h : x.cls = .landing c 1048508)
    (hw : x.write.width = .full) :
    f.captureWrite x = f.setChan c { f.chan c with header := Tbl.put (f.chan c).header 15 x.write.data } := by
  have e : overlayWord ((f.chan c).headerWord 15) 0 x.write.bytes = x.write.data := by
    simp only [overlayWord, BoardWrite.bytes, hw, Width.bytes]
    rw [List.take_of_length_le (l := wordBytes x.write.data) (by simp [wordBytes])]
    simp only [List.take_zero, List.nil_append]
    rw [List.drop_eq_nil_of_le (by simp [wordBytes]), List.append_nil, bytesWord_wordBytes]
  rw [f.captureWrite_landing x c _ h]
  exact congrArg (fun w => f.setChan c { f.chan c with header := Tbl.put (f.chan c).header 15 w }) e

end Sys2Proof.Machine
end

