-- ==== Sys2Proof/Laws/Layouts.lean ====
section
/-! SUPPORT. The entries and words that Safety.lean spells out are those that the model produces and writes. -/

namespace Sys2Proof.Machine

theorem ResultCode.idxOf_resultCodes (c : ResultCode) : resultCodes.idxOf c = c.code := by cases c <;> decide

theorem NoticeKind.idxOf_noticeKinds (k : NoticeKind) : noticeKinds.idxOf k + 1 = k.code := by cases k <;> decide

theorem Monitor.idxOf_monitorOrder (m : Monitor) : monitorOrder.idxOf m = m.code := by cases m <;> decide

theorem Filing.produceResult_eq (f : Filing) (k tag : Nat) (code : ResultCode) (args : List Word) (time : Time)
    (own : Bool) : f.produceResult k tag code args time own = f.withResult k tag code args time own := by
  simp only [Filing.produceResult, Filing.withResult, ResultCode.idxOf_resultCodes]
  rfl

theorem Filing.produceNotice_eq (f : Filing) (n : Notice) : f.produceNotice n = f.withNotice n := by
  simp only [Filing.produceNotice, Filing.withNotice, NoticeKind.idxOf_noticeKinds]
  rfl

theorem Ring.not_isFull_iff (f : Filing) : f.ring.isFull = false ↔ f.ringRoom := by
  simp [Ring.isFull, Filing.ringRoom]

theorem Filing.hasRoom_iff (f : Filing) : f.hasRoom = true ↔ f.roomy := by
  simp [Filing.hasRoom, Ring.isFull, Filing.roomy, Filing.ringRoom, and_assoc]

/-! ## Words -/

theorem packWord_none : packWord [(0, 8, 0), (16, 16, 0)] = 0#32 := by decide

theorem Entry.words_eq_layout (e : Entry) : e.words = e.layout := by
  unfold Entry.words Entry.layout
  cases e.slot
  · simp only [Option.getD_none, packWord_none]; rfl
  · rfl

theorem BlockEntry.word_eq_layout (b : BlockEntry) : b.word = b.layout := by
  obtain ⟨st, ix, nx⟩ := b
  cases st <;> cases nx <;> simp [BlockEntry.word, BlockEntry.layout, packWord, flag, BlockState.code]

theorem digitByte_eq (ds : List Digit) : ds.map digitByte = textOf ds := by
  have h : ∀ d : Digit, digitByte d = [0x30, 0x31, 0x32, 0x33, 0x34, 0x35, 0x36, 0x37, 0x38, 0x39, 0x2A, 0x23].getD d.val 0 :=
    by decide
  exact List.map_congr_left fun d _ => h d

theorem bytesWord_cons_toNat (b : Byte) (bs : List Byte) (n : Nat) (h : (bytesWord bs).toNat = n) (hn : n < 2 ^ 24) :
    (bytesWord (b :: bs)).toNat = b.toNat + 256 * n := by
  have := b.isLt
  rw [bytesWord, h, BitVec.toNat_ofNat, Nat.mod_eq_of_lt (by omega)]

/-- The sum that `packWord` takes, field by field. -/
theorem sum_field (lo len v : Nat) (xs : List (Nat × Nat × Nat)) :
    (((lo, len, v) :: xs).map fun x => x.2.2 % 2 ^ x.2.1 * 2 ^ x.1).sum =
      v % 2 ^ len * 2 ^ lo + (xs.map fun x => x.2.2 % 2 ^ x.2.1 * 2 ^ x.1).sum := by
  rw [List.map_cons, List.sum_cons]

theorem bytesWord_four (a b c d : Byte) :
    bytesWord [a, b, c, d] = packWord [(0, 8, a.toNat), (8, 8, b.toNat), (16, 8, c.toNat), (24, 8, d.toNat)] := by
  have ha := a.isLt; have hb := b.isLt; have hc := c.isLt; have hd := d.isLt
  have h0 : (bytesWord []).toNat = 0 := rfl
  have h1 := bytesWord_cons_toNat d [] 0 h0 (by decide)
  have h2 := bytesWord_cons_toNat c [d] _ h1 (by omega)
  have h3 := bytesWord_cons_toNat b [c, d] _ h2 (by omega)
  have h4 := bytesWord_cons_toNat a [b, c, d] _ h3 (by omega)
  refine BitVec.eq_of_toNat_eq (h4.trans ?_)
  rw [packWord, BitVec.toNat_ofNat, sum_field, sum_field, sum_field, sum_field, List.map_nil, List.sum_nil,
    Nat.mod_eq_of_lt ha, Nat.mod_eq_of_lt hb, Nat.mod_eq_of_lt hc, Nat.mod_eq_of_lt hd, Nat.mod_eq_of_lt] <;> omega

theorem bytesWords_eq_textWords (n : Nat) (bs : List Byte) (h : 4 * n ≤ bs.length) : bytesWords n bs = textWords n bs := by
  induction n generalizing bs with
  | zero => rfl
  | succ n ih =>
    match bs, h with
    | a :: b :: c :: d :: r, h =>
      simp only [List.length_cons] at h
      have := ih r (by omega)
      simp only [bytesWords, List.take, List.drop, bytesWord_four, this]
      simp only [textWords, List.range_succ_eq_map, List.map_cons, List.map_map]
      congr 1

theorem textWords_append_zeros (n k : Nat) (bs : List Byte) : textWords n (bs ++ List.replicate k 0) = textWords n bs := by
  have h (i : Nat) : (bs ++ List.replicate k 0).getD i 0 = bs.getD i 0 := by
    simp only [List.getD_eq_getElem?_getD, List.getElem?_append, List.getElem?_replicate]
    split_ifs <;> simp_all
  simp only [textWords, h]

theorem textWords_take (n m : Nat) (bs : List Byte) (h : 4 * n ≤ m) : textWords n (bs.take m) = textWords n bs := by
  simp only [textWords]
  refine List.map_congr_left fun i hi => ?_
  congr 1
  refine List.map_congr_left fun j hj => ?_
  simp only [List.mem_range] at hi hj
  simp [List.getD_eq_getElem?_getD, show 4 * i + j < m by omega]

theorem paddedWords_eq_textWords (n : Nat) (bs : List Byte) : paddedWords n bs = textWords n bs := by
  rw [paddedWords, bytesWords_eq_textWords _ _ (by simp), textWords_take _ _ _ le_rfl, textWords_append_zeros]

theorem digitWords_eq_textWords (n : Nat) (ds : List Digit) : digitWords n ds = textWords n (textOf ds) := by
  rw [digitWords, paddedWords_eq_textWords, digitByte_eq]

/-! ## Records -/

theorem withCheck_eq (ws : List Word) : withCheck ws = ws ++ [checkWord ws] := rfl

/-- A record of n words: the words given, unused words zero, the check word. -/
theorem sealed_eq_withCheck (n k : Nat) (ws : List Word) (h : ws.length + k + 1 = n) :
    sealed n ws = withCheck (ws ++ List.replicate k 0) := by
  have : (ws ++ List.replicate n 0).take (n - 1) = ws ++ List.replicate k 0 := by
    rw [List.take_append, List.take_of_length_le (by omega), List.take_replicate]
    congr 2
    omega
  rw [sealed, withCheck_eq, this]

theorem sealed_of_length (n : Nat) (ws : List Word) (h : ws.length + 1 = n) : sealed n ws = withCheck ws := by
  simpa using sealed_eq_withCheck n 0 ws h

theorem DocState.idxOf_eq (x : DocState) : [DocState.free, .receiving, .filed, .review].idxOf x = x.code := by
  cases x <;> decide

theorem Closure.idxOf_eq (x : Closure) :
    [Closure.opened, .lastPage, .callEnded, .stalled, .gapExpired, .aborted, .refused, .recovered].idxOf x = x.code := by
  cases x <;> decide

theorem RecipientState.idxOf_eq (x : RecipientState) :
    [RecipientState.empty, .pending, .ready, .active, .retryWait, .done, .failed, .cancelled].idxOf x = x.code := by
  cases x <;> decide

theorem MailClass.idxOf_eq (x : MailClass) : [MailClass.urgent, .normal, .bulk].idxOf x = x.code := by cases x <;> decide

theorem ChannelState.idxOf_eq (x : ChannelState) :
    [ChannelState.idle, .gap, .page, .discard, .send, .locked].idxOf x = x.code := by cases x <;> decide

theorem PageState.idxOf_eq (x : PageState) : [PageState.free, .landing, .closed].idxOf x = x.code := by cases x <;> decide

theorem Recipient.words_eq_layout (r : Recipient) : r.words = r.layout := by
  simp only [Recipient.words, Recipient.layout, digitWords_eq_textWords, RecipientState.idxOf_eq, MailClass.idxOf_eq]
  rcases r.channel with _ | c <;> rfl

theorem textWords_length (n : Nat) (bs : List Byte) : (textWords n bs).length = n := by simp [textWords]

theorem Recipient.layout_length (r : Recipient) : r.layout.length = 10 := by
  simp [Recipient.layout, textWords_length]

theorem refWord_eq (v : Option Nat) : refWord v = referenceOf v := by cases v <;> rfl

theorem small_eq (v : Option Nat) : small v = fieldOf v := by cases v <;> rfl

theorem flag_eq (b : Bool) : flag b = bitOf b := rfl

theorem Doc.words_eq_layout (d : Doc) : d.words = d.layout := by
  simp only [Doc.words, Doc.layout, digitWords_eq_textWords, paddedWords_eq_textWords, DocState.idxOf_eq,
    Closure.idxOf_eq, Recipient.words_eq_layout, refWord_eq, small_eq, flag_eq, places]
  rw [sealed_eq_withCheck _ 3 _ (by simp [textWords_length, Recipient.layout_length])]
  simp only [List.flatMap_cons, List.flatMap_nil, List.append_nil, List.append_assoc]
  rfl

theorem Mailbox.words_eq_layout (b : Mailbox) : b.words = b.layout := by
  simp only [Mailbox.words, Mailbox.layout, digitWords_eq_textWords, MailClass.idxOf_eq, flag_eq, Mailbox.target, argNat]
  exact sealed_of_length _ _ (by simp [textWords_length])

theorem routeWords_eq_layout (r : Option Route) : routeWords r = routeLayout r := by
  rcases r with _ | ⟨k, p, m⟩
  · exact sealed_of_length 4 [0, 0, 0] rfl
  · cases k <;> exact sealed_of_length 4 _ rfl

theorem Policy.words_eq_layout (p : Policy) : p.words = p.layout := rfl

theorem Page.flagBits_eq (g : Page) (r : List (Nat × Nat × Nat)) :
    packWord ((0, 2, g.state.code) :: (2, 4, g.flagBits) :: r) =
      packWord ((0, 2, g.state.code) :: (2, 1, bitOf g.truncated) :: (3, 1, bitOf g.estimated) :: (4, 1, bitOf g.short) ::
        (5, 1, bitOf g.parity) :: r) := by
  have h : g.flagBits % 2 ^ 4 * 2 ^ 2 = bitOf g.truncated % 2 ^ 1 * 2 ^ 2 + (bitOf g.estimated % 2 ^ 1 * 2 ^ 3 +
      (bitOf g.short % 2 ^ 1 * 2 ^ 4 + bitOf g.parity % 2 ^ 1 * 2 ^ 5)) := by
    unfold Page.flagBits
    cases g.truncated <;> cases g.estimated <;> cases g.short <;> cases g.parity <;> decide
  simp only [packWord, sum_field]
  rw [h]
  simp only [Nat.add_assoc]

theorem Page.words_eq_layout (g : Page) :
    g.words = g.layout.1 ++ [0xFFFFFFFF#32 - (g.layout.1 ++ [g.layout.2]).foldl (· + ·) 0, g.layout.2] := by
  simp only [Page.words, Page.layout, PageState.idxOf_eq, Page.flagBits_eq]
  rfl

theorem Channel.words_eq_layout (ch : Channel) : ch.words = ch.layout := by
  simp only [Channel.words, Channel.layout, refWord_eq, small_eq, flag_eq, ChannelState.idxOf_eq, Monitor.idxOf_monitorOrder]
  rfl

theorem Filing.statusWords_eq_layout (f : Filing) (h : f.boot.phase = .running) : f.statusWords = f.statusLayout := by
  simp only [Filing.statusWords, Filing.statusLayout, Monitor.idxOf_monitorOrder, h]
  cases f.monitors.capture <;> simp only [captureWords, refWord_eq, small_eq] <;> rfl

/-- What a flush writes is the record's layout. -/
theorem Filing.segments_eq_layout (f : Filing) (r : RecordId) (h : f.boot.phase = .running) : f.segments r = f.layout r := by
  cases r with
  | layoutHeader => exact congrArg (fun x => [(0, x)]) (sealed_of_length 8 [_, _, _, _, 0, 0, 0] rfl)
  | status => simp only [Filing.segments, Filing.layout, f.statusWords_eq_layout h, Config.statusBase]
  | channel c => simp only [Filing.segments, Filing.layout, Channel.words_eq_layout, Config.channelBase]
  | mailbox m => simp only [Filing.segments, Filing.layout, Mailbox.words_eq_layout, Config.mailboxBase]
  | route e => simp only [Filing.segments, Filing.layout, routeWords_eq_layout, Config.routeBase]
  | policy => rfl
  | document k => simp only [Filing.segments, Filing.layout, Doc.words_eq_layout, Config.docBase]
  | page p => simp only [Filing.segments, Filing.layout, Page.words_eq_layout, Config.pageBase, Config.pageTimeBase]; rfl
  | block n => simp only [Filing.segments, Filing.layout, BlockEntry.word_eq_layout, Config.blockBase]

end Sys2Proof.Machine
end

