-- ==== Sys2Proof/Laws/Owners.lean ====
section
/-! SUPPORT. What the owners' own operations leave alone: the Block Table's moves, a page's and a document's close, release,
recipients and attempts, bindings, the ends of calls. -/

namespace Sys2Proof.Machine

/-- A fold keeps what each of its steps keeps. -/
theorem foldl_keeps {α β γ : Type} (p : β → γ) (g : β → α → β) (l : List α) (b : β) (h : ∀ b a, p (g b a) = p b) :
    p (l.foldl g b) = p b := by
  induction l generalizing b with
  | nil => rfl
  | cons a l ih => simp only [List.foldl_cons]; rw [ih, h]

variable (f : Filing)

/-! ### scrubAll -/

@[simp] theorem Filing.scrubAll_boot (ns : List Nat) : (f.scrubAll ns).boot = f.boot := by
  unfold Filing.scrubAll; dsimp only; split_ifs <;> simp <;> exact foldl_keeps Filing.boot _ _ _ (by intros; simp)
@[simp] theorem Filing.scrubAll_running (ns : List Nat) : (f.scrubAll ns).running = f.running := by
  simp [Filing.running]
@[simp] theorem Filing.scrubAll_clock (ns : List Nat) : (f.scrubAll ns).clock = f.clock := by
  unfold Filing.scrubAll; dsimp only; split_ifs <;> simp <;> exact foldl_keeps Filing.clock _ _ _ (by intros; simp)
@[simp] theorem Filing.scrubAll_now (ns : List Nat) : (f.scrubAll ns).now = f.now := by
  simp [Filing.now]
@[simp] theorem Filing.scrubAll_scrubber (ns : List Nat) : (f.scrubAll ns).scrubber = f.scrubber := by
  unfold Filing.scrubAll; dsimp only; split_ifs <;> simp <;> exact foldl_keeps Filing.scrubber _ _ _ (by intros; simp)
@[simp] theorem Filing.scrubAll_dir (ns : List Nat) : (f.scrubAll ns).dir = f.dir := by
  unfold Filing.scrubAll; dsimp only; split_ifs <;> simp <;> exact foldl_keeps Filing.dir _ _ _ (by intros; simp)
@[simp] theorem Filing.scrubAll_doc (ns : List Nat) (k : Nat) : (f.scrubAll ns).doc k = f.doc k := by
  simp [Filing.doc]
@[simp] theorem Filing.scrubAll_page (ns : List Nat) (k : Nat) : (f.scrubAll ns).page k = f.page k := by
  simp [Filing.page]
@[simp] theorem Filing.scrubAll_channels (ns : List Nat) : (f.scrubAll ns).channels = f.channels := by
  unfold Filing.scrubAll; dsimp only; split_ifs <;> simp <;> exact foldl_keeps Filing.channels _ _ _ (by intros; simp)
@[simp] theorem Filing.scrubAll_chan (ns : List Nat) (k : Nat) : (f.scrubAll ns).chan k = f.chan k := by
  simp [Filing.chan]
@[simp] theorem Filing.scrubAll_boxes (ns : List Nat) : (f.scrubAll ns).boxes = f.boxes := by
  unfold Filing.scrubAll; dsimp only; split_ifs <;> simp <;> exact foldl_keeps Filing.boxes _ _ _ (by intros; simp)
@[simp] theorem Filing.scrubAll_mailbox (ns : List Nat) (k : Nat) : (f.scrubAll ns).mailbox k = f.mailbox k := by
  simp [Filing.mailbox]
@[simp] theorem Filing.scrubAll_route (ns : List Nat) (k : Nat) : (f.scrubAll ns).route k = f.route k := by
  simp [Filing.route]
@[simp] theorem Filing.scrubAll_queue (ns : List Nat) : (f.scrubAll ns).queue = f.queue := by
  unfold Filing.scrubAll; dsimp only; split_ifs <;> simp <;> exact foldl_keeps Filing.queue _ _ _ (by intros; simp)
@[simp] theorem Filing.scrubAll_bindings (ns : List Nat) : (f.scrubAll ns).bindings = f.bindings := by
  unfold Filing.scrubAll; dsimp only; split_ifs <;> simp <;> exact foldl_keeps Filing.bindings _ _ _ (by intros; simp)
@[simp] theorem Filing.scrubAll_binding (ns : List Nat) (k : Nat) : (f.scrubAll ns).binding k = f.binding k := by
  simp [Filing.binding]
@[simp] theorem Filing.scrubAll_posting (ns : List Nat) : (f.scrubAll ns).posting = f.posting := by
  unfold Filing.scrubAll; dsimp only; split_ifs <;> simp <;> exact foldl_keeps Filing.posting _ _ _ (by intros; simp)
@[simp] theorem Filing.scrubAll_slot (ns : List Nat) (k : Nat) : (f.scrubAll ns).slot k = f.slot k := by
  simp [Filing.slot]
@[simp] theorem Filing.scrubAll_ring (ns : List Nat) : (f.scrubAll ns).ring = f.ring := by
  unfold Filing.scrubAll; dsimp only; split_ifs <;> simp <;> exact foldl_keeps Filing.ring _ _ _ (by intros; simp)
@[simp] theorem Filing.scrubAll_monitors (ns : List Nat) : (f.scrubAll ns).monitors = f.monitors := by
  unfold Filing.scrubAll; dsimp only; split_ifs <;> simp <;> exact foldl_keeps Filing.monitors _ _ _ (by intros; simp)

/-! ### fileAll -/

@[simp] theorem Filing.fileAll_boot (ns : List Nat) : (Filing.fileAll ns f).boot = f.boot := by
  induction ns generalizing f with
  | nil => rfl
  | cons n ns ih => simp only [Filing.fileAll]; rw [ih]; simp
@[simp] theorem Filing.fileAll_running (ns : List Nat) : (Filing.fileAll ns f).running = f.running := by
  simp [Filing.running]
@[simp] theorem Filing.fileAll_clock (ns : List Nat) : (Filing.fileAll ns f).clock = f.clock := by
  induction ns generalizing f with
  | nil => rfl
  | cons n ns ih => simp only [Filing.fileAll]; rw [ih]; simp
@[simp] theorem Filing.fileAll_now (ns : List Nat) : (Filing.fileAll ns f).now = f.now := by
  simp [Filing.now]
@[simp] theorem Filing.fileAll_scrubber (ns : List Nat) : (Filing.fileAll ns f).scrubber = f.scrubber := by
  induction ns generalizing f with
  | nil => rfl
  | cons n ns ih => simp only [Filing.fileAll]; rw [ih]; simp
@[simp] theorem Filing.fileAll_dir (ns : List Nat) : (Filing.fileAll ns f).dir = f.dir := by
  induction ns generalizing f with
  | nil => rfl
  | cons n ns ih => simp only [Filing.fileAll]; rw [ih]; simp
@[simp] theorem Filing.fileAll_doc (ns : List Nat) (k : Nat) : (Filing.fileAll ns f).doc k = f.doc k := by
  simp [Filing.doc]
@[simp] theorem Filing.fileAll_page (ns : List Nat) (k : Nat) : (Filing.fileAll ns f).page k = f.page k := by
  simp [Filing.page]
@[simp] theorem Filing.fileAll_channels (ns : List Nat) : (Filing.fileAll ns f).channels = f.channels := by
  induction ns generalizing f with
  | nil => rfl
  | cons n ns ih => simp only [Filing.fileAll]; rw [ih]; simp
@[simp] theorem Filing.fileAll_chan (ns : List Nat) (k : Nat) : (Filing.fileAll ns f).chan k = f.chan k := by
  simp [Filing.chan]
@[simp] theorem Filing.fileAll_boxes (ns : List Nat) : (Filing.fileAll ns f).boxes = f.boxes := by
  induction ns generalizing f with
  | nil => rfl
  | cons n ns ih => simp only [Filing.fileAll]; rw [ih]; simp
@[simp] theorem Filing.fileAll_mailbox (ns : List Nat) (k : Nat) : (Filing.fileAll ns f).mailbox k = f.mailbox k := by
  simp [Filing.mailbox]
@[simp] theorem Filing.fileAll_route (ns : List Nat) (k : Nat) : (Filing.fileAll ns f).route k = f.route k := by
  simp [Filing.route]
@[simp] theorem Filing.fileAll_queue (ns : List Nat) : (Filing.fileAll ns f).queue = f.queue := by
  induction ns generalizing f with
  | nil => rfl
  | cons n ns ih => simp only [Filing.fileAll]; rw [ih]; simp
@[simp] theorem Filing.fileAll_bindings (ns : List Nat) : (Filing.fileAll ns f).bindings = f.bindings := by
  induction ns generalizing f with
  | nil => rfl
  | cons n ns ih => simp only [Filing.fileAll]; rw [ih]; simp
@[simp] theorem Filing.fileAll_binding (ns : List Nat) (k : Nat) : (Filing.fileAll ns f).binding k = f.binding k := by
  simp [Filing.binding]
@[simp] theorem Filing.fileAll_posting (ns : List Nat) : (Filing.fileAll ns f).posting = f.posting := by
  induction ns generalizing f with
  | nil => rfl
  | cons n ns ih => simp only [Filing.fileAll]; rw [ih]; simp
@[simp] theorem Filing.fileAll_slot (ns : List Nat) (k : Nat) : (Filing.fileAll ns f).slot k = f.slot k := by
  simp [Filing.slot]
@[simp] theorem Filing.fileAll_ring (ns : List Nat) : (Filing.fileAll ns f).ring = f.ring := by
  induction ns generalizing f with
  | nil => rfl
  | cons n ns ih => simp only [Filing.fileAll]; rw [ih]; simp
@[simp] theorem Filing.fileAll_monitors (ns : List Nat) : (Filing.fileAll ns f).monitors = f.monitors := by
  induction ns generalizing f with
  | nil => rfl
  | cons n ns ih => simp only [Filing.fileAll]; rw [ih]; simp

/-! ### freePages -/

@[simp] theorem Filing.freePages_boot (s : Nat) (ps : List Nat) : (f.freePages s ps).boot = f.boot := by
  unfold Filing.freePages; dsimp only; exact foldl_keeps Filing.boot _ _ _ (by intros; simp)
@[simp] theorem Filing.freePages_running (s : Nat) (ps : List Nat) : (f.freePages s ps).running = f.running := by
  simp [Filing.running]
@[simp] theorem Filing.freePages_clock (s : Nat) (ps : List Nat) : (f.freePages s ps).clock = f.clock := by
  unfold Filing.freePages; dsimp only; exact foldl_keeps Filing.clock _ _ _ (by intros; simp)
@[simp] theorem Filing.freePages_now (s : Nat) (ps : List Nat) : (f.freePages s ps).now = f.now := by
  simp [Filing.now]
@[simp] theorem Filing.freePages_blocks (s : Nat) (ps : List Nat) : (f.freePages s ps).blocks = f.blocks := by
  unfold Filing.freePages; dsimp only; exact foldl_keeps Filing.blocks _ _ _ (by intros; simp)
@[simp] theorem Filing.freePages_block (s : Nat) (ps : List Nat) (k : Nat) : (f.freePages s ps).block k = f.block k := by
  simp [Filing.block]
@[simp] theorem Filing.freePages_scrubber (s : Nat) (ps : List Nat) : (f.freePages s ps).scrubber = f.scrubber := by
  unfold Filing.freePages; dsimp only; exact foldl_keeps Filing.scrubber _ _ _ (by intros; simp)
@[simp] theorem Filing.freePages_channels (s : Nat) (ps : List Nat) : (f.freePages s ps).channels = f.channels := by
  unfold Filing.freePages; dsimp only; exact foldl_keeps Filing.channels _ _ _ (by intros; simp)
@[simp] theorem Filing.freePages_chan (s : Nat) (ps : List Nat) (k : Nat) : (f.freePages s ps).chan k = f.chan k := by
  simp [Filing.chan]
@[simp] theorem Filing.freePages_boxes (s : Nat) (ps : List Nat) : (f.freePages s ps).boxes = f.boxes := by
  unfold Filing.freePages; dsimp only; exact foldl_keeps Filing.boxes _ _ _ (by intros; simp)
@[simp] theorem Filing.freePages_mailbox (s : Nat) (ps : List Nat) (k : Nat) : (f.freePages s ps).mailbox k = f.mailbox k := by
  simp [Filing.mailbox]
@[simp] theorem Filing.freePages_route (s : Nat) (ps : List Nat) (k : Nat) : (f.freePages s ps).route k = f.route k := by
  simp [Filing.route]
@[simp] theorem Filing.freePages_queue (s : Nat) (ps : List Nat) : (f.freePages s ps).queue = f.queue := by
  unfold Filing.freePages; dsimp only; exact foldl_keeps Filing.queue _ _ _ (by intros; simp)
@[simp] theorem Filing.freePages_bindings (s : Nat) (ps : List Nat) : (f.freePages s ps).bindings = f.bindings := by
  unfold Filing.freePages; dsimp only; exact foldl_keeps Filing.bindings _ _ _ (by intros; simp)
@[simp] theorem Filing.freePages_binding (s : Nat) (ps : List Nat) (k : Nat) : (f.freePages s ps).binding k = f.binding k := by
  simp [Filing.binding]
@[simp] theorem Filing.freePages_posting (s : Nat) (ps : List Nat) : (f.freePages s ps).posting = f.posting := by
  unfold Filing.freePages; dsimp only; exact foldl_keeps Filing.posting _ _ _ (by intros; simp)
@[simp] theorem Filing.freePages_slot (s : Nat) (ps : List Nat) (k : Nat) : (f.freePages s ps).slot k = f.slot k := by
  simp [Filing.slot]
@[simp] theorem Filing.freePages_ring (s : Nat) (ps : List Nat) : (f.freePages s ps).ring = f.ring := by
  unfold Filing.freePages; dsimp only; exact foldl_keeps Filing.ring _ _ _ (by intros; simp)
@[simp] theorem Filing.freePages_monitors (s : Nat) (ps : List Nat) : (f.freePages s ps).monitors = f.monitors := by
  unfold Filing.freePages; dsimp only; exact foldl_keeps Filing.monitors _ _ _ (by intros; simp)

/-! ### releaseDoc -/

@[simp] theorem Filing.releaseDoc_boot (q : Bool) (s : Nat) : (f.releaseDoc q s).boot = f.boot := by
  unfold Filing.releaseDoc; dsimp only; split_ifs <;> simp
@[simp] theorem Filing.releaseDoc_running (q : Bool) (s : Nat) : (f.releaseDoc q s).running = f.running := by
  simp [Filing.running]
@[simp] theorem Filing.releaseDoc_scrubber (q : Bool) (s : Nat) : (f.releaseDoc q s).scrubber = f.scrubber := by
  unfold Filing.releaseDoc; dsimp only; split_ifs <;> simp
@[simp] theorem Filing.releaseDoc_channels (q : Bool) (s : Nat) : (f.releaseDoc q s).channels = f.channels := by
  unfold Filing.releaseDoc; dsimp only; split_ifs <;> simp
@[simp] theorem Filing.releaseDoc_chan (q : Bool) (s : Nat) (k : Nat) : (f.releaseDoc q s).chan k = f.chan k := by
  simp [Filing.chan]
@[simp] theorem Filing.releaseDoc_queue (q : Bool) (s : Nat) : (f.releaseDoc q s).queue = f.queue := by
  unfold Filing.releaseDoc; dsimp only; split_ifs <;> simp
@[simp] theorem Filing.releaseDoc_bindings (q : Bool) (s : Nat) : (f.releaseDoc q s).bindings = f.bindings := by
  unfold Filing.releaseDoc; dsimp only; split_ifs <;> simp
@[simp] theorem Filing.releaseDoc_binding (q : Bool) (s : Nat) (k : Nat) : (f.releaseDoc q s).binding k = f.binding k := by
  simp [Filing.binding]
@[simp] theorem Filing.releaseDoc_posting (q : Bool) (s : Nat) : (f.releaseDoc q s).posting = f.posting := by
  unfold Filing.releaseDoc; dsimp only; split_ifs <;> simp
@[simp] theorem Filing.releaseDoc_slot (q : Bool) (s : Nat) (k : Nat) : (f.releaseDoc q s).slot k = f.slot k := by
  simp [Filing.slot]

/-! ### checkRelease -/

@[simp] theorem Filing.checkRelease_boot (s : Nat) : (f.checkRelease s).boot = f.boot := by
  unfold Filing.checkRelease; split_ifs <;> simp
@[simp] theorem Filing.checkRelease_running (s : Nat) : (f.checkRelease s).running = f.running := by
  simp [Filing.running]
@[simp] theorem Filing.checkRelease_scrubber (s : Nat) : (f.checkRelease s).scrubber = f.scrubber := by
  unfold Filing.checkRelease; split_ifs <;> simp
@[simp] theorem Filing.checkRelease_channels (s : Nat) : (f.checkRelease s).channels = f.channels := by
  unfold Filing.checkRelease; split_ifs <;> simp
@[simp] theorem Filing.checkRelease_chan (s : Nat) (k : Nat) : (f.checkRelease s).chan k = f.chan k := by
  simp [Filing.chan]
@[simp] theorem Filing.checkRelease_queue (s : Nat) : (f.checkRelease s).queue = f.queue := by
  unfold Filing.checkRelease; split_ifs <;> simp
@[simp] theorem Filing.checkRelease_bindings (s : Nat) : (f.checkRelease s).bindings = f.bindings := by
  unfold Filing.checkRelease; split_ifs <;> simp
@[simp] theorem Filing.checkRelease_binding (s : Nat) (k : Nat) : (f.checkRelease s).binding k = f.binding k := by
  simp [Filing.binding]
@[simp] theorem Filing.checkRelease_posting (s : Nat) : (f.checkRelease s).posting = f.posting := by
  unfold Filing.checkRelease; split_ifs <;> simp
@[simp] theorem Filing.checkRelease_slot (s : Nat) (k : Nat) : (f.checkRelease s).slot k = f.slot k := by
  simp [Filing.slot]

/-! ### checkReleases -/

@[simp] theorem Filing.checkReleases_boot (ids : List Nat) : (f.checkReleases ids).boot = f.boot := by
  unfold Filing.checkReleases; exact foldl_keeps Filing.boot _ _ _ (by intro b a; split <;> simp)
@[simp] theorem Filing.checkReleases_running (ids : List Nat) : (f.checkReleases ids).running = f.running := by
  simp [Filing.running]
@[simp] theorem Filing.checkReleases_scrubber (ids : List Nat) : (f.checkReleases ids).scrubber = f.scrubber := by
  unfold Filing.checkReleases; exact foldl_keeps Filing.scrubber _ _ _ (by intro b a; split <;> simp)
@[simp] theorem Filing.checkReleases_channels (ids : List Nat) : (f.checkReleases ids).channels = f.channels := by
  unfold Filing.checkReleases; exact foldl_keeps Filing.channels _ _ _ (by intro b a; split <;> simp)
@[simp] theorem Filing.checkReleases_chan (ids : List Nat) (k : Nat) : (f.checkReleases ids).chan k = f.chan k := by
  simp [Filing.chan]
@[simp] theorem Filing.checkReleases_queue (ids : List Nat) : (f.checkReleases ids).queue = f.queue := by
  unfold Filing.checkReleases; exact foldl_keeps Filing.queue _ _ _ (by intro b a; split <;> simp)
@[simp] theorem Filing.checkReleases_bindings (ids : List Nat) : (f.checkReleases ids).bindings = f.bindings := by
  unfold Filing.checkReleases; exact foldl_keeps Filing.bindings _ _ _ (by intro b a; split <;> simp)
@[simp] theorem Filing.checkReleases_binding (ids : List Nat) (k : Nat) : (f.checkReleases ids).binding k = f.binding k := by
  simp [Filing.binding]
@[simp] theorem Filing.checkReleases_posting (ids : List Nat) : (f.checkReleases ids).posting = f.posting := by
  unfold Filing.checkReleases; exact foldl_keeps Filing.posting _ _ _ (by intro b a; split <;> simp)
@[simp] theorem Filing.checkReleases_slot (ids : List Nat) (k : Nat) : (f.checkReleases ids).slot k = f.slot k := by
  simp [Filing.slot]

/-! ### cancelLive -/

@[simp] theorem Filing.cancelLive_boot (s : Nat) : (f.cancelLive s).boot = f.boot := by
  unfold Filing.cancelLive; exact foldl_keeps Filing.boot _ _ _ (by intros; simp)
@[simp] theorem Filing.cancelLive_running (s : Nat) : (f.cancelLive s).running = f.running := by
  simp [Filing.running]
@[simp] theorem Filing.cancelLive_clock (s : Nat) : (f.cancelLive s).clock = f.clock := by
  unfold Filing.cancelLive; exact foldl_keeps Filing.clock _ _ _ (by intros; simp)
@[simp] theorem Filing.cancelLive_now (s : Nat) : (f.cancelLive s).now = f.now := by
  simp [Filing.now]
@[simp] theorem Filing.cancelLive_blocks (s : Nat) : (f.cancelLive s).blocks = f.blocks := by
  unfold Filing.cancelLive; exact foldl_keeps Filing.blocks _ _ _ (by intros; simp)
@[simp] theorem Filing.cancelLive_block (s : Nat) (k : Nat) : (f.cancelLive s).block k = f.block k := by
  simp [Filing.block]
@[simp] theorem Filing.cancelLive_scrubber (s : Nat) : (f.cancelLive s).scrubber = f.scrubber := by
  unfold Filing.cancelLive; exact foldl_keeps Filing.scrubber _ _ _ (by intros; simp)
@[simp] theorem Filing.cancelLive_channels (s : Nat) : (f.cancelLive s).channels = f.channels := by
  unfold Filing.cancelLive; exact foldl_keeps Filing.channels _ _ _ (by intros; simp)
@[simp] theorem Filing.cancelLive_chan (s : Nat) (k : Nat) : (f.cancelLive s).chan k = f.chan k := by
  simp [Filing.chan]
@[simp] theorem Filing.cancelLive_boxes (s : Nat) : (f.cancelLive s).boxes = f.boxes := by
  unfold Filing.cancelLive; exact foldl_keeps Filing.boxes _ _ _ (by intros; simp)
@[simp] theorem Filing.cancelLive_mailbox (s : Nat) (k : Nat) : (f.cancelLive s).mailbox k = f.mailbox k := by
  simp [Filing.mailbox]
@[simp] theorem Filing.cancelLive_route (s : Nat) (k : Nat) : (f.cancelLive s).route k = f.route k := by
  simp [Filing.route]
@[simp] theorem Filing.cancelLive_queue (s : Nat) : (f.cancelLive s).queue = f.queue := by
  unfold Filing.cancelLive; exact foldl_keeps Filing.queue _ _ _ (by intros; simp)
@[simp] theorem Filing.cancelLive_bindings (s : Nat) : (f.cancelLive s).bindings = f.bindings := by
  unfold Filing.cancelLive; exact foldl_keeps Filing.bindings _ _ _ (by intros; simp)
@[simp] theorem Filing.cancelLive_binding (s : Nat) (k : Nat) : (f.cancelLive s).binding k = f.binding k := by
  simp [Filing.binding]
@[simp] theorem Filing.cancelLive_posting (s : Nat) : (f.cancelLive s).posting = f.posting := by
  unfold Filing.cancelLive; exact foldl_keeps Filing.posting _ _ _ (by intros; simp)
@[simp] theorem Filing.cancelLive_slot (s : Nat) (k : Nat) : (f.cancelLive s).slot k = f.slot k := by
  simp [Filing.slot]
@[simp] theorem Filing.cancelLive_ring (s : Nat) : (f.cancelLive s).ring = f.ring := by
  unfold Filing.cancelLive; exact foldl_keeps Filing.ring _ _ _ (by intros; simp)
@[simp] theorem Filing.cancelLive_monitors (s : Nat) : (f.cancelLive s).monitors = f.monitors := by
  unfold Filing.cancelLive; exact foldl_keeps Filing.monitors _ _ _ (by intros; simp)

/-! ### makeReady -/

@[simp] theorem Filing.makeReady_boot (s : Nat) : (f.makeReady s).boot = f.boot := by
  unfold Filing.makeReady; exact foldl_keeps Filing.boot _ _ _ (by intros; simp)
@[simp] theorem Filing.makeReady_running (s : Nat) : (f.makeReady s).running = f.running := by
  simp [Filing.running]
@[simp] theorem Filing.makeReady_clock (s : Nat) : (f.makeReady s).clock = f.clock := by
  unfold Filing.makeReady; exact foldl_keeps Filing.clock _ _ _ (by intros; simp)
@[simp] theorem Filing.makeReady_now (s : Nat) : (f.makeReady s).now = f.now := by
  simp [Filing.now]
@[simp] theorem Filing.makeReady_blocks (s : Nat) : (f.makeReady s).blocks = f.blocks := by
  unfold Filing.makeReady; exact foldl_keeps Filing.blocks _ _ _ (by intros; simp)
@[simp] theorem Filing.makeReady_block (s : Nat) (k : Nat) : (f.makeReady s).block k = f.block k := by
  simp [Filing.block]
@[simp] theorem Filing.makeReady_scrubber (s : Nat) : (f.makeReady s).scrubber = f.scrubber := by
  unfold Filing.makeReady; exact foldl_keeps Filing.scrubber _ _ _ (by intros; simp)
@[simp] theorem Filing.makeReady_channels (s : Nat) : (f.makeReady s).channels = f.channels := by
  unfold Filing.makeReady; exact foldl_keeps Filing.channels _ _ _ (by intros; simp)
@[simp] theorem Filing.makeReady_chan (s : Nat) (k : Nat) : (f.makeReady s).chan k = f.chan k := by
  simp [Filing.chan]
@[simp] theorem Filing.makeReady_boxes (s : Nat) : (f.makeReady s).boxes = f.boxes := by
  unfold Filing.makeReady; exact foldl_keeps Filing.boxes _ _ _ (by intros; simp)
@[simp] theorem Filing.makeReady_mailbox (s : Nat) (k : Nat) : (f.makeReady s).mailbox k = f.mailbox k := by
  simp [Filing.mailbox]
@[simp] theorem Filing.makeReady_route (s : Nat) (k : Nat) : (f.makeReady s).route k = f.route k := by
  simp [Filing.route]
@[simp] theorem Filing.makeReady_bindings (s : Nat) : (f.makeReady s).bindings = f.bindings := by
  unfold Filing.makeReady; exact foldl_keeps Filing.bindings _ _ _ (by intros; simp)
@[simp] theorem Filing.makeReady_binding (s : Nat) (k : Nat) : (f.makeReady s).binding k = f.binding k := by
  simp [Filing.binding]
@[simp] theorem Filing.makeReady_posting (s : Nat) : (f.makeReady s).posting = f.posting := by
  unfold Filing.makeReady; exact foldl_keeps Filing.posting _ _ _ (by intros; simp)
@[simp] theorem Filing.makeReady_slot (s : Nat) (k : Nat) : (f.makeReady s).slot k = f.slot k := by
  simp [Filing.slot]
@[simp] theorem Filing.makeReady_ring (s : Nat) : (f.makeReady s).ring = f.ring := by
  unfold Filing.makeReady; exact foldl_keeps Filing.ring _ _ _ (by intros; simp)
@[simp] theorem Filing.makeReady_monitors (s : Nat) : (f.makeReady s).monitors = f.monitors := by
  unfold Filing.makeReady; exact foldl_keeps Filing.monitors _ _ _ (by intros; simp)

/-! ### raisePageClosed -/

@[simp] theorem Filing.raisePageClosed_boot (c s p : Nat) : (f.raisePageClosed c s p).boot = f.boot := by
  simp [Filing.raisePageClosed]
@[simp] theorem Filing.raisePageClosed_running (c s p : Nat) : (f.raisePageClosed c s p).running = f.running := by
  simp [Filing.running]
@[simp] theorem Filing.raisePageClosed_clock (c s p : Nat) : (f.raisePageClosed c s p).clock = f.clock := by
  simp [Filing.raisePageClosed]
@[simp] theorem Filing.raisePageClosed_now (c s p : Nat) : (f.raisePageClosed c s p).now = f.now := by
  simp [Filing.now]
@[simp] theorem Filing.raisePageClosed_blocks (c s p : Nat) : (f.raisePageClosed c s p).blocks = f.blocks := by
  simp [Filing.raisePageClosed]
@[simp] theorem Filing.raisePageClosed_block (c s p : Nat) (k : Nat) : (f.raisePageClosed c s p).block k = f.block k := by
  simp [Filing.block]
@[simp] theorem Filing.raisePageClosed_scrubber (c s p : Nat) : (f.raisePageClosed c s p).scrubber = f.scrubber := by
  simp [Filing.raisePageClosed]
@[simp] theorem Filing.raisePageClosed_dir (c s p : Nat) : (f.raisePageClosed c s p).dir = f.dir := by
  simp [Filing.raisePageClosed]
@[simp] theorem Filing.raisePageClosed_doc (c s p : Nat) (k : Nat) : (f.raisePageClosed c s p).doc k = f.doc k := by
  simp [Filing.doc]
@[simp] theorem Filing.raisePageClosed_page (c s p : Nat) (k : Nat) : (f.raisePageClosed c s p).page k = f.page k := by
  simp [Filing.page]
@[simp] theorem Filing.raisePageClosed_channels (c s p : Nat) : (f.raisePageClosed c s p).channels = f.channels := by
  simp [Filing.raisePageClosed]
@[simp] theorem Filing.raisePageClosed_chan (c s p : Nat) (k : Nat) : (f.raisePageClosed c s p).chan k = f.chan k := by
  simp [Filing.chan]
@[simp] theorem Filing.raisePageClosed_boxes (c s p : Nat) : (f.raisePageClosed c s p).boxes = f.boxes := by
  simp [Filing.raisePageClosed]
@[simp] theorem Filing.raisePageClosed_mailbox (c s p : Nat) (k : Nat) : (f.raisePageClosed c s p).mailbox k = f.mailbox k := by
  simp [Filing.mailbox]
@[simp] theorem Filing.raisePageClosed_route (c s p : Nat) (k : Nat) : (f.raisePageClosed c s p).route k = f.route k := by
  simp [Filing.route]
@[simp] theorem Filing.raisePageClosed_queue (c s p : Nat) : (f.raisePageClosed c s p).queue = f.queue := by
  simp [Filing.raisePageClosed]
@[simp] theorem Filing.raisePageClosed_bindings (c s p : Nat) : (f.raisePageClosed c s p).bindings = f.bindings := by
  simp [Filing.raisePageClosed]
@[simp] theorem Filing.raisePageClosed_binding (c s p : Nat) (k : Nat) : (f.raisePageClosed c s p).binding k = f.binding k := by
  simp [Filing.binding]
@[simp] theorem Filing.raisePageClosed_posting (c s p : Nat) : (f.raisePageClosed c s p).posting = f.posting := by
  simp [Filing.raisePageClosed]
@[simp] theorem Filing.raisePageClosed_slot (c s p : Nat) (k : Nat) : (f.raisePageClosed c s p).slot k = f.slot k := by
  simp [Filing.slot]
@[simp] theorem Filing.raisePageClosed_monitors (c s p : Nat) : (f.raisePageClosed c s p).monitors = f.monitors := by
  simp [Filing.raisePageClosed]

/-! ### raiseDocClosed -/

@[simp] theorem Filing.raiseDocClosed_boot (c s d : Nat) : (f.raiseDocClosed c s d).boot = f.boot := by
  simp [Filing.raiseDocClosed]
@[simp] theorem Filing.raiseDocClosed_running (c s d : Nat) : (f.raiseDocClosed c s d).running = f.running := by
  simp [Filing.running]
@[simp] theorem Filing.raiseDocClosed_clock (c s d : Nat) : (f.raiseDocClosed c s d).clock = f.clock := by
  simp [Filing.raiseDocClosed]
@[simp] theorem Filing.raiseDocClosed_now (c s d : Nat) : (f.raiseDocClosed c s d).now = f.now := by
  simp [Filing.now]
@[simp] theorem Filing.raiseDocClosed_blocks (c s d : Nat) : (f.raiseDocClosed c s d).blocks = f.blocks := by
  simp [Filing.raiseDocClosed]
@[simp] theorem Filing.raiseDocClosed_block (c s d : Nat) (k : Nat) : (f.raiseDocClosed c s d).block k = f.block k := by
  simp [Filing.block]
@[simp] theorem Filing.raiseDocClosed_scrubber (c s d : Nat) : (f.raiseDocClosed c s d).scrubber = f.scrubber := by
  simp [Filing.raiseDocClosed]
@[simp] theorem Filing.raiseDocClosed_dir (c s d : Nat) : (f.raiseDocClosed c s d).dir = f.dir := by
  simp [Filing.raiseDocClosed]
@[simp] theorem Filing.raiseDocClosed_doc (c s d : Nat) (k : Nat) : (f.raiseDocClosed c s d).doc k = f.doc k := by
  simp [Filing.doc]
@[simp] theorem Filing.raiseDocClosed_page (c s d : Nat) (k : Nat) : (f.raiseDocClosed c s d).page k = f.page k := by
  simp [Filing.page]
@[simp] theorem Filing.raiseDocClosed_channels (c s d : Nat) : (f.raiseDocClosed c s d).channels = f.channels := by
  simp [Filing.raiseDocClosed]
@[simp] theorem Filing.raiseDocClosed_chan (c s d : Nat) (k : Nat) : (f.raiseDocClosed c s d).chan k = f.chan k := by
  simp [Filing.chan]
@[simp] theorem Filing.raiseDocClosed_boxes (c s d : Nat) : (f.raiseDocClosed c s d).boxes = f.boxes := by
  simp [Filing.raiseDocClosed]
@[simp] theorem Filing.raiseDocClosed_mailbox (c s d : Nat) (k : Nat) : (f.raiseDocClosed c s d).mailbox k = f.mailbox k := by
  simp [Filing.mailbox]
@[simp] theorem Filing.raiseDocClosed_route (c s d : Nat) (k : Nat) : (f.raiseDocClosed c s d).route k = f.route k := by
  simp [Filing.route]
@[simp] theorem Filing.raiseDocClosed_queue (c s d : Nat) : (f.raiseDocClosed c s d).queue = f.queue := by
  simp [Filing.raiseDocClosed]
@[simp] theorem Filing.raiseDocClosed_bindings (c s d : Nat) : (f.raiseDocClosed c s d).bindings = f.bindings := by
  simp [Filing.raiseDocClosed]
@[simp] theorem Filing.raiseDocClosed_binding (c s d : Nat) (k : Nat) : (f.raiseDocClosed c s d).binding k = f.binding k := by
  simp [Filing.binding]
@[simp] theorem Filing.raiseDocClosed_posting (c s d : Nat) : (f.raiseDocClosed c s d).posting = f.posting := by
  simp [Filing.raiseDocClosed]
@[simp] theorem Filing.raiseDocClosed_slot (c s d : Nat) (k : Nat) : (f.raiseDocClosed c s d).slot k = f.slot k := by
  simp [Filing.slot]
@[simp] theorem Filing.raiseDocClosed_monitors (c s d : Nat) : (f.raiseDocClosed c s d).monitors = f.monitors := by
  simp [Filing.raiseDocClosed]

/-! ### raiseDone -/

@[simp] theorem Filing.raiseDone_boot (c s k : Nat) : (f.raiseDone c s k).boot = f.boot := by
  simp [Filing.raiseDone]
@[simp] theorem Filing.raiseDone_running (c s k : Nat) : (f.raiseDone c s k).running = f.running := by
  simp [Filing.running]
@[simp] theorem Filing.raiseDone_clock (c s k : Nat) : (f.raiseDone c s k).clock = f.clock := by
  simp [Filing.raiseDone]
@[simp] theorem Filing.raiseDone_now (c s k : Nat) : (f.raiseDone c s k).now = f.now := by
  simp [Filing.now]
@[simp] theorem Filing.raiseDone_blocks (c s k : Nat) : (f.raiseDone c s k).blocks = f.blocks := by
  simp [Filing.raiseDone]
@[simp] theorem Filing.raiseDone_block (c s k : Nat) (x : Nat) : (f.raiseDone c s k).block x = f.block x := by
  simp [Filing.block]
@[simp] theorem Filing.raiseDone_scrubber (c s k : Nat) : (f.raiseDone c s k).scrubber = f.scrubber := by
  simp [Filing.raiseDone]
@[simp] theorem Filing.raiseDone_dir (c s k : Nat) : (f.raiseDone c s k).dir = f.dir := by
  simp [Filing.raiseDone]
@[simp] theorem Filing.raiseDone_doc (c s k : Nat) (x : Nat) : (f.raiseDone c s k).doc x = f.doc x := by
  simp [Filing.doc]
@[simp] theorem Filing.raiseDone_page (c s k : Nat) (x : Nat) : (f.raiseDone c s k).page x = f.page x := by
  simp [Filing.page]
@[simp] theorem Filing.raiseDone_channels (c s k : Nat) : (f.raiseDone c s k).channels = f.channels := by
  simp [Filing.raiseDone]
@[simp] theorem Filing.raiseDone_chan (c s k : Nat) (x : Nat) : (f.raiseDone c s k).chan x = f.chan x := by
  simp [Filing.chan]
@[simp] theorem Filing.raiseDone_boxes (c s k : Nat) : (f.raiseDone c s k).boxes = f.boxes := by
  simp [Filing.raiseDone]
@[simp] theorem Filing.raiseDone_mailbox (c s k : Nat) (x : Nat) : (f.raiseDone c s k).mailbox x = f.mailbox x := by
  simp [Filing.mailbox]
@[simp] theorem Filing.raiseDone_route (c s k : Nat) (x : Nat) : (f.raiseDone c s k).route x = f.route x := by
  simp [Filing.route]
@[simp] theorem Filing.raiseDone_queue (c s k : Nat) : (f.raiseDone c s k).queue = f.queue := by
  simp [Filing.raiseDone]
@[simp] theorem Filing.raiseDone_bindings (c s k : Nat) : (f.raiseDone c s k).bindings = f.bindings := by
  simp [Filing.raiseDone]
@[simp] theorem Filing.raiseDone_binding (c s k : Nat) (x : Nat) : (f.raiseDone c s k).binding x = f.binding x := by
  simp [Filing.binding]
@[simp] theorem Filing.raiseDone_posting (c s k : Nat) : (f.raiseDone c s k).posting = f.posting := by
  simp [Filing.raiseDone]
@[simp] theorem Filing.raiseDone_slot (c s k : Nat) (x : Nat) : (f.raiseDone c s k).slot x = f.slot x := by
  simp [Filing.slot]
@[simp] theorem Filing.raiseDone_monitors (c s k : Nat) : (f.raiseDone c s k).monitors = f.monitors := by
  simp [Filing.raiseDone]

/-! ### raiseUnboundReview -/

@[simp] theorem Filing.raiseUnboundReview_boot (r d : Nat) (w : UnboundReason) : (f.raiseUnboundReview r d w).boot = f.boot := by
  simp [Filing.raiseUnboundReview]
@[simp] theorem Filing.raiseUnboundReview_running (r d : Nat) (w : UnboundReason) : (f.raiseUnboundReview r d w).running = f.running := by
  simp [Filing.running]
@[simp] theorem Filing.raiseUnboundReview_clock (r d : Nat) (w : UnboundReason) : (f.raiseUnboundReview r d w).clock = f.clock := by
  simp [Filing.raiseUnboundReview]
@[simp] theorem Filing.raiseUnboundReview_now (r d : Nat) (w : UnboundReason) : (f.raiseUnboundReview r d w).now = f.now := by
  simp [Filing.now]
@[simp] theorem Filing.raiseUnboundReview_blocks (r d : Nat) (w : UnboundReason) : (f.raiseUnboundReview r d w).blocks = f.blocks := by
  simp [Filing.raiseUnboundReview]
@[simp] theorem Filing.raiseUnboundReview_block (r d : Nat) (w : UnboundReason) (k : Nat) : (f.raiseUnboundReview r d w).block k = f.block k := by
  simp [Filing.block]
@[simp] theorem Filing.raiseUnboundReview_scrubber (r d : Nat) (w : UnboundReason) : (f.raiseUnboundReview r d w).scrubber = f.scrubber := by
  simp [Filing.raiseUnboundReview]
@[simp] theorem Filing.raiseUnboundReview_dir (r d : Nat) (w : UnboundReason) : (f.raiseUnboundReview r d w).dir = f.dir := by
  simp [Filing.raiseUnboundReview]
@[simp] theorem Filing.raiseUnboundReview_doc (r d : Nat) (w : UnboundReason) (k : Nat) : (f.raiseUnboundReview r d w).doc k = f.doc k := by
  simp [Filing.doc]
@[simp] theorem Filing.raiseUnboundReview_page (r d : Nat) (w : UnboundReason) (k : Nat) : (f.raiseUnboundReview r d w).page k = f.page k := by
  simp [Filing.page]
@[simp] theorem Filing.raiseUnboundReview_channels (r d : Nat) (w : UnboundReason) : (f.raiseUnboundReview r d w).channels = f.channels := by
  simp [Filing.raiseUnboundReview]
@[simp] theorem Filing.raiseUnboundReview_chan (r d : Nat) (w : UnboundReason) (k : Nat) : (f.raiseUnboundReview r d w).chan k = f.chan k := by
  simp [Filing.chan]
@[simp] theorem Filing.raiseUnboundReview_boxes (r d : Nat) (w : UnboundReason) : (f.raiseUnboundReview r d w).boxes = f.boxes := by
  simp [Filing.raiseUnboundReview]
@[simp] theorem Filing.raiseUnboundReview_mailbox (r d : Nat) (w : UnboundReason) (k : Nat) : (f.raiseUnboundReview r d w).mailbox k = f.mailbox k := by
  simp [Filing.mailbox]
@[simp] theorem Filing.raiseUnboundReview_route (r d : Nat) (w : UnboundReason) (k : Nat) : (f.raiseUnboundReview r d w).route k = f.route k := by
  simp [Filing.route]
@[simp] theorem Filing.raiseUnboundReview_queue (r d : Nat) (w : UnboundReason) : (f.raiseUnboundReview r d w).queue = f.queue := by
  simp [Filing.raiseUnboundReview]
@[simp] theorem Filing.raiseUnboundReview_bindings (r d : Nat) (w : UnboundReason) : (f.raiseUnboundReview r d w).bindings = f.bindings := by
  simp [Filing.raiseUnboundReview]
@[simp] theorem Filing.raiseUnboundReview_binding (r d : Nat) (w : UnboundReason) (k : Nat) : (f.raiseUnboundReview r d w).binding k = f.binding k := by
  simp [Filing.binding]
@[simp] theorem Filing.raiseUnboundReview_posting (r d : Nat) (w : UnboundReason) : (f.raiseUnboundReview r d w).posting = f.posting := by
  simp [Filing.raiseUnboundReview]
@[simp] theorem Filing.raiseUnboundReview_slot (r d : Nat) (w : UnboundReason) (k : Nat) : (f.raiseUnboundReview r d w).slot k = f.slot k := by
  simp [Filing.slot]
@[simp] theorem Filing.raiseUnboundReview_monitors (r d : Nat) (w : UnboundReason) : (f.raiseUnboundReview r d w).monitors = f.monitors := by
  simp [Filing.raiseUnboundReview]

/-! ### raiseUnboundSend -/

@[simp] theorem Filing.raiseUnboundSend_boot (c s k : Nat) (w : UnboundReason) : (f.raiseUnboundSend c s k w).boot = f.boot := by
  simp [Filing.raiseUnboundSend]
@[simp] theorem Filing.raiseUnboundSend_running (c s k : Nat) (w : UnboundReason) : (f.raiseUnboundSend c s k w).running = f.running := by
  simp [Filing.running]
@[simp] theorem Filing.raiseUnboundSend_clock (c s k : Nat) (w : UnboundReason) : (f.raiseUnboundSend c s k w).clock = f.clock := by
  simp [Filing.raiseUnboundSend]
@[simp] theorem Filing.raiseUnboundSend_now (c s k : Nat) (w : UnboundReason) : (f.raiseUnboundSend c s k w).now = f.now := by
  simp [Filing.now]
@[simp] theorem Filing.raiseUnboundSend_blocks (c s k : Nat) (w : UnboundReason) : (f.raiseUnboundSend c s k w).blocks = f.blocks := by
  simp [Filing.raiseUnboundSend]
@[simp] theorem Filing.raiseUnboundSend_block (c s k : Nat) (w : UnboundReason) (x : Nat) : (f.raiseUnboundSend c s k w).block x = f.block x := by
  simp [Filing.block]
@[simp] theorem Filing.raiseUnboundSend_scrubber (c s k : Nat) (w : UnboundReason) : (f.raiseUnboundSend c s k w).scrubber = f.scrubber := by
  simp [Filing.raiseUnboundSend]
@[simp] theorem Filing.raiseUnboundSend_dir (c s k : Nat) (w : UnboundReason) : (f.raiseUnboundSend c s k w).dir = f.dir := by
  simp [Filing.raiseUnboundSend]
@[simp] theorem Filing.raiseUnboundSend_doc (c s k : Nat) (w : UnboundReason) (x : Nat) : (f.raiseUnboundSend c s k w).doc x = f.doc x := by
  simp [Filing.doc]
@[simp] theorem Filing.raiseUnboundSend_page (c s k : Nat) (w : UnboundReason) (x : Nat) : (f.raiseUnboundSend c s k w).page x = f.page x := by
  simp [Filing.page]
@[simp] theorem Filing.raiseUnboundSend_channels (c s k : Nat) (w : UnboundReason) : (f.raiseUnboundSend c s k w).channels = f.channels := by
  simp [Filing.raiseUnboundSend]
@[simp] theorem Filing.raiseUnboundSend_chan (c s k : Nat) (w : UnboundReason) (x : Nat) : (f.raiseUnboundSend c s k w).chan x = f.chan x := by
  simp [Filing.chan]
@[simp] theorem Filing.raiseUnboundSend_boxes (c s k : Nat) (w : UnboundReason) : (f.raiseUnboundSend c s k w).boxes = f.boxes := by
  simp [Filing.raiseUnboundSend]
@[simp] theorem Filing.raiseUnboundSend_mailbox (c s k : Nat) (w : UnboundReason) (x : Nat) : (f.raiseUnboundSend c s k w).mailbox x = f.mailbox x := by
  simp [Filing.mailbox]
@[simp] theorem Filing.raiseUnboundSend_route (c s k : Nat) (w : UnboundReason) (x : Nat) : (f.raiseUnboundSend c s k w).route x = f.route x := by
  simp [Filing.route]
@[simp] theorem Filing.raiseUnboundSend_queue (c s k : Nat) (w : UnboundReason) : (f.raiseUnboundSend c s k w).queue = f.queue := by
  simp [Filing.raiseUnboundSend]
@[simp] theorem Filing.raiseUnboundSend_bindings (c s k : Nat) (w : UnboundReason) : (f.raiseUnboundSend c s k w).bindings = f.bindings := by
  simp [Filing.raiseUnboundSend]
@[simp] theorem Filing.raiseUnboundSend_binding (c s k : Nat) (w : UnboundReason) (x : Nat) : (f.raiseUnboundSend c s k w).binding x = f.binding x := by
  simp [Filing.binding]
@[simp] theorem Filing.raiseUnboundSend_posting (c s k : Nat) (w : UnboundReason) : (f.raiseUnboundSend c s k w).posting = f.posting := by
  simp [Filing.raiseUnboundSend]
@[simp] theorem Filing.raiseUnboundSend_slot (c s k : Nat) (w : UnboundReason) (x : Nat) : (f.raiseUnboundSend c s k w).slot x = f.slot x := by
  simp [Filing.slot]
@[simp] theorem Filing.raiseUnboundSend_monitors (c s k : Nat) (w : UnboundReason) : (f.raiseUnboundSend c s k w).monitors = f.monitors := by
  simp [Filing.raiseUnboundSend]

/-! ### completePage -/

@[simp] theorem Filing.completePage_boot (s p l : Nat) (a b : Bool) (h : Nat) : (f.completePage s p l a b h).boot = f.boot := by
  simp [Filing.completePage]
@[simp] theorem Filing.completePage_running (s p l : Nat) (a b : Bool) (h : Nat) : (f.completePage s p l a b h).running = f.running := by
  simp [Filing.running]
@[simp] theorem Filing.completePage_clock (s p l : Nat) (a b : Bool) (h : Nat) : (f.completePage s p l a b h).clock = f.clock := by
  simp [Filing.completePage]
@[simp] theorem Filing.completePage_now (s p l : Nat) (a b : Bool) (h : Nat) : (f.completePage s p l a b h).now = f.now := by
  simp [Filing.now]
@[simp] theorem Filing.completePage_scrubber (s p l : Nat) (a b : Bool) (h : Nat) : (f.completePage s p l a b h).scrubber = f.scrubber := by
  simp [Filing.completePage]
@[simp] theorem Filing.completePage_channels (s p l : Nat) (a b : Bool) (h : Nat) : (f.completePage s p l a b h).channels = f.channels := by
  simp [Filing.completePage]
@[simp] theorem Filing.completePage_chan (s p l : Nat) (a b : Bool) (h : Nat) (k : Nat) : (f.completePage s p l a b h).chan k = f.chan k := by
  simp [Filing.chan]
@[simp] theorem Filing.completePage_queue (s p l : Nat) (a b : Bool) (h : Nat) : (f.completePage s p l a b h).queue = f.queue := by
  simp [Filing.completePage]
@[simp] theorem Filing.completePage_bindings (s p l : Nat) (a b : Bool) (h : Nat) : (f.completePage s p l a b h).bindings = f.bindings := by
  simp [Filing.completePage]
@[simp] theorem Filing.completePage_binding (s p l : Nat) (a b : Bool) (h : Nat) (k : Nat) : (f.completePage s p l a b h).binding k = f.binding k := by
  simp [Filing.binding]
@[simp] theorem Filing.completePage_posting (s p l : Nat) (a b : Bool) (h : Nat) : (f.completePage s p l a b h).posting = f.posting := by
  simp [Filing.completePage]
@[simp] theorem Filing.completePage_slot (s p l : Nat) (a b : Bool) (h : Nat) (k : Nat) : (f.completePage s p l a b h).slot k = f.slot k := by
  simp [Filing.slot]

/-! ### closePage -/

@[simp] theorem Filing.closePage_boot (c s p l : Nat) (a b : Bool) (h : Nat) : (f.closePage c s p l a b h).boot = f.boot := by
  simp [Filing.closePage]
@[simp] theorem Filing.closePage_running (c s p l : Nat) (a b : Bool) (h : Nat) : (f.closePage c s p l a b h).running = f.running := by
  simp [Filing.running]
@[simp] theorem Filing.closePage_clock (c s p l : Nat) (a b : Bool) (h : Nat) : (f.closePage c s p l a b h).clock = f.clock := by
  simp [Filing.closePage]
@[simp] theorem Filing.closePage_now (c s p l : Nat) (a b : Bool) (h : Nat) : (f.closePage c s p l a b h).now = f.now := by
  simp [Filing.now]
@[simp] theorem Filing.closePage_scrubber (c s p l : Nat) (a b : Bool) (h : Nat) : (f.closePage c s p l a b h).scrubber = f.scrubber := by
  simp [Filing.closePage]
@[simp] theorem Filing.closePage_channels (c s p l : Nat) (a b : Bool) (h : Nat) : (f.closePage c s p l a b h).channels = f.channels := by
  simp [Filing.closePage]
@[simp] theorem Filing.closePage_chan (c s p l : Nat) (a b : Bool) (h : Nat) (k : Nat) : (f.closePage c s p l a b h).chan k = f.chan k := by
  simp [Filing.chan]
@[simp] theorem Filing.closePage_queue (c s p l : Nat) (a b : Bool) (h : Nat) : (f.closePage c s p l a b h).queue = f.queue := by
  simp [Filing.closePage]
@[simp] theorem Filing.closePage_bindings (c s p l : Nat) (a b : Bool) (h : Nat) : (f.closePage c s p l a b h).bindings = f.bindings := by
  simp [Filing.closePage]
@[simp] theorem Filing.closePage_binding (c s p l : Nat) (a b : Bool) (h : Nat) (k : Nat) : (f.closePage c s p l a b h).binding k = f.binding k := by
  simp [Filing.binding]
@[simp] theorem Filing.closePage_posting (c s p l : Nat) (a b : Bool) (h : Nat) : (f.closePage c s p l a b h).posting = f.posting := by
  simp [Filing.closePage]
@[simp] theorem Filing.closePage_slot (c s p l : Nat) (a b : Bool) (h : Nat) (k : Nat) : (f.closePage c s p l a b h).slot k = f.slot k := by
  simp [Filing.slot]

/-! ### setRetention -/

@[simp] theorem Filing.setRetention_boot (s h : Nat) (t : Time) : (f.setRetention s h t).boot = f.boot := by
  unfold Filing.setRetention; dsimp only; split_ifs <;> simp
@[simp] theorem Filing.setRetention_running (s h : Nat) (t : Time) : (f.setRetention s h t).running = f.running := by
  simp [Filing.running]
@[simp] theorem Filing.setRetention_blocks (s h : Nat) (t : Time) : (f.setRetention s h t).blocks = f.blocks := by
  unfold Filing.setRetention; dsimp only; split_ifs <;> simp
@[simp] theorem Filing.setRetention_block (s h : Nat) (t : Time) (k : Nat) : (f.setRetention s h t).block k = f.block k := by
  simp [Filing.block]
@[simp] theorem Filing.setRetention_scrubber (s h : Nat) (t : Time) : (f.setRetention s h t).scrubber = f.scrubber := by
  unfold Filing.setRetention; dsimp only; split_ifs <;> simp
@[simp] theorem Filing.setRetention_channels (s h : Nat) (t : Time) : (f.setRetention s h t).channels = f.channels := by
  unfold Filing.setRetention; dsimp only; split_ifs <;> simp
@[simp] theorem Filing.setRetention_chan (s h : Nat) (t : Time) (k : Nat) : (f.setRetention s h t).chan k = f.chan k := by
  simp [Filing.chan]
@[simp] theorem Filing.setRetention_boxes (s h : Nat) (t : Time) : (f.setRetention s h t).boxes = f.boxes := by
  unfold Filing.setRetention; dsimp only; split_ifs <;> simp
@[simp] theorem Filing.setRetention_mailbox (s h : Nat) (t : Time) (k : Nat) : (f.setRetention s h t).mailbox k = f.mailbox k := by
  simp [Filing.mailbox]
@[simp] theorem Filing.setRetention_route (s h : Nat) (t : Time) (k : Nat) : (f.setRetention s h t).route k = f.route k := by
  simp [Filing.route]
@[simp] theorem Filing.setRetention_queue (s h : Nat) (t : Time) : (f.setRetention s h t).queue = f.queue := by
  unfold Filing.setRetention; dsimp only; split_ifs <;> simp
@[simp] theorem Filing.setRetention_bindings (s h : Nat) (t : Time) : (f.setRetention s h t).bindings = f.bindings := by
  unfold Filing.setRetention; dsimp only; split_ifs <;> simp
@[simp] theorem Filing.setRetention_binding (s h : Nat) (t : Time) (k : Nat) : (f.setRetention s h t).binding k = f.binding k := by
  simp [Filing.binding]
@[simp] theorem Filing.setRetention_posting (s h : Nat) (t : Time) : (f.setRetention s h t).posting = f.posting := by
  unfold Filing.setRetention; dsimp only; split_ifs <;> simp
@[simp] theorem Filing.setRetention_slot (s h : Nat) (t : Time) (k : Nat) : (f.setRetention s h t).slot k = f.slot k := by
  simp [Filing.slot]
@[simp] theorem Filing.setRetention_ring (s h : Nat) (t : Time) : (f.setRetention s h t).ring = f.ring := by
  unfold Filing.setRetention; dsimp only; split_ifs <;> simp
@[simp] theorem Filing.setRetention_monitors (s h : Nat) (t : Time) : (f.setRetention s h t).monitors = f.monitors := by
  unfold Filing.setRetention; dsimp only; split_ifs <;> simp

/-! ### closeDoc -/

@[simp] theorem Filing.closeDoc_boot (c s : Nat) (cl : Closure) : (f.closeDoc c s cl).boot = f.boot := by
  unfold Filing.closeDoc; dsimp only; split_ifs <;> simp
@[simp] theorem Filing.closeDoc_running (c s : Nat) (cl : Closure) : (f.closeDoc c s cl).running = f.running := by
  simp [Filing.running]
@[simp] theorem Filing.closeDoc_scrubber (c s : Nat) (cl : Closure) : (f.closeDoc c s cl).scrubber = f.scrubber := by
  unfold Filing.closeDoc; dsimp only; split_ifs <;> simp
@[simp] theorem Filing.closeDoc_channels (c s : Nat) (cl : Closure) : (f.closeDoc c s cl).channels = f.channels := by
  unfold Filing.closeDoc; dsimp only; split_ifs <;> simp
@[simp] theorem Filing.closeDoc_chan (c s : Nat) (cl : Closure) (k : Nat) : (f.closeDoc c s cl).chan k = f.chan k := by
  simp [Filing.chan]
@[simp] theorem Filing.closeDoc_bindings (c s : Nat) (cl : Closure) : (f.closeDoc c s cl).bindings = f.bindings := by
  unfold Filing.closeDoc; dsimp only; split_ifs <;> simp
@[simp] theorem Filing.closeDoc_binding (c s : Nat) (cl : Closure) (k : Nat) : (f.closeDoc c s cl).binding k = f.binding k := by
  simp [Filing.binding]
@[simp] theorem Filing.closeDoc_posting (c s : Nat) (cl : Closure) : (f.closeDoc c s cl).posting = f.posting := by
  unfold Filing.closeDoc; dsimp only; split_ifs <;> simp
@[simp] theorem Filing.closeDoc_slot (c s : Nat) (cl : Closure) (k : Nat) : (f.closeDoc c s cl).slot k = f.slot k := by
  simp [Filing.slot]

/-! ### closeOpenPage -/

@[simp] theorem Filing.closeOpenPage_boot (c l : Nat) (a b : Bool) : (f.closeOpenPage c l a b).boot = f.boot := by
  unfold Filing.closeOpenPage; dsimp only; split <;> simp
@[simp] theorem Filing.closeOpenPage_running (c l : Nat) (a b : Bool) : (f.closeOpenPage c l a b).running = f.running := by
  simp [Filing.running]
@[simp] theorem Filing.closeOpenPage_clock (c l : Nat) (a b : Bool) : (f.closeOpenPage c l a b).clock = f.clock := by
  unfold Filing.closeOpenPage; dsimp only; split <;> simp
@[simp] theorem Filing.closeOpenPage_now (c l : Nat) (a b : Bool) : (f.closeOpenPage c l a b).now = f.now := by
  simp [Filing.now]
@[simp] theorem Filing.closeOpenPage_scrubber (c l : Nat) (a b : Bool) : (f.closeOpenPage c l a b).scrubber = f.scrubber := by
  unfold Filing.closeOpenPage; dsimp only; split <;> simp
@[simp] theorem Filing.closeOpenPage_queue (c l : Nat) (a b : Bool) : (f.closeOpenPage c l a b).queue = f.queue := by
  unfold Filing.closeOpenPage; dsimp only; split <;> simp
@[simp] theorem Filing.closeOpenPage_bindings (c l : Nat) (a b : Bool) : (f.closeOpenPage c l a b).bindings = f.bindings := by
  unfold Filing.closeOpenPage; dsimp only; split <;> simp
@[simp] theorem Filing.closeOpenPage_binding (c l : Nat) (a b : Bool) (k : Nat) : (f.closeOpenPage c l a b).binding k = f.binding k := by
  simp [Filing.binding]
@[simp] theorem Filing.closeOpenPage_posting (c l : Nat) (a b : Bool) : (f.closeOpenPage c l a b).posting = f.posting := by
  unfold Filing.closeOpenPage; dsimp only; split <;> simp
@[simp] theorem Filing.closeOpenPage_slot (c l : Nat) (a b : Bool) (k : Nat) : (f.closeOpenPage c l a b).slot k = f.slot k := by
  simp [Filing.slot]

/-! ### forcedClose -/

@[simp] theorem Filing.forcedClose_boot (c : Nat) : (f.forcedClose c).boot = f.boot := by
  simp [Filing.forcedClose]
@[simp] theorem Filing.forcedClose_running (c : Nat) : (f.forcedClose c).running = f.running := by
  simp [Filing.running]
@[simp] theorem Filing.forcedClose_clock (c : Nat) : (f.forcedClose c).clock = f.clock := by
  simp [Filing.forcedClose]
@[simp] theorem Filing.forcedClose_now (c : Nat) : (f.forcedClose c).now = f.now := by
  simp [Filing.now]
@[simp] theorem Filing.forcedClose_scrubber (c : Nat) : (f.forcedClose c).scrubber = f.scrubber := by
  simp [Filing.forcedClose]
@[simp] theorem Filing.forcedClose_queue (c : Nat) : (f.forcedClose c).queue = f.queue := by
  simp [Filing.forcedClose]
@[simp] theorem Filing.forcedClose_bindings (c : Nat) : (f.forcedClose c).bindings = f.bindings := by
  simp [Filing.forcedClose]
@[simp] theorem Filing.forcedClose_binding (c : Nat) (k : Nat) : (f.forcedClose c).binding k = f.binding k := by
  simp [Filing.binding]
@[simp] theorem Filing.forcedClose_posting (c : Nat) : (f.forcedClose c).posting = f.posting := by
  simp [Filing.forcedClose]
@[simp] theorem Filing.forcedClose_slot (c : Nat) (k : Nat) : (f.forcedClose c).slot k = f.slot k := by
  simp [Filing.slot]

/-! ### closeCall -/

@[simp] theorem Filing.closeCall_boot (c : Nat) (cl : Closure) (d : Bool) : (f.closeCall c cl d).boot = f.boot := by
  unfold Filing.closeCall; split <;> simp
@[simp] theorem Filing.closeCall_running (c : Nat) (cl : Closure) (d : Bool) : (f.closeCall c cl d).running = f.running := by
  simp [Filing.running]
@[simp] theorem Filing.closeCall_scrubber (c : Nat) (cl : Closure) (d : Bool) : (f.closeCall c cl d).scrubber = f.scrubber := by
  unfold Filing.closeCall; split <;> simp
@[simp] theorem Filing.closeCall_bindings (c : Nat) (cl : Closure) (d : Bool) : (f.closeCall c cl d).bindings = f.bindings := by
  unfold Filing.closeCall; split <;> simp
@[simp] theorem Filing.closeCall_binding (c : Nat) (cl : Closure) (d : Bool) (k : Nat) : (f.closeCall c cl d).binding k = f.binding k := by
  simp [Filing.binding]
@[simp] theorem Filing.closeCall_posting (c : Nat) (cl : Closure) (d : Bool) : (f.closeCall c cl d).posting = f.posting := by
  unfold Filing.closeCall; split <;> simp
@[simp] theorem Filing.closeCall_slot (c : Nat) (cl : Closure) (d : Bool) (k : Nat) : (f.closeCall c cl d).slot k = f.slot k := by
  simp [Filing.slot]

/-! ### endCurrent -/

@[simp] theorem Filing.endCurrent_boot (c : Nat) (cl : Closure) (d : Bool) : (f.endCurrent c cl d).boot = f.boot := by
  unfold Filing.endCurrent; split_ifs <;> simp
@[simp] theorem Filing.endCurrent_running (c : Nat) (cl : Closure) (d : Bool) : (f.endCurrent c cl d).running = f.running := by
  simp [Filing.running]
@[simp] theorem Filing.endCurrent_scrubber (c : Nat) (cl : Closure) (d : Bool) : (f.endCurrent c cl d).scrubber = f.scrubber := by
  unfold Filing.endCurrent; split_ifs <;> simp
@[simp] theorem Filing.endCurrent_bindings (c : Nat) (cl : Closure) (d : Bool) : (f.endCurrent c cl d).bindings = f.bindings := by
  unfold Filing.endCurrent; split_ifs <;> simp
@[simp] theorem Filing.endCurrent_binding (c : Nat) (cl : Closure) (d : Bool) (k : Nat) : (f.endCurrent c cl d).binding k = f.binding k := by
  simp [Filing.binding]
@[simp] theorem Filing.endCurrent_posting (c : Nat) (cl : Closure) (d : Bool) : (f.endCurrent c cl d).posting = f.posting := by
  unfold Filing.endCurrent; split_ifs <;> simp
@[simp] theorem Filing.endCurrent_slot (c : Nat) (cl : Closure) (d : Bool) (k : Nat) : (f.endCurrent c cl d).slot k = f.slot k := by
  simp [Filing.slot]

/-! ### endAttempt -/

@[simp] theorem Filing.endAttempt_boot (c : Nat) (u : Recipient → Recipient) : (f.endAttempt c u).boot = f.boot := by
  unfold Filing.endAttempt; dsimp only; split <;> simp
@[simp] theorem Filing.endAttempt_running (c : Nat) (u : Recipient → Recipient) : (f.endAttempt c u).running = f.running := by
  simp [Filing.running]
@[simp] theorem Filing.endAttempt_clock (c : Nat) (u : Recipient → Recipient) : (f.endAttempt c u).clock = f.clock := by
  unfold Filing.endAttempt; dsimp only; split <;> simp
@[simp] theorem Filing.endAttempt_now (c : Nat) (u : Recipient → Recipient) : (f.endAttempt c u).now = f.now := by
  simp [Filing.now]
@[simp] theorem Filing.endAttempt_blocks (c : Nat) (u : Recipient → Recipient) : (f.endAttempt c u).blocks = f.blocks := by
  unfold Filing.endAttempt; dsimp only; split <;> simp
@[simp] theorem Filing.endAttempt_block (c : Nat) (u : Recipient → Recipient) (k : Nat) : (f.endAttempt c u).block k = f.block k := by
  simp [Filing.block]
@[simp] theorem Filing.endAttempt_scrubber (c : Nat) (u : Recipient → Recipient) : (f.endAttempt c u).scrubber = f.scrubber := by
  unfold Filing.endAttempt; dsimp only; split <;> simp
@[simp] theorem Filing.endAttempt_boxes (c : Nat) (u : Recipient → Recipient) : (f.endAttempt c u).boxes = f.boxes := by
  unfold Filing.endAttempt; dsimp only; split <;> simp
@[simp] theorem Filing.endAttempt_mailbox (c : Nat) (u : Recipient → Recipient) (k : Nat) : (f.endAttempt c u).mailbox k = f.mailbox k := by
  simp [Filing.mailbox]
@[simp] theorem Filing.endAttempt_route (c : Nat) (u : Recipient → Recipient) (k : Nat) : (f.endAttempt c u).route k = f.route k := by
  simp [Filing.route]
@[simp] theorem Filing.endAttempt_queue (c : Nat) (u : Recipient → Recipient) : (f.endAttempt c u).queue = f.queue := by
  unfold Filing.endAttempt; dsimp only; split <;> simp
@[simp] theorem Filing.endAttempt_bindings (c : Nat) (u : Recipient → Recipient) : (f.endAttempt c u).bindings = f.bindings := by
  unfold Filing.endAttempt; dsimp only; split <;> simp
@[simp] theorem Filing.endAttempt_binding (c : Nat) (u : Recipient → Recipient) (k : Nat) : (f.endAttempt c u).binding k = f.binding k := by
  simp [Filing.binding]
@[simp] theorem Filing.endAttempt_posting (c : Nat) (u : Recipient → Recipient) : (f.endAttempt c u).posting = f.posting := by
  unfold Filing.endAttempt; dsimp only; split <;> simp
@[simp] theorem Filing.endAttempt_slot (c : Nat) (u : Recipient → Recipient) (k : Nat) : (f.endAttempt c u).slot k = f.slot k := by
  simp [Filing.slot]
@[simp] theorem Filing.endAttempt_ring (c : Nat) (u : Recipient → Recipient) : (f.endAttempt c u).ring = f.ring := by
  unfold Filing.endAttempt; dsimp only; split <;> simp
@[simp] theorem Filing.endAttempt_monitors (c : Nat) (u : Recipient → Recipient) : (f.endAttempt c u).monitors = f.monitors := by
  unfold Filing.endAttempt; dsimp only; split <;> simp

/-! ### breakBindings -/

@[simp] theorem Filing.breakBindings_boot (t : Binding → Bool) (w : UnboundReason) : (f.breakBindings t w).boot = f.boot := by
  unfold Filing.breakBindings; exact foldl_keeps Filing.boot _ _ _ (by intro b a; split <;> (try split_ifs) <;> simp)
@[simp] theorem Filing.breakBindings_running (t : Binding → Bool) (w : UnboundReason) : (f.breakBindings t w).running = f.running := by
  simp [Filing.running]
@[simp] theorem Filing.breakBindings_clock (t : Binding → Bool) (w : UnboundReason) : (f.breakBindings t w).clock = f.clock := by
  unfold Filing.breakBindings; exact foldl_keeps Filing.clock _ _ _ (by intro b a; split <;> (try split_ifs) <;> simp)
@[simp] theorem Filing.breakBindings_now (t : Binding → Bool) (w : UnboundReason) : (f.breakBindings t w).now = f.now := by
  simp [Filing.now]
@[simp] theorem Filing.breakBindings_blocks (t : Binding → Bool) (w : UnboundReason) : (f.breakBindings t w).blocks = f.blocks := by
  unfold Filing.breakBindings; exact foldl_keeps Filing.blocks _ _ _ (by intro b a; split <;> (try split_ifs) <;> simp)
@[simp] theorem Filing.breakBindings_block (t : Binding → Bool) (w : UnboundReason) (k : Nat) : (f.breakBindings t w).block k = f.block k := by
  simp [Filing.block]
@[simp] theorem Filing.breakBindings_scrubber (t : Binding → Bool) (w : UnboundReason) : (f.breakBindings t w).scrubber = f.scrubber := by
  unfold Filing.breakBindings; exact foldl_keeps Filing.scrubber _ _ _ (by intro b a; split <;> (try split_ifs) <;> simp)
@[simp] theorem Filing.breakBindings_dir (t : Binding → Bool) (w : UnboundReason) : (f.breakBindings t w).dir = f.dir := by
  unfold Filing.breakBindings; exact foldl_keeps Filing.dir _ _ _ (by intro b a; split <;> (try split_ifs) <;> simp)
@[simp] theorem Filing.breakBindings_doc (t : Binding → Bool) (w : UnboundReason) (k : Nat) : (f.breakBindings t w).doc k = f.doc k := by
  simp [Filing.doc]
@[simp] theorem Filing.breakBindings_page (t : Binding → Bool) (w : UnboundReason) (k : Nat) : (f.breakBindings t w).page k = f.page k := by
  simp [Filing.page]
@[simp] theorem Filing.breakBindings_channels (t : Binding → Bool) (w : UnboundReason) : (f.breakBindings t w).channels = f.channels := by
  unfold Filing.breakBindings; exact foldl_keeps Filing.channels _ _ _ (by intro b a; split <;> (try split_ifs) <;> simp)
@[simp] theorem Filing.breakBindings_chan (t : Binding → Bool) (w : UnboundReason) (k : Nat) : (f.breakBindings t w).chan k = f.chan k := by
  simp [Filing.chan]
@[simp] theorem Filing.breakBindings_boxes (t : Binding → Bool) (w : UnboundReason) : (f.breakBindings t w).boxes = f.boxes := by
  unfold Filing.breakBindings; exact foldl_keeps Filing.boxes _ _ _ (by intro b a; split <;> (try split_ifs) <;> simp)
@[simp] theorem Filing.breakBindings_mailbox (t : Binding → Bool) (w : UnboundReason) (k : Nat) : (f.breakBindings t w).mailbox k = f.mailbox k := by
  simp [Filing.mailbox]
@[simp] theorem Filing.breakBindings_route (t : Binding → Bool) (w : UnboundReason) (k : Nat) : (f.breakBindings t w).route k = f.route k := by
  simp [Filing.route]
@[simp] theorem Filing.breakBindings_queue (t : Binding → Bool) (w : UnboundReason) : (f.breakBindings t w).queue = f.queue := by
  unfold Filing.breakBindings; exact foldl_keeps Filing.queue _ _ _ (by intro b a; split <;> (try split_ifs) <;> simp)
@[simp] theorem Filing.breakBindings_posting (t : Binding → Bool) (w : UnboundReason) : (f.breakBindings t w).posting = f.posting := by
  unfold Filing.breakBindings; exact foldl_keeps Filing.posting _ _ _ (by intro b a; split <;> (try split_ifs) <;> simp)
@[simp] theorem Filing.breakBindings_slot (t : Binding → Bool) (w : UnboundReason) (k : Nat) : (f.breakBindings t w).slot k = f.slot k := by
  simp [Filing.slot]
@[simp] theorem Filing.breakBindings_monitors (t : Binding → Bool) (w : UnboundReason) : (f.breakBindings t w).monitors = f.monitors := by
  unfold Filing.breakBindings; exact foldl_keeps Filing.monitors _ _ _ (by intro b a; split <;> (try split_ifs) <;> simp)

/-! ### recheck -/

@[simp] theorem Filing.recheck_boot (t : Binding → Bool) : (f.recheck t).boot = f.boot := by
  simp [Filing.recheck]
@[simp] theorem Filing.recheck_running (t : Binding → Bool) : (f.recheck t).running = f.running := by
  simp [Filing.running]
@[simp] theorem Filing.recheck_scrubber (t : Binding → Bool) : (f.recheck t).scrubber = f.scrubber := by
  simp [Filing.recheck]
@[simp] theorem Filing.recheck_channels (t : Binding → Bool) : (f.recheck t).channels = f.channels := by
  simp [Filing.recheck]
@[simp] theorem Filing.recheck_chan (t : Binding → Bool) (k : Nat) : (f.recheck t).chan k = f.chan k := by
  simp [Filing.chan]
@[simp] theorem Filing.recheck_queue (t : Binding → Bool) : (f.recheck t).queue = f.queue := by
  simp [Filing.recheck]
@[simp] theorem Filing.recheck_posting (t : Binding → Bool) : (f.recheck t).posting = f.posting := by
  simp [Filing.recheck]
@[simp] theorem Filing.recheck_slot (t : Binding → Bool) (k : Nat) : (f.recheck t).slot k = f.slot k := by
  simp [Filing.slot]

/-! ### moveUsage -/

@[simp] theorem Filing.moveUsage_boot (m n b : Nat) : (f.moveUsage m n b).boot = f.boot := by
  simp [Filing.moveUsage]
@[simp] theorem Filing.moveUsage_running (m n b : Nat) : (f.moveUsage m n b).running = f.running := by
  simp [Filing.running]
@[simp] theorem Filing.moveUsage_clock (m n b : Nat) : (f.moveUsage m n b).clock = f.clock := by
  simp [Filing.moveUsage]
@[simp] theorem Filing.moveUsage_now (m n b : Nat) : (f.moveUsage m n b).now = f.now := by
  simp [Filing.now]
@[simp] theorem Filing.moveUsage_blocks (m n b : Nat) : (f.moveUsage m n b).blocks = f.blocks := by
  simp [Filing.moveUsage]
@[simp] theorem Filing.moveUsage_block (m n b : Nat) (k : Nat) : (f.moveUsage m n b).block k = f.block k := by
  simp [Filing.block]
@[simp] theorem Filing.moveUsage_scrubber (m n b : Nat) : (f.moveUsage m n b).scrubber = f.scrubber := by
  simp [Filing.moveUsage]
@[simp] theorem Filing.moveUsage_dir (m n b : Nat) : (f.moveUsage m n b).dir = f.dir := by
  simp [Filing.moveUsage]
@[simp] theorem Filing.moveUsage_doc (m n b : Nat) (k : Nat) : (f.moveUsage m n b).doc k = f.doc k := by
  simp [Filing.doc]
@[simp] theorem Filing.moveUsage_page (m n b : Nat) (k : Nat) : (f.moveUsage m n b).page k = f.page k := by
  simp [Filing.page]
@[simp] theorem Filing.moveUsage_channels (m n b : Nat) : (f.moveUsage m n b).channels = f.channels := by
  simp [Filing.moveUsage]
@[simp] theorem Filing.moveUsage_chan (m n b : Nat) (k : Nat) : (f.moveUsage m n b).chan k = f.chan k := by
  simp [Filing.chan]
@[simp] theorem Filing.moveUsage_queue (m n b : Nat) : (f.moveUsage m n b).queue = f.queue := by
  simp [Filing.moveUsage]
@[simp] theorem Filing.moveUsage_bindings (m n b : Nat) : (f.moveUsage m n b).bindings = f.bindings := by
  simp [Filing.moveUsage]
@[simp] theorem Filing.moveUsage_binding (m n b : Nat) (k : Nat) : (f.moveUsage m n b).binding k = f.binding k := by
  simp [Filing.binding]
@[simp] theorem Filing.moveUsage_posting (m n b : Nat) : (f.moveUsage m n b).posting = f.posting := by
  simp [Filing.moveUsage]
@[simp] theorem Filing.moveUsage_slot (m n b : Nat) (k : Nat) : (f.moveUsage m n b).slot k = f.slot k := by
  simp [Filing.slot]

/-! ### produceResult -/

@[simp] theorem Filing.produceResult_boot (s t : Nat) (c : ResultCode) (a : List Word) (m : Time) (w : Bool) : (f.produceResult s t c a m w).boot = f.boot := by
  simp [Filing.produceResult]
@[simp] theorem Filing.produceResult_running (s t : Nat) (c : ResultCode) (a : List Word) (m : Time) (w : Bool) : (f.produceResult s t c a m w).running = f.running := by
  simp [Filing.running]
@[simp] theorem Filing.produceResult_clock (s t : Nat) (c : ResultCode) (a : List Word) (m : Time) (w : Bool) : (f.produceResult s t c a m w).clock = f.clock := by
  simp [Filing.produceResult]
@[simp] theorem Filing.produceResult_now (s t : Nat) (c : ResultCode) (a : List Word) (m : Time) (w : Bool) : (f.produceResult s t c a m w).now = f.now := by
  simp [Filing.now]
@[simp] theorem Filing.produceResult_blocks (s t : Nat) (c : ResultCode) (a : List Word) (m : Time) (w : Bool) : (f.produceResult s t c a m w).blocks = f.blocks := by
  simp [Filing.produceResult]
@[simp] theorem Filing.produceResult_block (s t : Nat) (c : ResultCode) (a : List Word) (m : Time) (w : Bool) (k : Nat) : (f.produceResult s t c a m w).block k = f.block k := by
  simp [Filing.block]
@[simp] theorem Filing.produceResult_scrubber (s t : Nat) (c : ResultCode) (a : List Word) (m : Time) (w : Bool) : (f.produceResult s t c a m w).scrubber = f.scrubber := by
  simp [Filing.produceResult]
@[simp] theorem Filing.produceResult_dir (s t : Nat) (c : ResultCode) (a : List Word) (m : Time) (w : Bool) : (f.produceResult s t c a m w).dir = f.dir := by
  simp [Filing.produceResult]
@[simp] theorem Filing.produceResult_doc (s t : Nat) (c : ResultCode) (a : List Word) (m : Time) (w : Bool) (k : Nat) : (f.produceResult s t c a m w).doc k = f.doc k := by
  simp [Filing.doc]
@[simp] theorem Filing.produceResult_page (s t : Nat) (c : ResultCode) (a : List Word) (m : Time) (w : Bool) (k : Nat) : (f.produceResult s t c a m w).page k = f.page k := by
  simp [Filing.page]
@[simp] theorem Filing.produceResult_channels (s t : Nat) (c : ResultCode) (a : List Word) (m : Time) (w : Bool) : (f.produceResult s t c a m w).channels = f.channels := by
  simp [Filing.produceResult]
@[simp] theorem Filing.produceResult_chan (s t : Nat) (c : ResultCode) (a : List Word) (m : Time) (w : Bool) (k : Nat) : (f.produceResult s t c a m w).chan k = f.chan k := by
  simp [Filing.chan]
@[simp] theorem Filing.produceResult_boxes (s t : Nat) (c : ResultCode) (a : List Word) (m : Time) (w : Bool) : (f.produceResult s t c a m w).boxes = f.boxes := by
  simp [Filing.produceResult]
@[simp] theorem Filing.produceResult_mailbox (s t : Nat) (c : ResultCode) (a : List Word) (m : Time) (w : Bool) (k : Nat) : (f.produceResult s t c a m w).mailbox k = f.mailbox k := by
  simp [Filing.mailbox]
@[simp] theorem Filing.produceResult_route (s t : Nat) (c : ResultCode) (a : List Word) (m : Time) (w : Bool) (k : Nat) : (f.produceResult s t c a m w).route k = f.route k := by
  simp [Filing.route]
@[simp] theorem Filing.produceResult_queue (s t : Nat) (c : ResultCode) (a : List Word) (m : Time) (w : Bool) : (f.produceResult s t c a m w).queue = f.queue := by
  simp [Filing.produceResult]
@[simp] theorem Filing.produceResult_bindings (s t : Nat) (c : ResultCode) (a : List Word) (m : Time) (w : Bool) : (f.produceResult s t c a m w).bindings = f.bindings := by
  simp [Filing.produceResult]
@[simp] theorem Filing.produceResult_binding (s t : Nat) (c : ResultCode) (a : List Word) (m : Time) (w : Bool) (k : Nat) : (f.produceResult s t c a m w).binding k = f.binding k := by
  simp [Filing.binding]
@[simp] theorem Filing.produceResult_posting (s t : Nat) (c : ResultCode) (a : List Word) (m : Time) (w : Bool) : (f.produceResult s t c a m w).posting = f.posting := by
  simp [Filing.produceResult]
@[simp] theorem Filing.produceResult_slot (s t : Nat) (c : ResultCode) (a : List Word) (m : Time) (w : Bool) (k : Nat) : (f.produceResult s t c a m w).slot k = f.slot k := by
  simp [Filing.slot]
@[simp] theorem Filing.produceResult_mirror (s t : Nat) (c : ResultCode) (a : List Word) (m : Time) (w : Bool) : (f.produceResult s t c a m w).mirror = f.mirror := by
  simp [Filing.produceResult]
@[simp] theorem Filing.produceResult_monitors (s t : Nat) (c : ResultCode) (a : List Word) (m : Time) (w : Bool) : (f.produceResult s t c a m w).monitors = f.monitors := by
  simp [Filing.produceResult]

/-! ### Other channels -/

theorem Filing.closeOpenPage_chan_ne {c e : Nat} (l : Nat) (a b : Bool) (h : e ≠ c) :
    (f.closeOpenPage c l a b).chan e = f.chan e := by
  unfold Filing.closeOpenPage; dsimp only; split <;> simp [Filing.chan_setChan_ne _ _ h]

theorem Filing.closeCall_chan_ne {c e : Nat} (cl : Closure) (d : Bool) (h : e ≠ c) :
    (f.closeCall c cl d).chan e = f.chan e := by
  unfold Filing.closeCall; split <;> simp [Filing.chan_setChan_ne _ _ h]

theorem Filing.endCurrent_chan_ne {c e : Nat} (cl : Closure) (d : Bool) (h : e ≠ c) :
    (f.endCurrent c cl d).chan e = f.chan e := by
  unfold Filing.endCurrent; rw [Filing.closeCall_chan_ne _ _ _ h]; split_ifs
  · exact Filing.closeOpenPage_chan_ne _ _ _ _ h
  · rfl

theorem Filing.endAttempt_chan_ne {c e : Nat} (u : Recipient → Recipient) (h : e ≠ c) :
    (f.endAttempt c u).chan e = f.chan e := by
  unfold Filing.endAttempt; dsimp only; split <;> simp [Filing.chan_setChan_ne _ _ h]

theorem Filing.reportFault_chan_ne {c e : Nat} (m : Monitor) (d : Word) (h : e ≠ c) :
    (f.reportFault c m d).chan e = f.chan e := by
  unfold Filing.reportFault; split_ifs <;> simp [Filing.chan_changeChan_ne _ _ h]

/-! ### The channel itself -/

/-- The channel after its fault report: unchanged where the monitor is masked. -/
theorem Filing.reportFault_chan (c : Nat) (m : Monitor) (d : Word) :
    (f.reportFault c m d).chan c =
      if f.masked m then f.chan c else (f.chan c).recordFault f.monitors.policy.lockout m := by
  unfold Filing.reportFault; split_ifs <;> simp

/-- The channel after its open page is closed. -/
theorem Filing.closeOpenPage_chan {c p d : Nat} (l : Nat) (a b : Bool) (hp : (f.chan c).openPage = some p)
    (hd : (f.chan c).doc = some d) :
    (f.closeOpenPage c l a b).chan c = { f.chan c with map := [], mark := none, openPage := none } := by
  unfold Filing.closeOpenPage; simp [hp, hd]

/-- The channel after it has left its call (R51). -/
theorem Filing.closeCall_chan {c d : Nat} (cl : Closure) (b : Bool) (hd : (f.chan c).doc = some d) :
    (f.closeCall c cl b).chan c =
      { f.chan c with doc := none, timer := none, lockPending := false,
                      state := if (f.chan c).lockPending then .locked else if b then .discard else .idle } := by
  unfold Filing.closeCall; simp [hd]

/-- The channel after its attempt has ended (R113). -/
theorem Filing.endAttempt_chan (c : Nat) (u : Recipient → Recipient) :
    (f.endAttempt c u).chan c =
      { f.chan c with bound := none, sending := none, timer := none, info := SendInfo.cleared,
                      state := if (f.chan c).lockPending then .locked else .idle, lockPending := false } := by
  unfold Filing.endAttempt; dsimp only; split <;> simp

/-! ### Allocation -/

/-- What an allocation does (R22): it takes the free chain's head, touches page p and its former last block besides, and
leaves every other table alone. -/
theorem Filing.allocate_some {p j n : Nat} {g : Filing} (h : f.allocate p j = some (g, n)) :
    ∃ rest, f.blocks.free = n :: rest ∧ g.blocks.free = rest ∧ g.blocks.scrub = f.blocks.scrub ∧
      g.page p = { f.page p with first := (f.page p).first.or (some n), count := (f.page p).count + 1 } ∧
      g.dir.docs = f.dir.docs ∧ g.channels = f.channels ∧ g.boxes = f.boxes ∧ g.queue = f.queue ∧
      g.bindings = f.bindings ∧ g.clock = f.clock ∧ g.boot = f.boot ∧ g.posting = f.posting := by
  unfold Filing.allocate at h
  split at h
  · cases h
  · next m rest hf =>
    simp only [Option.some.injEq, Prod.mk.injEq] at h
    obtain ⟨rfl, rfl⟩ := h
    refine ⟨rest, hf, ?_⟩
    split <;> simp [Filing.setBlock]

/-! ### Policy -/

@[simp] theorem Filing.latch_policy (e : LatchEvent) : (f.latch e).monitors.policy = f.monitors.policy := by
  unfold Filing.latch; split_ifs <;> simp [Filing.raiseStoreLow, Filing.raiseFault]
@[simp] theorem Filing.evalOver_policy (m : Nat) : (f.evalOver m).monitors.policy = f.monitors.policy := by
  unfold Filing.evalOver; dsimp only; split_ifs <;> simp
@[simp] theorem Filing.setUsage_policy (m u : Nat) : (f.setUsage m u).monitors.policy = f.monitors.policy := by
  simp [Filing.setUsage]
@[simp] theorem Filing.returnUsage_policy (m n : Nat) : (f.returnUsage m n).monitors.policy = f.monitors.policy := by
  unfold Filing.returnUsage; split_ifs <;> simp
@[simp] theorem Filing.completePage_policy (s p l : Nat) (a b : Bool) (h : Nat) :
    (f.completePage s p l a b h).monitors.policy = f.monitors.policy := by simp [Filing.completePage]
@[simp] theorem Filing.closePage_policy (c s p l : Nat) (a b : Bool) (h : Nat) :
    (f.closePage c s p l a b h).monitors.policy = f.monitors.policy := by simp [Filing.closePage]
@[simp] theorem Filing.closeOpenPage_policy (c l : Nat) (a b : Bool) :
    (f.closeOpenPage c l a b).monitors.policy = f.monitors.policy := by
  unfold Filing.closeOpenPage; dsimp only; split <;> simp
@[simp] theorem Filing.forcedClose_policy (c : Nat) : (f.forcedClose c).monitors.policy = f.monitors.policy := by
  simp [Filing.forcedClose]

end Sys2Proof.Machine
end

