-- ==== Sys2Proof/Laws/Ring.lean ====
section
/-! SUPPORT. What an execution does to the result ring: the consumer copy stays, the entries that host software has not consumed
never become fewer, and a notice waits only where the ring is full; so the filling ends with a full ring or with nothing
waiting. -/

namespace Sys2Proof.Machine

/-- Positions taken: the entries from the consumer copy to the production index. -/
def Filing.taken (f : Filing) : Nat := (f.ring.production - f.ring.consumer).toNat

/-- A pending notice has found the ring full. -/
def Filing.waitsFull (f : Filing) : Prop := f.ring.pending = [] ∨ ¬ f.ringRoom

/-- g comes from f by what may raise notices. -/
structure Filing.grows (f g : Filing) : Prop where
  phase : g.boot = f.boot
  consumer : g.ring.consumer = f.ring.consumer
  taken : f.taken ≤ g.taken
  waits : f.running = true → f.waitsFull → g.waitsFull

theorem Filing.ringRoom_iff (f : Filing) : f.ringRoom ↔ f.taken < 255 := by
  have h := (f.ring.production - f.ring.consumer).isLt
  constructor
  · intro hr
    rcases Nat.lt_or_ge f.taken 255 with h' | h'
    · exact h'
    · exact absurd (BitVec.eq_of_toNat_eq (by simp only [Filing.taken] at h'; simp only [BitVec.toNat_ofNat]; omega)) hr
  · intro hr he
    simp [Filing.taken, he] at hr

theorem Filing.grows_refl (f : Filing) : f.grows f := ⟨rfl, rfl, le_rfl, fun _ h => h⟩

theorem Filing.grows_of_ring {f g h : Filing} (hg : f.grows g) (hr : h.ring = g.ring) (hb : h.boot = g.boot) : f.grows h := by
  obtain ⟨a, b, c, d⟩ := hg
  refine ⟨hb.trans a, by rw [hr, b], by simpa [Filing.taken, hr] using c, fun h0 h1 => ?_⟩
  have := d h0 h1
  simpa [Filing.waitsFull, Filing.ringRoom, hr] using this

theorem Filing.grows_trans {f g h : Filing} (a : f.grows g) (b : g.grows h) : f.grows h := by
  refine ⟨b.phase.trans a.phase, b.consumer.trans a.consumer, a.taken.trans b.taken, fun h0 h1 => ?_⟩
  refine b.waits ?_ (a.waits h0 h1)
  simpa [Filing.running, a.phase] using h0

/-- An entry takes one more position. -/
theorem Filing.withEntry_taken (f : Filing) (kind code : Nat) (slot : Option (Nat × Nat)) (time : Time) (args : List Word)
    (own : Bool) (h : f.ringRoom) : (f.withEntry kind code slot time args own).taken = f.taken + 1 := by
  have h1 := f.ringRoom_iff.mp h
  simp only [Filing.taken, Filing.withEntry] at h1 ⊢
  bv_omega

theorem Filing.withEntry_grows {f g : Filing} (kind code : Nat) (slot : Option (Nat × Nat)) (time : Time) (args : List Word)
    (own : Bool) (hg : f.grows g) (h : g.ringRoom) (hp : g.ring.pending = []) :
    f.grows (g.withEntry kind code slot time args own) :=
  ⟨hg.phase, hg.consumer, by rw [g.withEntry_taken _ _ _ _ _ _ h]; exact Nat.le_succ_of_le hg.taken, fun _ _ => .inl hp⟩

/-! ## Notices -/

variable {f g : Filing}

theorem Filing.mark_grows (r : RecordId) (h : f.grows g) : f.grows (g.mark r) := f.grows_of_ring h (by simp) (by simp)

theorem Filing.setDoc_grows (s : Nat) (d : Doc) (h : f.grows g) : f.grows (g.setDoc s d) :=
  Filing.grows_of_ring h (by simp) (by simp)
theorem Filing.setPage_grows (p : Nat) (x : Page) (h : f.grows g) : f.grows (g.setPage p x) :=
  Filing.grows_of_ring h (by simp) (by simp)
theorem Filing.setChan_grows (c : Nat) (x : Channel) (h : f.grows g) : f.grows (g.setChan c x) :=
  Filing.grows_of_ring h (by simp) (by simp)
theorem Filing.setBox_grows (m : Nat) (x : Mailbox) (h : f.grows g) : f.grows (g.setBox m x) :=
  Filing.grows_of_ring h (by simp) (by simp)
theorem Filing.setRoute_grows (e : Nat) (x : Option Route) (h : f.grows g) : f.grows (g.setRoute e x) :=
  Filing.grows_of_ring h (by simp) (by simp)
theorem Filing.setBinding_grows (r : Nat) (x : Option Binding) (h : f.grows g) : f.grows (g.setBinding r x) :=
  Filing.grows_of_ring h (by simp) (by simp)
theorem Filing.setRecipient_grows (s k : Nat) (x : Recipient) (h : f.grows g) : f.grows (g.setRecipient s k x) :=
  Filing.grows_of_ring h (by simp) (by simp)
theorem Filing.changeDoc_grows (s : Nat) (d : Doc) (h : f.grows g) : f.grows (g.changeDoc s d) :=
  Filing.grows_of_ring h (by simp) (by simp)
theorem Filing.scrubAll_grows (ns : List Nat) (h : f.grows g) : f.grows (g.scrubAll ns) :=
  Filing.grows_of_ring h (by simp) (by simp)
theorem Filing.freePages_grows (s : Nat) (ps : List Nat) (h : f.grows g) : f.grows (g.freePages s ps) :=
  Filing.grows_of_ring h (by simp) (by simp)
theorem Filing.removeDeadlines_grows (s n : Nat) (h : f.grows g) : f.grows (g.removeDeadlines s n) :=
  Filing.grows_of_ring h (by simp) (by simp)
theorem Filing.removeRetain_grows (s n : Nat) (h : f.grows g) : f.grows (g.removeRetain s n) :=
  Filing.grows_of_ring h (by simp) (by simp)
theorem Filing.removeRetry_grows (s n k : Nat) (h : f.grows g) : f.grows (g.removeRetry s n k) :=
  Filing.grows_of_ring h (by simp) (by simp)
theorem Filing.makeReady_grows (s : Nat) (h : f.grows g) : f.grows (g.makeReady s) :=
  Filing.grows_of_ring h (by simp) (by simp)
theorem Filing.setRetention_grows (s n : Nat) (t : Time) (h : f.grows g) : f.grows (g.setRetention s n t) :=
  Filing.grows_of_ring h (by simp) (by simp)
theorem Filing.cancelLive_grows (s : Nat) (h : f.grows g) : f.grows (g.cancelLive s) :=
  Filing.grows_of_ring h (by simp) (by simp)
theorem Filing.endAttempt_grows (c : Nat) (u : Recipient → Recipient) (h : f.grows g) : f.grows (g.endAttempt c u) :=
  Filing.grows_of_ring h (by simp) (by simp)
theorem Filing.join_grows (s k : Nat) (x : MailClass) (h : f.grows g) : f.grows (g.join s k x) :=
  Filing.grows_of_ring h (by simp) (by simp)
theorem Filing.leave_grows (s k : Nat) (h : f.grows g) : f.grows (g.leave s k) :=
  Filing.grows_of_ring h (by simp) (by simp)
theorem Filing.fileAll_grows (ns : List Nat) (h : f.grows g) : f.grows (Filing.fileAll ns g) :=
  Filing.grows_of_ring h (by simp) (by simp)

theorem Filing.pend_grows (n : Notice) (h : f.grows g) (hw : f.running = true → f.waitsFull → ¬ g.ringRoom ∨ g.ring.pending ≠ []) :
    f.grows (g.pend n) := by
  have key (x : Filing) (hb : x.boot = g.boot) (hc : x.ring.consumer = g.ring.consumer)
      (hp : x.ring.production = g.ring.production) : f.grows x := by
    refine ⟨hb.trans h.phase, hc.trans h.consumer, by simpa [Filing.taken, hc, hp] using h.taken, fun h0 h1 => .inr ?_⟩
    have := h.waits h0 h1
    have := hw h0 h1
    simp only [Filing.waitsFull, Filing.ringRoom, hc, hp] at *
    tauto
  unfold Filing.pend
  split_ifs
  · exact key _ rfl rfl rfl
  · exact key _ rfl rfl rfl
  · exact key _ (by simp) (by simp) (by simp)
  · exact key _ rfl rfl rfl

theorem Filing.raise_grows (kind : NoticeKind) (doc : Option Nat) (item : KeyItem) (code : Nat) (args : List Word)
    (h : f.grows g) : f.grows (g.raise kind doc item code args) := by
  unfold Filing.raise
  dsimp only
  split_ifs with hc
  · simp only [Bool.and_eq_true, Bool.not_eq_true', List.isEmpty_iff, Ring.not_isFull_iff] at hc
    rw [Filing.produceNotice_eq]
    exact Filing.withEntry_grows _ _ _ _ _ _ h hc.1.2 hc.2
  · refine Filing.pend_grows _ h fun h0 _ => ?_
    have hr : g.running = true := by simpa [Filing.running, h.phase] using h0
    by_contra hn
    simp only [not_or, not_not] at hn
    exact hc (by simp [hr, hn.2, (Ring.not_isFull_iff g).mpr hn.1])

theorem Filing.latch_grows (e : LatchEvent) (h : f.grows g) : f.grows (g.latch e) := by
  by_cases hm : g.masked e.monitor = true
  · simpa [Filing.latch, hm] using h
  · simp only [Filing.latch, hm]
    by_cases hl : e.monitor = .low
    · simp only [hl, if_true]
      exact Filing.mark_grows _ (Filing.raise_grows _ _ _ _ _ (Filing.raise_grows _ _ _ _ _ (Filing.grows_of_ring h rfl rfl)))
    · simp only [hl, if_false]
      exact Filing.mark_grows _ (Filing.raise_grows _ _ _ _ _ (Filing.grows_of_ring h rfl rfl))

theorem Filing.latchLow_grows (h : f.grows g) : f.grows g.latchLow := Filing.latch_grows _ h

/-! ## The owners -/

theorem Filing.foldl_grows {α : Type} (op : Filing → α → Filing) (l : List α) (h : f.grows g)
    (step : ∀ x a, f.grows x → f.grows (op x a)) : f.grows (l.foldl op g) := by
  induction l generalizing g with
  | nil => exact h
  | cons a l ih => exact ih (step _ a h)

theorem Filing.evalOver_grows (m : Nat) (h : f.grows g) : f.grows (g.evalOver m) := by
  unfold Filing.evalOver
  dsimp only
  split_ifs
  · exact h
  · exact Filing.latch_grows _ (Filing.raise_grows _ _ _ _ _ (Filing.grows_of_ring h (by simp) (by simp)))
  · exact Filing.grows_of_ring h (by simp) (by simp)
  · exact h

theorem Filing.setUsage_grows (m u : Nat) (h : f.grows g) : f.grows (g.setUsage m u) :=
  Filing.evalOver_grows _ (Filing.mark_grows _ (Filing.setBox_grows _ _ h))

theorem Filing.returnUsage_grows (m n : Nat) (h : f.grows g) : f.grows (g.returnUsage m n) := by
  unfold Filing.returnUsage
  split_ifs
  · exact h
  · exact Filing.setUsage_grows _ _ h

theorem Filing.releaseDoc_grows (q : Bool) (s : Nat) (h : f.grows g) : f.grows (g.releaseDoc q s) := by
  unfold Filing.releaseDoc
  dsimp only
  split_ifs
  · exact Filing.mark_grows _ (Filing.setDoc_grows _ _ (Filing.removeDeadlines_grows _ _ (Filing.freePages_grows _ _
      (Filing.mark_grows _ (Filing.returnUsage_grows _ _ (Filing.scrubAll_grows _ h))))))
  · exact Filing.raise_grows _ _ _ _ _ (Filing.mark_grows _ (Filing.setDoc_grows _ _ (Filing.removeDeadlines_grows _ _
      (Filing.freePages_grows _ _ (Filing.mark_grows _ (Filing.returnUsage_grows _ _ (Filing.scrubAll_grows _ h)))))))

theorem Filing.checkRelease_grows (s : Nat) (h : f.grows g) : f.grows (g.checkRelease s) := by
  unfold Filing.checkRelease
  split_ifs
  · exact Filing.releaseDoc_grows _ _ h
  · exact h

theorem Filing.checkReleases_grows (ids : List Nat) (h : f.grows g) : f.grows (g.checkReleases ids) := by
  refine Filing.foldl_grows _ _ h fun x a hx => ?_
  split
  · exact Filing.checkRelease_grows _ hx
  · exact hx

theorem Filing.breakBindings_grows (b : Binding → Bool) (why : UnboundReason) (h : f.grows g) :
    f.grows (g.breakBindings b why) := by
  refine Filing.foldl_grows _ _ h fun x a hx => ?_
  split
  · split_ifs
    · exact Filing.raise_grows _ _ _ _ _ (Filing.grows_of_ring hx (by simp) (by simp))
    · exact hx
  · exact hx

theorem Filing.recheck_grows (b : Binding → Bool) (h : f.grows g) : f.grows (g.recheck b) :=
  Filing.checkReleases_grows _ (Filing.breakBindings_grows _ _ h)

theorem Filing.completePage_grows (s p l : Nat) (a b : Bool) (k : Nat) (h : f.grows g) :
    f.grows (g.completePage s p l a b k) :=
  Filing.mark_grows _ (Filing.mark_grows _ (Filing.setDoc_grows _ _ (Filing.setPage_grows _ _ (Filing.returnUsage_grows _ _
    (Filing.fileAll_grows _ (Filing.scrubAll_grows _ h))))))

theorem Filing.closeOpenPage_grows (c l : Nat) (a b : Bool) (h : f.grows g) : f.grows (g.closeOpenPage c l a b) := by
  unfold Filing.closeOpenPage
  dsimp only
  split
  · exact Filing.raise_grows _ _ _ _ _
      (Filing.mark_grows _ (Filing.setChan_grows _ _ (Filing.completePage_grows _ _ _ _ _ _ h)))
  · exact h

theorem Filing.closeDoc_grows (c s : Nat) (cl : Closure) (h : f.grows g) : f.grows (g.closeDoc c s cl) := by
  unfold Filing.closeDoc
  dsimp only
  split_ifs
  · exact Filing.releaseDoc_grows _ _ (Filing.raise_grows _ _ _ _ _ (Filing.grows_of_ring h (by simp) (by simp)))
  · exact Filing.raise_grows _ _ _ _ _ (Filing.grows_of_ring h (by simp) (by simp))
  · exact Filing.raise_grows _ _ _ _ _ (Filing.grows_of_ring h (by simp) (by simp))

theorem Filing.closeCall_grows (c : Nat) (cl : Closure) (d : Bool) (h : f.grows g) : f.grows (g.closeCall c cl d) := by
  unfold Filing.closeCall
  split
  · exact Filing.mark_grows _ (Filing.setChan_grows _ _ (Filing.closeDoc_grows _ _ _ h))
  · exact h

theorem Filing.endCurrent_grows (c : Nat) (cl : Closure) (d : Bool) (h : f.grows g) : f.grows (g.endCurrent c cl d) := by
  unfold Filing.endCurrent
  split_ifs
  · exact Filing.closeCall_grows _ _ _ (Filing.closeOpenPage_grows _ _ _ _ h)
  · exact Filing.closeCall_grows _ _ _ h

theorem Filing.cancelRecipient_grows (s k : Nat) (why : UnboundReason) (h : f.grows g) :
    f.grows (g.cancelRecipient s k why) := by
  unfold Filing.cancelRecipient
  dsimp only
  split
  · exact Filing.grows_of_ring h (by simp) (by simp)
  · exact Filing.grows_of_ring h (by simp) (by simp)
  · exact Filing.grows_of_ring h (by simp) (by simp)
  · split
    · exact Filing.raise_grows _ _ _ _ _ (Filing.grows_of_ring h (by simp) (by simp))
    · exact Filing.grows_of_ring h (by simp) (by simp)
  · exact h

theorem Filing.doneUnsent_grows (c s k : Nat) (h : f.grows g) : f.grows (g.doneUnsent c s k) :=
  Filing.checkRelease_grows _ (Filing.raise_grows _ _ _ _ _ (Filing.grows_of_ring h (by simp) (by simp)))

theorem Filing.moveUsage_grows (m n b : Nat) (h : f.grows g) : f.grows (g.moveUsage m n b) :=
  Filing.evalOver_grows _ (Filing.evalOver_grows _ (Filing.grows_of_ring h (by simp) (by simp)))

/-! ## The requests -/

theorem Filing.withDoc_grows (d : Nat) (k : Nat → Done) (hk : ∀ s, f.grows (k s).filing) : f.grows (f.withDoc d k).filing := by
  unfold Filing.withDoc
  split
  · exact f.grows_refl
  · exact hk _

theorem Filing.takeHead_grows (c n : Nat) (h : f.grows g) : f.grows (g.takeHead c n).filing := by
  induction n generalizing g with
  | zero => exact h
  | succ n ih =>
    unfold Filing.takeHead
    split
    · exact h
    · split
      · exact Filing.grows_of_ring h (by simp [Filing.answer, Filing.bindSend]) (by simp [Filing.answer, Filing.bindSend])
      · exact ih (Filing.doneUnsent_grows _ _ _ h)

theorem Filing.shiftDues_grows (t : Time) (h : f.grows g) : f.grows (g.shiftDues t) := by
  unfold Filing.shiftDues
  dsimp only
  split_ifs
  · exact Filing.grows_of_ring h rfl rfl
  · exact Filing.foldl_grows _ _ (Filing.grows_of_ring h rfl rfl) fun _ _ hx => Filing.mark_grows _ hx

theorem reqSetMailbox_grows (ops : List Word) : f.grows (reqSetMailbox ops f).filing := by
  have h := f.grows_refl
  unfold reqSetMailbox
  split
  · exact h
  · split_ifs
    · exact h
    · dsimp only
      split_ifs
      · exact Filing.mark_grows _ (Filing.recheck_grows _ (Filing.evalOver_grows _ (Filing.setBox_grows _ _ h)))
      · exact Filing.mark_grows _ (Filing.evalOver_grows _ (Filing.setBox_grows _ _ h))

theorem reqSetRoute_grows (ops : List Word) : f.grows (reqSetRoute ops f).filing := by
  have h := f.grows_refl
  unfold reqSetRoute
  dsimp only
  split
  · split_ifs
    · exact h
    · split
      · exact h
      · exact Filing.mark_grows _ (Filing.setRoute_grows _ _ h)
  · exact h

theorem reqClearRoute_grows (ops : List Word) : f.grows (reqClearRoute ops f).filing := by
  have h := f.grows_refl
  unfold reqClearRoute
  dsimp only
  split_ifs
  · exact h
  · exact Filing.mark_grows _ (Filing.setRoute_grows _ _ h)

theorem reqSetPolicy_grows (ops : List Word) : f.grows (reqSetPolicy ops f).filing := by
  have h := f.grows_refl
  unfold reqSetPolicy
  split_ifs
  · exact h
  · dsimp only
    refine Filing.mark_grows _ ?_
    split_ifs
    · exact Filing.latchLow_grows (Filing.grows_of_ring h rfl rfl)
    · exact Filing.latchLow_grows (Filing.mark_grows _ (Filing.grows_of_ring h rfl rfl))
    · exact Filing.grows_of_ring h rfl rfl
    · exact Filing.mark_grows _ (Filing.grows_of_ring h rfl rfl)

theorem reqSetChannelTimes_grows (ops : List Word) : f.grows (reqSetChannelTimes ops f).filing := by
  have h := f.grows_refl
  unfold reqSetChannelTimes
  dsimp only
  split_ifs
  · exact h
  · exact Filing.mark_grows _ (Filing.setChan_grows _ _ h)

theorem reqAbortIntake_grows (ops : List Word) : f.grows (reqAbortIntake ops f).filing := by
  have h := f.grows_refl
  unfold reqAbortIntake
  dsimp only
  split_ifs
  · exact h
  · exact Filing.endCurrent_grows _ _ _ h
  · exact h

theorem reqAccept_grows (ops : List Word) : f.grows (reqAccept ops f).filing := by
  have h := f.grows_refl
  refine Filing.withDoc_grows _ _ fun s => ?_
  split_ifs
  · exact Filing.makeReady_grows _ (Filing.mark_grows _ (Filing.setDoc_grows _ _ h))
  · exact h

theorem reqHold_grows (ops : List Word) : f.grows (reqHold ops f).filing := by
  have h := f.grows_refl
  refine Filing.withDoc_grows _ _ fun s => ?_
  split_ifs
  · exact h
  · exact Filing.changeDoc_grows _ _ h

theorem reqLiftHold_grows (ops : List Word) : f.grows (reqLiftHold ops f).filing := by
  have h := f.grows_refl
  refine Filing.withDoc_grows _ _ fun s => ?_
  split_ifs
  · exact h
  · exact Filing.checkRelease_grows _ (Filing.changeDoc_grows _ _ h)

theorem reqRelease_grows (ops : List Word) : f.grows (reqRelease ops f).filing := by
  have h := f.grows_refl
  refine Filing.withDoc_grows _ _ fun s => ?_
  split_ifs
  · exact h
  · exact Filing.checkRelease_grows _ (Filing.changeDoc_grows _ _ (Filing.removeRetain_grows _ _ h))

theorem reqPurge_grows (ops : List Word) : f.grows (reqPurge ops f).filing := by
  have h := f.grows_refl
  refine Filing.withDoc_grows _ _ fun s => ?_
  have h1 : f.grows (places.foldl (fun f k => f.cancelRecipient s k .purged) f) :=
    Filing.foldl_grows _ _ h fun _ _ hx => Filing.cancelRecipient_grows _ _ _ hx
  split_ifs
  · exact h
  · exact h
  · show f.grows (Filing.answer _ _).filing
    generalize places.foldl (fun f k => f.cancelRecipient s k .purged) f = f1 at h1 ⊢
    simp only [Filing.answer]
    refine Filing.releaseDoc_grows _ _ (Filing.mark_grows _ (Filing.setDoc_grows _ _ (Filing.removeRetain_grows _ _ ?_)))
    exact Filing.breakBindings_grows _ _ h1

theorem reqRefile_grows (ops : List Word) : f.grows (reqRefile ops f).filing := by
  have h := f.grows_refl
  unfold reqRefile
  dsimp only
  split_ifs
  · exact h
  · exact Filing.withDoc_grows _ _ fun s => h
  · refine Filing.withDoc_grows _ _ fun s => ?_
    split_ifs
    · exact h
    · exact Filing.recheck_grows _ (Filing.moveUsage_grows _ _ _ (Filing.changeDoc_grows _ _ h))

theorem reqRetain_grows (ops : List Word) : f.grows (reqRetain ops f).filing := by
  have h := f.grows_refl
  refine Filing.withDoc_grows _ _ fun s => ?_
  split_ifs
  · exact h
  · have h3 (x : Doc) := Filing.setRetention_grows s (min (operandNat ops 1) Config.maxRetention) f.now
      (Filing.changeDoc_grows s x (Filing.removeRetain_grows s (f.doc s).gen h))
    dsimp only
    split
    · exact h3 _
    · exact h3 _

theorem reqAddRecipient_grows (ops : List Word) : f.grows (reqAddRecipient ops f).filing := by
  have h := f.grows_refl
  unfold reqAddRecipient
  dsimp only
  split
  · refine Filing.withDoc_grows _ _ fun s => ?_
    split
    · exact h
    · simp only [Filing.answer]
      split
      · exact Filing.join_grows _ _ _ (Filing.setRecipient_grows _ _ _ h)
      · exact Filing.setRecipient_grows _ _ _ h
  · exact h

theorem reqCancelRecipient_grows (ops : List Word) : f.grows (reqCancelRecipient ops f).filing := by
  have h := f.grows_refl
  unfold reqCancelRecipient
  dsimp only
  split_ifs
  · exact h
  · refine Filing.withDoc_grows _ _ fun s => ?_
    split_ifs
    · exact h
    · exact h
    · exact Filing.checkRelease_grows _ (Filing.cancelRecipient_grows _ _ _ h)

theorem reqTakeForward_grows (ops : List Word) : f.grows (reqTakeForward ops f).filing := by
  have h := f.grows_refl
  unfold reqTakeForward
  dsimp only
  split_ifs
  · exact h
  · exact h
  · exact Filing.takeHead_grows _ _ h

theorem reqDropForward_grows (ops : List Word) : f.grows (reqDropForward ops f).filing := by
  have h := f.grows_refl
  unfold reqDropForward
  dsimp only
  split_ifs
  · exact h
  · split
    · exact Filing.join_grows _ _ _ (Filing.endAttempt_grows _ _ h)
    · exact h

theorem reqBindReview_grows (ops : List Word) : f.grows (reqBindReview ops f).filing := by
  have h := f.grows_refl
  unfold reqBindReview
  dsimp only
  split_ifs
  · exact h
  · refine Filing.withDoc_grows _ _ fun s => ?_
    split
    · exact h
    · split_ifs
      · exact h
      · dsimp only [Filing.answer]
        split
        · exact Filing.checkReleases_grows _ (Filing.setBinding_grows _ _ h)
        · exact Filing.setBinding_grows _ _ h

theorem reqUnbindReview_grows (ops : List Word) : f.grows (reqUnbindReview ops f).filing := by
  have h := f.grows_refl
  unfold reqUnbindReview
  dsimp only
  split_ifs
  · exact h
  · split
    · exact Filing.checkReleases_grows _ (Filing.setBinding_grows _ _ h)
    · exact h

theorem reqSetClock_grows (ops : List Word) : f.grows (reqSetClock ops f).filing := by
  have h := f.grows_refl
  unfold reqSetClock
  dsimp only [Filing.answer]
  split_ifs
  · exact Filing.mark_grows _ (Filing.mark_grows _ (Filing.grows_of_ring (Filing.shiftDues_grows _ h) rfl rfl))
  · exact Filing.mark_grows _ (Filing.grows_of_ring (Filing.shiftDues_grows _ h) rfl rfl)

/-- What an execution does to the ring. -/
theorem execute_grows (k : RequestKind) (ops : List Word) (f : Filing) : f.grows (execute k ops f).filing := by
  cases k
  · exact reqSetMailbox_grows ops
  · exact reqSetRoute_grows ops
  · exact reqClearRoute_grows ops
  · exact reqSetPolicy_grows ops
  · exact reqSetChannelTimes_grows ops
  · exact reqAbortIntake_grows ops
  · exact reqAccept_grows ops
  · exact reqHold_grows ops
  · exact reqLiftHold_grows ops
  · exact reqRelease_grows ops
  · exact reqPurge_grows ops
  · exact reqRefile_grows ops
  · exact reqRetain_grows ops
  · exact reqAddRecipient_grows ops
  · exact reqCancelRecipient_grows ops
  · exact reqTakeForward_grows ops
  · exact reqDropForward_grows ops
  · exact reqBindReview_grows ops
  · exact reqUnbindReview_grows ops
  · exact reqSetClock_grows ops

/-! ## The filling -/

/-- What a step of the filling does: it takes a position, and it is a step of R158. -/
theorem Filing.fillOne_fillsOne (f : Filing) (hr : f.running = true) (h : f.ringRoom)
    (hw : ¬ (f.ring.pending = [] ∧ f.posting.deferred = [])) :
    f.fillsOne f.fillOne ∧ f.taken < f.fillOne.taken ∧ f.fillOne.running = true := by
  unfold Filing.fillOne
  rcases hp : f.ring.pending with _ | ⟨n, ns⟩
  · rcases hd : f.posting.deferred with _ | ⟨d, ds⟩
    · exact absurd ⟨hp, hd⟩ hw
    · simp only [Filing.fillDeferred, hd]
      have hroom : ({ f with posting := { f.posting with deferred := ds } } : Filing).ringRoom := h
      cases d with
      | result k tag code args time =>
        simp only [Filing.produceResult_eq]
        refine ⟨⟨h, .inr ⟨hp, _, _, hd, rfl⟩⟩, ?_, hr⟩
        rw [Filing.withResult, Filing.withEntry_taken _ _ _ _ _ _ _ hroom]
        exact Nat.lt_succ_self _
      | busy k tag time =>
        simp only [Filing.produceResult_eq]
        refine ⟨⟨h, .inr ⟨hp, _, _, hd, rfl⟩⟩, ?_, hr⟩
        rw [Filing.withResult, Filing.withEntry_taken _ _ _ _ _ _ _ hroom]
        exact Nat.lt_succ_self _
      | request k tag kind ops =>
        obtain ⟨hph, -, ht, hwt⟩ := execute_grows kind ops { f with posting := { f.posting with deferred := ds } }
        have hrun : (execute kind ops { f with posting := { f.posting with deferred := ds } }).filing.running = true := by
          simpa [Filing.running, hph] using hr
        replace hwt := hwt hr (.inl hp)
        generalize he : execute kind ops { f with posting := { f.posting with deferred := ds } } = e at *
        have ht' : f.taken ≤ e.filing.taken := ht
        simp only [Filing.runRequest, he]
        by_cases hc : e.filing.ring.pending = [] ∧ e.filing.ringRoom
        · have hc' : (e.filing.ring.pending.isEmpty && !e.filing.ring.isFull) = true := by
            simp [hc.1, (Ring.not_isFull_iff _).mpr hc.2]
          simp only [hc', if_true, Filing.produceResult_eq]
          refine ⟨⟨h, .inr ⟨hp, _, _, hd, ?_⟩⟩, ?_, hrun⟩
          · simp only [he]
            exact ⟨fun _ => trivial, fun hn => absurd hc hn⟩
          · rw [Filing.withResult, Filing.withEntry_taken _ _ _ _ _ _ _ hc.2]
            omega
        · have hc' : (e.filing.ring.pending.isEmpty && !e.filing.ring.isFull) = false := by
            rw [Bool.and_eq_false_iff]
            by_cases hq : e.filing.ring.pending = []
            · right
              rw [Bool.not_eq_false']
              by_contra hn
              exact hc ⟨hq, (Ring.not_isFull_iff _).mp (by simpa using hn)⟩
            · exact .inl (by simpa using hq)
          simp only [hc', if_false, Bool.false_eq_true]
          refine ⟨⟨h, .inr ⟨hp, _, _, hd, ?_⟩⟩, ?_, hrun⟩
          · simp only [he]
            exact ⟨fun hn => absurd hn hc, fun _ => trivial⟩
          · have hfull : ¬ e.filing.ringRoom := by
              rcases hwt with hq | hq
              · exact fun hn => hc ⟨hq, hn⟩
              · exact hq
            have h1 := f.ringRoom_iff.mp h
            have h2 := (Filing.ringRoom_iff e.filing).not.mp hfull
            show f.taken < e.filing.taken
            omega
  · simp only [Filing.produceNotice_eq]
    refine ⟨⟨h, .inl ⟨n, ns, hp, rfl⟩⟩, ?_, hr⟩
    rw [Filing.withNotice, Filing.withEntry_taken _ _ _ _ _ _ _ (by exact h)]
    exact Nat.lt_succ_self _

/-- Enough steps fill the ring or leave nothing waiting. -/
theorem Filing.fillSteps_fills (m : Nat) (f : Filing) (hr : f.running = true) (hm : 255 ≤ f.taken + m) :
    ∃ n, Filing.fills n f (Filing.fillSteps m f) := by
  induction m generalizing f with
  | zero =>
    refine ⟨0, rfl, .inl fun hroom => ?_⟩
    have := f.ringRoom_iff.mp hroom
    omega
  | succ m ih =>
    unfold Filing.fillSteps
    by_cases hs : ¬ f.ringRoom ∨ (f.ring.pending = [] ∧ f.posting.deferred = [])
    · rw [if_pos]
      · exact ⟨0, rfl, hs⟩
      · rcases hs with hs | hs
        · have : f.ring.isFull = true := by
            by_contra hn
            exact hs ((Ring.not_isFull_iff f).mp (by simpa using hn))
          simp [this]
        · simp [hs.1, hs.2]
    · push Not at hs
      obtain ⟨h1, h2, h3⟩ := f.fillOne_fillsOne hr hs.1 (fun hn => hs.2 hn.1 hn.2)
      rw [if_neg]
      · obtain ⟨n, hn⟩ := ih _ h3 (by omega)
        exact ⟨n + 1, _, h1, hn⟩
      · simp only [(Ring.not_isFull_iff f).mpr hs.1, Bool.false_or, Bool.and_eq_true, List.isEmpty_iff]
        exact fun hn => hs.2 hn.1 hn.2

/-- The filling of a consumer word runs until the ring is full or nothing waits (R158). -/
theorem Filing.fill_fills (f : Filing) (hr : f.running = true) : ∃ n, Filing.fills n f f.fill :=
  Filing.fillSteps_fills 256 f hr (by omega)

end Sys2Proof.Machine
end

