-- ==== Sys2Proof/Tests/Slice0.lean ====
section
/-! SUPPORT. Tests: what the well-formedness check refuses, the manual's own worked examples, and for every statement with
hypotheses a state and operands that meet them (`witness_…`), clause by clause, at the ends of the ranges. -/

namespace Sys2Proof.Tests

open Sys2Proof.Machine

set_option Elab.async false

/-! ## Ill-formed commands -/

theorem test_wellFormed_bank : (Instr.powerOn 1 0 0 0 0 0).wellFormed = false := by decide
theorem test_wellFormed_writeAccept : (Instr.writeAccept 0 2 .full 0).wellFormed = false := by decide
theorem test_wellFormed_writeQueueFull : (Instr.writeQueueFull 0 1 .half 0).wellFormed = false := by decide
theorem test_wellFormed_boardRead : (Instr.boardRead 0 3 .full).wellFormed = false := by decide
theorem test_wellFormed_unbackedRead : (Instr.unbackedRead 0 3 .half).wellFormed = false := by decide
theorem test_wellFormed_refusedRead : (Instr.refusedRead 0 5 .full).wellFormed = false := by decide
theorem test_wellFormed_mirrorRead : (Instr.mirrorRead 0 6 .full).wellFormed = false := by decide
theorem test_wellFormed_faultWordRead : (Instr.faultWordRead 0 0x41 .half).wellFormed = false := by decide
theorem test_wellFormed_forwardDataRead : (Instr.forwardDataRead 1 7 .full).wellFormed = false := by decide
theorem test_wellFormed_forwardSlotRead : (Instr.forwardSlotRead 1 9 .half).wellFormed = false := by decide
theorem test_wellFormed_reviewDataRead : (Instr.reviewDataRead 0 10 .full).wellFormed = false := by decide
theorem test_wellFormed_stallExpiry : (Instr.stallExpiry 0).wellFormed = false := by decide
theorem test_wellFormed_gapExpiry : (Instr.gapExpiry 25).wellFormed = false := by decide
theorem test_wellFormed_confirmTimeout : (Instr.confirmTimeout 25).wellFormed = false := by decide
theorem test_wellFormed_byte : (Instr.boardRead 0 3 .byte).wellFormed = true := by decide

/-! ## Small states -/

/-- A running part of 8 MiB, ZONE = 3, GTOP = 13, CHANS = 20, nothing filed. -/
def base : State :=
  { State.reset with
    board := { State.reset.board with straps := readStraps 3 13 20 0 }
    store := { State.reset.store with bankMiB := 8 }
    filing := { State.reset.filing with boot := { State.reset.filing.boot with phase := .running, sizeMiB := 8 } } }

/-- A 32-bit write. -/
def wr (m : BitVec 5) (addr data : Word) : BoardWrite := { master := m, addr := addr, width := .full, data := data }

/-- A write as the queue holds it. -/
def entry (w : BoardWrite) : Staged := { write := w, cls := base.classify w.addr }

/-- The write staged at the head of the queue. -/
def stage (w : BoardWrite) (s : State) : State := { s with board := { s.board with queue := [entry w] } }

/-- The queue of n equal writes. -/
def stageN (n : Nat) (w : BoardWrite) (s : State) : State :=
  { s with board := { s.board with queue := List.replicate n (entry w) } }

/-- The filing blocks changed. -/
def filed (g : Filing → Filing) (s : State) : State := { s with filing := g s.filing }

/-- The part at a phase of start-up. -/
def atPhase (p : Phase) : State := filed (fun f => { f with boot := { f.boot with phase := p } }) base

/-- The drained head waiting. -/
def headed (w : HeadWork) (s : State) : State := { s with board := { s.board with head := some w } }

/-- A read in the port that waits for the store bus. -/
def reading (m : BitVec 5) (cls : AddrClass) (noted : Option (BitVec 10 × Bool)) (s : State) : State :=
  { s with board := { s.board with
      port := .readHeld { master := m, addr := 0, width := .full, cls := cls, phase := .store, noted := noted } } }

/-- The read that `reading` holds. -/
def heldOf (m : BitVec 5) (cls : AddrClass) (noted : Option (BitVec 10 × Bool)) : HeldRead :=
  { master := m, addr := 0, width := .full, cls := cls, phase := .store, noted := noted }

/-- A document of two closed pages in slot 0 (page records 0 and 1), the first with block 200 at index 0. -/
def library (st : DocState) (f : Filing) : Filing :=
  ((((f.setDoc 0 { Doc.freed 0 with state := st, closure := .lastPage, channel := some 1, pageCount := 2,
                                    firstPage := some 0, blockTotal := 1 }).setPage 0
      { Page.freed with state := .closed, owner := 0, seq := 1, length := 100, first := some 200, count := 1,
                        next := some 1 }).setPage 1
      { Page.freed with state := .closed, owner := 0, seq := 2, length := 9000, holes := 2 }).setBlock 200
    { state := .filed, index := 0, next := none })

/-- Channel c set. -/
def channel (c : Nat) (ch : Channel) (s : State) : State := filed (fun f => f.setChan c ch) s

/-- A channel in a call. -/
def inGap : Channel := { Channel.fresh with state := .gap, doc := some 0, timer := some 6000 }

/-- A channel with page record 0 open, index 0 mapped to block 200. -/
def inPage : Channel :=
  { Channel.fresh with state := .page, doc := some 0, openPage := some 0, timer := some 1000, map := [(0, 200)],
                       mark := some 3 }

/-- A channel that sends page record p, its sequence number n. -/
def inSend (p n : Nat) : Channel :=
  { Channel.fresh with state := .send, bound := some (0, 0), sending := some p, timer := some 3000,
                       info := { doc := some 0, recipient := 0, seq := n, length := 100, pages := 2 } }

/-- A recipient. -/
def recipient (st : RecipientState) (resend attempts : Nat) : Recipient :=
  { Recipient.vacant with state := st, target := [5], nextPage := 1, resend := resend, attempts := attempts,
                          channel := if st = .active then some 1 else none }

/-- A FILED document whose recipient 0 is as given. -/
def addressed (r : Recipient) (f : Filing) : Filing :=
  let g := library .filed f
  g.setDoc 0 ((g.doc 0).setRecipient 0 r)

/-- Channel 1 sending page record p to an ACTIVE recipient. -/
def sending (p n resend attempts : Nat) : State :=
  channel 1 (inSend p n) (filed (addressed (recipient .active resend attempts)) base)

/-- A slot ready for a post word of w words. -/
def slotFilled (n w : Nat) (s : State) : State :=
  filed (fun f => f.setSlot n { Slot.fresh with state := .filling, written := BitVec.ofNat 15 (2 ^ w - 1) }) s

/-- The outcome is a next state with the given property. -/
def nextIs (p : State → Bool) : Host.Outcome State Fault Refusal → Bool
  | .next t => p t
  | _ => false

/-! ## The manual's worked examples -/

/-- Table 5. -/
theorem test_classify_table5 :
    let st := readStraps 3 13 20 0
    st.classify 0x0A001F40 = .plain 0x0A001F40 ∧ st.classify 0x0C0003F0 = .control 0x3F0 ∧
    st.classify 0x0C400000 = .zoneUnbacked ∧ st.classify 0x0CC2A3C4 = .landing 5 172996 ∧
    st.classify 0x0C9FFFFC = .landing 2 1048572 ∧ st.classify 0x0DD00040 = .zoneUnbacked ∧
    st.classify 0x0E4FFF80 = .forward 5 1048448 ∧ st.classify 0x0FB01000 = .review 3 4096 ∧
    st.classify 0x0FBFFFC0 = .review 3 1048512 ∧ st.classify 0x10ABCDE0 = .relocated 0x0CABCDE0 ∧
    st.classify 0x11000000 = .unbacked := by decide

/-- Table 4, the second and the third placement. -/
theorem test_classify_table4 :
    (readStraps 2 32 24 0).classify 0x23FFFFFF = .relocated 0x0BFFFFFF ∧
    (readStraps 2 32 24 0).classify 0x24000000 = .unbacked ∧ (readStraps 3 4 24 0).classify 0x04000000 = .unbacked := by
  decide

/-- The policy record after a fresh format (12_control_window_layouts.md, worked records). -/
theorem test_policy_words : wordAt Policy.fresh.words 15 = 0xFFFFFE87 := by decide

/-- The same record and routing entry 0 of the worked lookups, as the statements spell their words. -/
theorem test_layouts_worked :
    wordAt Policy.fresh.layout 15 = 0xFFFFFE87 ∧
    routeLayout (some { kind := .exact, pattern := [4, 4, 1, 7], mailbox := 9 }) =
      [0x00090401, 0x00007144, 0, 0xFFF68ABA] := by decide

/-- Routing entry 3, PREFIX 4417 for mailbox 6 (R196's nibbles: first digit lowest). -/
theorem test_route_words :
    patternWord [4, 4, 1, 7] = 0x7144 ∧ checkGood (routeWords (some { kind := .leading, pattern := [4, 4, 1, 7], mailbox := 6 }))
      = true := by decide

/-- Table 27. -/
theorem test_due_table27 :
    due 4294000000 20952704 = false ∧ due 0 20952704 = false ∧ due 20952703 20952704 = false ∧
    due 20952704 20952704 = true ∧ remaining 4294000000 20952704 = 21920000 := by decide

/-- Table 21. -/
theorem test_backoff_table21 :
    backoff 120 1 = 12000 ∧ backoff 120 4 = 96000 ∧ backoff 3600 3 = 1440000 ∧ backoff 3600 4 = 1440000 := by decide

/-- The six entries of Table 16, mailbox 12 CLOSED. -/
def table16 : Filing :=
  let r (k : MatchKind) (p : List Digit) (m : Nat) : Option Route := some { kind := k, pattern := p, mailbox := m }
  ((((((base.filing.setRoute 0 (r .exact [4, 4, 1, 7] 9)).setRoute 1 (r .leading [4, 4] 3)).setRoute 2
    (r .leading [4, 4, 1] 5)).setRoute 3 (r .leading [4, 4, 1, 7] 6)).setRoute 4 (r .exact [5, 0, 0, 0] 12)).setRoute 5
    (r .leading [5] 11)).setBox 12 { Mailbox.fresh with shut := true }

/-- Table 16. -/
theorem test_lookup_table16 :
    table16.lookup [4, 4, 1, 7] = (9, false) ∧ table16.lookup [4, 4, 1, 7, 0] = (6, false) ∧
    table16.lookup [4, 4, 1, 9] = (5, false) ∧ table16.lookup [4, 4, 9, 9] = (3, false) ∧
    table16.lookup [5, 0, 0, 0] = (0, true) ∧ table16.lookup [5, 0, 0, 1] = (11, false) ∧
    table16.lookup [4] = (0, false) ∧ table16.lookup [] = (0, false) := by decide

/-- SET_ROUTE(7, PREFIX, 441, 8) is refused DUPLICATE with argument 2 (after Table 16). -/
theorem test_setRoute_duplicate :
    (execute .setRoute [7, 0x00080301, 0x144, 0] table16).code = .duplicate ∧
    (execute .setRoute [7, 0x00080301, 0x144, 0] table16).args = [2] ∧
    (execute .setRoute [7, 0x00080300, 0x144, 0] table16).code = .ok := by decide

/-- Table 17. -/
theorem test_walls_table17 :
    let f := (((base.filing.setBox 3 { Mailbox.fresh with group := 1, excludes := 4 }).setBox 5
      { Mailbox.fresh with group := 2 }).setBox 9 { Mailbox.fresh with group := 1 })
    f.wallPasses 9 3 = true ∧ f.wallPasses 5 3 = false ∧ f.wallPasses 3 5 = false ∧ f.wallPasses 0 3 = true := by decide

/-- The three entries of the worked rebase (08_filing_clock_and_deadlines.md), placed in another order. -/
theorem test_place_rebase :
    let e (k : DeadlineKind) (d : Nat) (t : Time) : Deadline := { kind := k, slot := d / 64, gen := d % 64, due := t }
    placeDeadline 4294000000 (e .retain 1283 4294500000)
      (placeDeadline 4294000000 (e (.retry 1) 2561 4294048000)
        (placeDeadline 4294000000 (e .retain 899 20952704) [])) =
      [e (.retry 1) 2561 4294048000, e .retain 1283 4294500000, e .retain 899 20952704] := by decide

/-- SET_CLOCK(1,000,000,000) at T = 4,294,000,000 shifts by 1,000,967,296 (worked rebase). -/
theorem test_setClock_shift :
    let f : Filing := { base.filing with clock := { base.filing.clock with
      now := 4294000000, deadlines := [{ kind := .retain, slot := 14, gen := 3, due := 4294500000 }] } }
    ((execute .setClock [1000000000] f).filing.clock.deadlines.map Deadline.due) = [1000500000] ∧
    (execute .setClock [1000000000] f).filing.now = 1000000000 := by decide

/-- Table 15: admission at the reserve floor. -/
theorem test_admission_table15 :
    let f (free : Nat) : Filing :=
      (({ base.filing with blocks := { base.filing.blocks with free := List.replicate free 7 } } : Filing).setBox 4
        { Mailbox.fresh with quota := 100, usage := 100 }).setBox 6 { Mailbox.fresh with quota := 50, usage := 10 }
    (f 257).admits 4 = true ∧ (f 256).admits 4 = false ∧ (f 256).admits 6 = true ∧ (f 0).admits 6 = false := by decide +kernel

/-! ## One step of a command -/

/-- Worked landing translation (03_intake_channels.md): the write waits for the entry of block 4,711, then lands at page
bank byte 38,593,476; the mark stays 180,303. -/
theorem test_dataWrite_allocates :
    let s := stage (wr 5 0x0CC2A3C4 0)
      (channel 5 { inPage with map := [(22, 4790)], mark := some 180303 }
        (filed (fun f => { library .receiving f with blocks := { f.blocks with free := [4711, 4712] } }) base))
    nextIs (fun t => t.board.head == some { dest := .page 38593476, ahead := some 4711 } &&
      (t.filing.chan 5).mark == some 180303 && t.filing.blocks.free == [4712]) (exec .dataWrite
        (filed (fun f => f.setBox 0 { Mailbox.fresh with quota := 9 }) s)) = true := by decide +kernel

/-- A write narrower than a word captures its own bytes alone (R38). -/
theorem test_headerWord_byte :
    let s := stage { master := 1, addr := 0x0C8FFF81, width := .byte, data := 0x22 }
      (channel 1 { Channel.fresh with header := [(0, 0x11223344)] } base)
    nextIs (fun t => (t.filing.chan 1).headerWord 0 == 0x11222244) (exec .headerWord s) = true := by decide +kernel

/-- A refused admission sets SHORT and discards the write (R45). -/
theorem test_dataWrite_short :
    nextIs (fun t => (t.filing.page 0).short && t.board.queue.isEmpty && t.filing.monitors.latches == 0x008)
      (exec .dataWrite (stage (wr 1 0x0C802000 0) (channel 1 inPage (filed (library .receiving) base)))) = true := by decide +kernel

/-- A trailer length of 0 is estimated from the mark (R46, R47). -/
theorem test_trailer_estimated :
    nextIs (fun t => (t.filing.page 0).length == 4 && (t.filing.page 0).estimated && (t.filing.chan 1).state == .gap)
      (exec .trailerWord (stage (wr 1 0x0C8FFFFC 0) (channel 1 inPage (filed (library .receiving) base)))) = true := by
  decide +kernel

/-- An END with no page releases the document (R91): its slot is FREE with the next generation. -/
theorem test_endCall_empty :
    let f (f : Filing) : Filing := f.setDoc 0 { Doc.freed 63 with state := .receiving, closure := .opened }
    nextIs (fun t => t.filing.doc 0 == Doc.freed 0 && (t.filing.chan 1).state == .idle)
      (exec .endCall (stage (wr 1 0x0C8FFFBC 2) (channel 1 inGap (filed f base)))) = true := by decide +kernel

/-- A call word is captured as header word 15, byte by byte (R35, R38). -/
theorem test_otherCallKind_captured :
    let s := stage { master := 1, addr := 0x0C8FFFBE, width := .byte, data := 0x22 }
      (channel 1 { Channel.fresh with header := [(15, 0x11334455)] } base)
    nextIs (fun t => (t.filing.chan 1).headerWord 15 == 0x11224455) (exec .otherCallKind s) = true := by decide +kernel

/-- A stall expiry with lockout on locks the channel (Table 35). -/
theorem test_stallExpiry_locks :
    let f (f : Filing) : Filing :=
      { library .receiving f with monitors := { f.monitors with policy := { f.monitors.policy with lockout := true } } }
    nextIs (fun t => (t.filing.chan 3).state == .locked && t.filing.monitors.latches == 0x001 &&
        (t.filing.ring.waiting.map Entry.kind) == [3, 12, 4])
      (exec (.stallExpiry 3) (channel 3 { inPage with timer := some 0 } (filed f base))) = true := by decide

/-- The fifth failed attempt fails the recipient (R121). -/
theorem test_abandon_fails :
    nextIs (fun t => ((t.filing.doc 0).recipient 0).state == .failed && ((t.filing.doc 0).recipient 0).attempts == 5 &&
        (t.filing.chan 1).state == .idle)
      (exec .confirmAbandon (stage (wr 1 0x0E0FFFFC 0x03000001) (sending 0 1 0 4))) = true := by decide +kernel

/-- The 17th grant goes to the waiting notice (Table 9). -/
theorem test_starvation_table9 :
    let s := headed { dest := .general 0, ahead := none } (stageN 16 (wr 1 0 0) base)
    let t := filed (fun f => f.produce 12 0 none 0 [] false) { s with board := { s.board with starve := 16 } }
    t.nextKind = some .result ∧ ({ t with board := { t.board with starve := 15 } } : State).nextKind = some .head := by decide

/-- CLKSEL 0: the 250,000th bus clock cycle delivers a tick (R138). -/
theorem test_busCycle_ticks :
    let s (p : Nat) := filed (fun f => { f with clock := { f.clock with prescaler := p } }) base
    (s 249999).busCycle.filing.now = 1 ∧ (s 249999).busCycle.filing.clock.prescaler = 0 ∧
    (s 249998).busCycle.filing.now = 0 ∧ (s 249998).busCycle.filing.clock.prescaler = 249999 := by decide +kernel

/-- A master-0 header read waits for the header write that clears the clean flag, and then for the store bus (R13, R187). -/
theorem test_headerRead_waits :
    let s := filed (fun f => { f with mirror := { f.mirror with rewrite := true } }) base
    let phase (t : State) : Option ReadPhase := match t.board.port with
      | .readHeld h => some h.phase
      | _ => none
    nextIs (fun t => phase t == some (.flush .layoutHeader) &&
      nextIs (fun u => phase u == some .store && u.filing.mirror.rewrite == false && u.filing.mirror.flushList == [])
        (exec .recordFlush t)) (exec (.mirrorRead 0 0x0C000000 .full) s) = true := by decide +kernel

/-- An alias below 8 MiB halts E3h, a missing byte E2h (R180). -/
theorem test_probe_halts :
    let s (bank wrap b : Nat) : State :=
      let t := atPhase .sizing
      { filed (fun f => { f with boot := { f.boot with boundary := b } }) t with
        store := { t.store with bankMiB := bank, wrapMiB := wrap } }
    nextIs (fun t => t.progressLines == 0xE3) (exec (.sizingProbe false) (s 4 4 4)) = true ∧
    nextIs (fun t => t.progressLines == 0xE2) (exec (.sizingProbe false) (s 4 0 4)) = true := by decide

/-- The status record shows the fault word, the free count and the ring indices (Table 38). -/
theorem test_status_words :
    base.filing.statusWords = [0x00010000, 0x00010000, 0, 0, 0, 0, 0, 0, 0x0000010F, 0, 0, 0, 0, 0, 0, 0] := by decide

/-- BIND_REVIEW across a wall is refused WALL and leaves the aperture as it was (R131). -/
theorem test_bindReview_wall :
    (execute .bindReview [2, 0, 1, 5] ((library .filed base.filing).setBox 5 { Mailbox.fresh with excludes := 1 })).code
      = .wall := by decide

/-- PURGE of a held document is refused HELD (R100). -/
theorem test_purge_held :
    (execute .purge [0] ((library .filed base.filing).setDoc 0 { Doc.freed 0 with state := .filed, hold := true })).code
      = .held := by decide

/-! ## Witnesses: for each statement with hypotheses, states and operands that meet them, clause by clause -/

/-- A 16-bit write. -/
def narrow (m : BitVec 5) (addr : Word) : BoardWrite := { master := m, addr := addr, width := .half, data := 0 }

/-- The write at the head of base's queue, drained to a destination. -/
def landed (w : BoardWrite) (d : Dest) (ahead : Option Nat) : State := headed { dest := d, ahead := ahead } (stage w base)

/-- A filing record on the flush list. -/
def soiled (r : RecordId) (s : State) : State := filed (fun f => f.mark r) s

/-- A guard open on a record. -/
def guarded (r : RecordId) (s : State) : State :=
  filed (fun f => { f with mirror := { f.mirror with guarded := some (r, 2) } }) s

/-- A document in slot 1023 with generation 63. -/
def lastSlot (d : Doc) (f : Filing) : Filing := f.setDoc 1023 { d with gen := 63 }

/-- The identifier of slot 1023 at generation 63. -/
def lastId : Word := 65535

/-- A FILED document without a page. -/
def plainDoc : Doc := { Doc.freed 0 with state := .filed, closure := .lastPage }

/-- A policy of all masks and lockout. -/
def strictPolicy (masks : BitVec 10) (lockout : Bool) (s : State) : State :=
  filed (fun f => { f with monitors := { f.monitors with policy := { f.monitors.policy with masks := masks, lockout := lockout } } }) s

/-- A ring that has produced and written n entries, none consumed. -/
def ringAt (n : BitVec 8) (s : State) : State :=
  filed (fun f => { f with ring := { f.ring with production := n, producer := n } }) s

/-- A review aperture bound to page record 0 of document 0. -/
def showing (r : Nat) (f : Filing) : Filing :=
  (library .filed f).setBinding r (some { doc := 0, seq := 1, page := 0, viewer := 0 })

theorem witness_StepKeepsSound :
    ({ base with pending := [.tick] } : State).sound = true ∧
    nextIs (fun _ => true) (step { base with pending := [.tick] }) = true := by decide +kernel

/-- The zone, its last byte before and after, the bounds of the straps. -/
theorem witness_GeneralClasses :
    let st := readStraps 3 13 20 0
    let top := readStraps 15 63 24 2
    (1 ≤ st.zone ∧ st.zone ≤ 15 ∧ st.gtop ≤ 63) ∧ (1 ≤ top.zone ∧ top.zone ≤ 15 ∧ top.gtop ≤ 63) ∧
    (0x0BFFFFFF < st.zoneBase ∧ 0x0BFFFFFF < st.generalTop) ∧
    (st.zoneBase + 64 * 1048576 ≤ 0x10000000 ∧ st.generalTop ≤ 0x10000000 ∧ 0 < st.displaced ∧
      st.window ≤ 0x10000000 ∧ 0x10FFFFFF < st.window + st.displaced) ∧
    (st.generalTop ≤ 0x11000000 ∧ ¬ (0x11000000 < st.window + st.displaced)) ∧
    st.classify 0x0BFFFFFF = .plain 0x0BFFFFFF ∧ 0x0CFFFFFF < st.generalTop := by decide +kernel

theorem witness_MastersAbove24AllowedNothing :
    let st := readStraps 3 13 31 0
    st.channels ≤ 24 ∧ 25 ≤ 31 ∧ (st.classify 0x0C000000).isZone = true ∧ (st.classify 0x0C800000).isZone = true ∧
    (st.classify 0x0FFFFFFF).isZone = true := by decide +kernel

/-- An empty queue and one of 15; a full one; the held write with 15 staged. -/
theorem witness_BoardWritesAtThePort :
    (aligned 0xFFFFFFFC .full = true ∧ base.canTake = true ∧ base.board.queue.length < 16) ∧
    (aligned 0xFFFFFFFF .byte = true ∧ (stageN 15 (wr 1 0 0) base).canTake = true ∧
      (stageN 15 (wr 1 0 0) base).board.queue.length < 16) ∧
    ((stageN 16 (wr 1 0 0) base).canTake = true ∧ 16 ≤ (stageN 16 (wr 1 0 0) base).board.queue.length) ∧
    (let s := stageN 15 (wr 1 0 0) base
     ({ s with board := { s.board with port := .writeHeld (wr 2 4 5) } } : State).board.port = .writeHeld (wr 2 4 5) ∧
     s.board.queue.length < 16) := by decide +kernel

/-- A control read in hand at each halt of sizing. -/
theorem witness_ReadsServedAllOnes_halted :
    ∀ p ∈ [Phase.haltShort, .haltWrapped],
      let s := reading 0 (.control 0) none (atPhase p)
      s.filing.boot.phase.halted = true ∧ s.filing.settled = true ∧ s.nextKind = some .read ∧
      s.board.port = .readHeld (heldOf 0 (.control 0) none) := by decide +kernel

/-- Beyond the window; the zone's gap; a landing read, the forward aperture of another master, a control read of 25. -/
theorem witness_ReadsServedAllOnes :
    (base.reads 0x11000000 .full = true ∧ base.classify 0x11000000 = .unbacked) ∧
    (base.reads 0x0C100000 .byte = true ∧ base.classify 0x0C100000 = .zoneUnbacked) ∧
    (base.reads 0x0C800000 .full = true ∧ (base.classify 0x0C800000).isZone = true ∧
      (base.classify 0x0C800000).readAllowed 1 = false) ∧
    (base.reads 0x0E000000 .half = true ∧ (base.classify 0x0E000000).isZone = true ∧
      (base.classify 0x0E000000).readAllowed 2 = false) ∧
    (base.reads 0x0C000000 .full = true ∧ (base.classify 0x0C000000).readAllowed 25 = false) := by decide +kernel

/-- Plain and relocated, with and without a staged write of the line; the grant. -/
theorem witness_GeneralReads :
    (base.reads 0 .full = true ∧ (base.classify 0).general = some 0) ∧
    ((stage (wr 1 0x0C 0) base).reads 0x1F .byte = true ∧
      (∃ x ∈ (stage (wr 1 0x0C 0) base).board.queue, x.cls.general = some 0x0C)) ∧
    (base.reads 0x10FFFFFC .full = true ∧ (base.classify 0x10FFFFFC).general = some 0x0CFFFFFC) ∧
    ((reading 31 (.plain 0) none base).grants .read = true ∧
      (reading 31 (.plain 0) none base).board.port = .readHeld (heldOf 31 (.plain 0) none) ∧
      (AddrClass.plain 0).general = some 0) := by decide +kernel

/-- The last word of page close time 8191, dirty; the same guarded; clean document record 0; the forward slots of channel
20, dirty and clean. -/
theorem witness_MirrorReadsWaitForTheFlush :
    (let s := soiled (.page 8191) base
     s.reads 0x0C06FFFC .full = true ∧ (∀ x ∈ s.board.queue, x.write.master ≠ 0) ∧ s.board.ahead = none ∧
     s.classify 0x0C06FFFC = .control 0x6FFFC ∧ inFaultWord 0x6FFFC = false ∧
     (recordAt s.filing.blockCount 0x6FFFC).map RecordPlace.record = some (.page 8191) ∧
     s.filing.dirty (.page 8191) = true ∧ s.filing.isGuarded (.page 8191) = false) ∧
    ((guarded (.page 8191) (soiled (.page 8191) base)).reads 0x0C06FFFC .full = true ∧
      (guarded (.page 8191) (soiled (.page 8191) base)).filing.isGuarded (.page 8191) = true) ∧
    ((recordAt base.filing.blockCount 0x8000).map RecordPlace.record = some (.document 0) ∧
      base.filing.dirty (.document 0) = false) ∧
    (let s := soiled (.channel 20) base
     s.reads 0x0F3FFF80 .full = true ∧ s.classify 0x0F3FFF80 = .forward 20 1048448 ∧ s.board.ahead = none ∧
     s.filing.dirty (.channel 20) = true ∧ s.filing.isGuarded (.channel 20) = false ∧
     base.filing.dirty (.channel 20) = false) := by decide +kernel

/-- Document record 0, dirty and clean, while the write-ahead write of block 1023 waits. -/
theorem witness_MirrorReadsWaitForTheFlush_ahead :
    let s (t : State) := headed { dest := .page 8380416, ahead := some 1023 } (stage (wr 1 0x0C800000 0) t)
    (s base).reads 0x0C008000 .full = true ∧ (s base).classify 0x0C008000 = .control 0x8000 ∧
    (∀ x ∈ (s base).board.queue, x.write.master ≠ 0) ∧ (s base).board.ahead = some 1023 ∧
    RecordId.document 0 ≠ .block 1023 ∧ (s base).filing.dirty (.document 0) = false ∧
    (s (soiled (.document 0) base)).filing.dirty (.document 0) = true := by decide +kernel

/-- The grants: word 0 of document record 0, the last words of page record 8191, guarded and not, a read of another master,
the last word of the window. -/
theorem witness_MirrorReadsWaitForTheFlush_grants :
    let granted (s : State) (m : BitVec 5) (z : Nat) : Prop :=
      (reading m (.control z) none s).grants .read = true ∧
      (reading m (.control z) none s).board.port = .readHeld (heldOf m (.control z) none) ∧
      z + (heldOf m (.control z) none).width.bytes ≤ s.store.bankMiB * 1048576
    let place (z : Nat) := recordAt base.filing.blockCount z
    (granted base 0 0x8000 ∧ (place 0x8000).map RecordPlace.record = some (.document 0) ∧
      (place 0x8000).map RecordPlace.first = some true) ∧
    (granted (guarded (.page 8191) base) 0 0x6FFFC ∧ (place 0x6FFFC).map RecordPlace.last = some true ∧
      (place 0x6FFFC).map RecordPlace.first = some false ∧ (guarded (.page 8191) base).filing.isGuarded (.page 8191) = true) ∧
    (granted base 0 0x6FFFC ∧ base.filing.isGuarded (.page 8191) = false) ∧
    granted base 1 0x8000 ∧ (granted base 0 0xFFFFC ∧ place 0xFFFFC = none) := by decide +kernel

/-- Masters 1 and 24, at the window's two ends; master 0 where no record is mirrored; the entry of a block whose write-ahead
write waits. -/
theorem witness_MirrorReadsWaitForTheFlush_unwaited :
    (base.reads 0x0C000000 .full = true ∧ base.classify 0x0C000000 = .control 0) ∧
    (base.reads 0x0C0FFFFC .full = true ∧ base.classify 0x0C0FFFFC = .control 0xFFFFC ∧
      inFaultWord 0xFFFFC = false ∧ recordAt base.filing.blockCount 0xFFFFC = none) ∧
    (let s := landed (wr 1 0x0C800000 0) (.page 8380416) (some 1023)
     s.reads 0x0C0C0FFC .full = true ∧ s.classify 0x0C0C0FFC = .control 0xC0FFC ∧
     (∀ x ∈ s.board.queue, x.write.master ≠ 0) ∧ s.board.ahead = some 1023 ∧ inFaultWord 0xC0FFC = false ∧
     (recordAt s.filing.blockCount 0xC0FFC).map RecordPlace.record = some (.block 1023) ∧
     s.filing.dirty (.block 1023) = false ∧ s.filing.isGuarded (.block 1023) = false) := by decide +kernel

/-- The word, clean; its last byte, dirty; a staged write of master 0; the service with a LOCKED and an IDLE channel. -/
theorem witness_FaultWordRead :
    (base.reads 0x0C000040 .full = true ∧ base.classify 0x0C000040 = .control 0x40 ∧ base.board.queue = [] ∧
      base.filing.dirty .status = false) ∧
    (let s := soiled .status base
     s.reads 0x0C000043 .byte = true ∧ s.classify 0x0C000043 = .control 0x43 ∧ s.board.queue = [] ∧
     s.filing.dirty .status = true ∧ s.filing.isGuarded .status = false) ∧
    (let s := stage (wr 0 0x0C001000 7) base
     s.reads 0x0C000040 .full = true ∧ ∃ x ∈ s.board.queue, x.write.master = 0) ∧
    (let s := channel 24 { Channel.fresh with state := .locked } (reading 0 (.control 0x40) (some (0x3FF, true)) base)
     s.grants .read = true ∧ s.board.port = .readHeld (heldOf 0 (.control 0x40) (some (0x3FF, true))) ∧
     1 ≤ s.store.bankMiB ∧ (s.filing.chan 24).state = .locked ∧ (s.filing.chan 1).state ≠ .locked) := by decide +kernel

/-- Outside SEND; the offset at the length and a hole; the last byte of the length, in a block. -/
theorem witness_ForwardReadIsDecided :
    (base.reads 0x0E0FFF7C .full = true ∧ base.classify 0x0E0FFF7C = .forward 1 1048444 ∧
      (base.filing.chan 1).state ≠ .send) ∧
    (let s := sending 0 1 0 0
     s.reads 0x0E000064 .full = true ∧ s.classify 0x0E000064 = .forward 1 100 ∧ (s.filing.chan 1).state = .send ∧
     (s.filing.chan 1).sending = some 0 ∧ (s.filing.page 0).length ≤ 100) ∧
    (let s := sending 1 2 0 0
     s.reads 0x0E002000 .full = true ∧ s.classify 0x0E002000 = .forward 1 8192 ∧ s.filing.blockAt 1 1 = none ∧
     8192 < (s.filing.page 1).length) ∧
    (let s := sending 0 1 0 0
     s.reads 0x0E000063 .byte = true ∧ s.classify 0x0E000063 = .forward 1 99 ∧ 99 < (s.filing.page 0).length ∧
     s.filing.blockAt 0 0 = some 200) := by decide +kernel

/-- The grants: across the length's last byte, at the length and beyond it in the block, a hole, outside SEND, the slot's
first and last words. -/
theorem witness_ForwardReadIsDecided_grants :
    let granted (s : State) (c o : Nat) : Prop :=
      (reading 0 (.forward c o) none s).grants .read = true ∧
      (reading 0 (.forward c o) none s).board.port = .readHeld (heldOf 0 (.forward c o) none)
    let s := sending 0 1 0 0
    (granted s 1 96 ∧ granted s 1 99 ∧ (s.filing.chan 1).state = .send ∧ (s.filing.chan 1).sending = some 0 ∧
      99 < (s.filing.page 0).length ∧ s.filing.blockAt 0 0 = some 200 ∧ 200 * 8192 + 103 ≤ s.store.bankMiB * 1048576) ∧
    (granted s 1 100 ∧ granted s 1 8188 ∧ (s.filing.page 0).length ≤ 100 ∧ s.filing.blockAt 0 (8188 / 8192) = some 200) ∧
    (granted (sending 1 2 0 0) 1 8192 ∧ ((sending 1 2 0 0).filing.chan 1).sending = some 1 ∧
      (sending 1 2 0 0).filing.blockAt 1 (8192 / 8192) = none) ∧ (granted base 24 1048444 ∧ (base.filing.chan 24).state ≠ .send) ∧
    (granted s 1 1048448 ∧ granted base 24 1048508 ∧
      0x4000 + 0x100 * (24 - 1) + (1048508 - 1048448) + 128 + 4 ≤ base.store.bankMiB * 1048576) := by decide +kernel

/-- The tail; unbound; at the length; the last byte of the length. -/
theorem witness_ReviewReadIsDecided :
    (base.reads 0x0F8FFF80 .full = true ∧ base.classify 0x0F8FFF80 = .review 0 1048448) ∧
    (base.reads 0x0FFFFF7C .full = true ∧ base.classify 0x0FFFFF7C = .review 7 1048444 ∧ base.filing.binding 7 = none) ∧
    (let s := filed (showing 7) base
     s.reads 0x0FF00064 .full = true ∧ s.classify 0x0FF00064 = .review 7 100 ∧
     s.filing.binding 7 = some { doc := 0, seq := 1, page := 0, viewer := 0 } ∧ (s.filing.page 0).length ≤ 100) ∧
    (let s := filed (showing 7) base
     s.classify 0x0FF00063 = .review 7 99 ∧ s.reads 0x0FF00063 .byte = true ∧ 99 < (s.filing.page 0).length ∧
     s.filing.blockAt 0 0 = some 200) := by decide +kernel

/-- The grants: across the length's last byte, at the length and at the block's last word; an index with no block; an
aperture unbound by then. -/
theorem witness_ReviewReadIsDecided_grants :
    let granted (s : State) (r o : Nat) : Prop :=
      (reading 0 (.review r o) none s).grants .read = true ∧
      (reading 0 (.review r o) none s).board.port = .readHeld (heldOf 0 (.review r o) none)
    let s := filed (showing 0) base
    (granted s 0 96 ∧ granted s 0 100 ∧ granted s 0 8188 ∧ (s.filing.page 0).length = 100 ∧
      s.filing.binding 0 = some { doc := 0, seq := 1, page := 0, viewer := 0 } ∧
      s.filing.blockAt 0 (8188 / 8192) = some 200 ∧ 200 * 8192 + 8188 + 4 ≤ s.store.bankMiB * 1048576) ∧
    (granted s 0 8192 ∧ s.filing.blockAt 0 (8192 / 8192) = none) ∧
    (granted base 7 1048444 ∧ base.filing.binding 7 = none) := by decide +kernel

/-- Taken while a write of the master is staged: the control window's last word by master 24, the fault word, forward aperture
20's slot, a review aperture's last word. Leaving: a plain write of master 0 with another of its behind it, and with none.
Waiting: document record 0's flush, another record's, the header's rewrite, a write-ahead entry. -/
theorem witness_HeldReadsWaitAndGoOn :
    (∀ x ∈ [((24, 0x0C0FFFFC, .mirrorRead 24 0x0C0FFFFC .full) : BitVec 5 × Word × Instr),
        (0, 0x0C000040, .faultWordRead 0 0x0C000040 .full), (20, 0x0F3FFFFC, .forwardSlotRead 20 0x0F3FFFFC .full),
        (0, 0x0FFFFF7C, .reviewDataRead 0 0x0FFFFF7C .full)],
      let s := stage (wr x.1 0 0) base
      s.reads x.2.1 .full = true ∧ (∃ y ∈ s.board.queue, y.write.master = x.1) ∧
      x.2.2 = readCommand x.1 x.2.1 .full (s.classify x.2.1)) ∧
    (∀ n ∈ [1, 2],
      let h : HeldRead := { heldOf 0 (.control 0x8000) none with phase := .writes }
      let t := headed { dest := .general 0, ahead := none } (stageN n (wr 0 0 0) (soiled (.document 0) base))
      let s : State := { t with board := { t.board with port := .readHeld h } }
      s.calm = true ∧ nextIs (fun u => u.board.queue == s.board.queue.tail &&
        decide (u.board.port = .readHeld (if n = 2 then h else { h with phase := .flush (.document 0) })))
        (exec .headStoreWrite s) = true) ∧
    (let waits (r : RecordId) (s : State) : State :=
       { s with board := { s.board with port := .readHeld { heldOf 0 (.control 0) none with phase := .flush r } } }
     let owed := filed (fun f => { f with mirror := { f.mirror with rewrite := true } }) base
     let s := soiled (.document 0) base
     ((waits (.document 0) s).grants .flush = true ∧ (waits (.document 0) s).flushUnit = some (.record (.document 0))) ∧
     ((waits (.page 8191) s).grants .flush = true ∧ (waits (.page 8191) s).flushUnit = some (.record (.document 0))) ∧
     ((waits .layoutHeader owed).grants .flush = true ∧ owed.filing.mirror.rewrite = true) ∧
     ((waits (.block 1023) (landed (wr 1 0x0C800000 0) (.page 8380416) (some 1023))).grants .ahead = true)) := by
  decide +kernel

/-- Plain and relocated; the trailer slot's and confirm slot's first and last plain words; both that reach nothing. -/
theorem witness_UnownedAndRefusedWritesDrain :
    (let s (w : BoardWrite) := (stage w base).drains (entry w)
     s (wr 31 0 0) = true ∧ (entry (wr 31 0 0)).cls = .plain 0 ∧
     s (wr 31 0x10FFFFFC 0) = true ∧ (entry (wr 31 0x10FFFFFC 0)).cls = .relocated 0x0CFFFFFC ∧
     s (wr 0 0x0C8FFFC0 0) = true ∧ (entry (wr 0 0x0C8FFFC0 0)).cls = .landing 1 1048512 ∧
     s (wr 20 0x0DBFFFF8 0) = true ∧ (entry (wr 20 0x0DBFFFF8 0)).cls = .landing 20 1048568 ∧
     s (wr 0 0x0E0FFFC0 0) = true ∧ (entry (wr 0 0x0E0FFFC0 0)).cls = .forward 1 1048512 ∧
     s (wr 20 0x0F3FFFF8 0) = true ∧ (entry (wr 20 0x0F3FFFF8 0)).cls = .forward 20 1048568 ∧
     s (wr 0 0x11000000 0) = true ∧ (entry (wr 0 0x11000000 0)).cls = .unbacked ∧
     s (wr 0 0x0C100000 0) = true ∧ (entry (wr 0 0x0C100000 0)).cls = .zoneUnbacked) := by decide +kernel

/-- A control window and a landing write of master 0, a consumer word of master 1, a review aperture. -/
theorem witness_UnownedAndRefusedWritesDrain_refused :
    let s (w : BoardWrite) := (stage w base).calm = true ∧ (stage w base).offers (entry w) = true ∧
      (entry w).cls.writeAllowed w.master.toNat = false
    s (wr 0 0x0C000000 0) ∧ s (wr 0 0x0C800000 0) ∧ s (wr 1 0x0C0000C0 0) ∧ s (wr 0 0x0F800000 0) := by decide +kernel

/-- Word 14 of slot 0, word 0 of slot 31; TAKEN, full and narrow. -/
theorem witness_PostingWordIsCaptured :
    ((stage (wr 0 0x0C001038 7) base).drains (entry (wr 0 0x0C001038 7)) = true ∧
      (entry (wr 0 0x0C001038 7)).cls = .control 0x1038 ∧ (base.filing.slot 0).state ≠ .taken) ∧
    ((stage (wr 0 0x0C0017C0 7) base).drains (entry (wr 0 0x0C0017C0 7)) = true ∧
      (entry (wr 0 0x0C0017C0 7)).cls = .control 0x17C0) ∧
    ((stage (narrow 0 0x0C00103A) base).drains (entry (narrow 0 0x0C00103A)) = true ∧
      (entry (narrow 0 0x0C00103A)).cls = .control 0x103A) ∧
    (let s := filed (fun f => f.setSlot 0 { Slot.fresh with state := .taken }) (stage (wr 0 0x0C001038 7) base)
     s.drains (entry (wr 0 0x0C001038 7)) = true ∧ (s.filing.slot 0).state = .taken) := by decide +kernel

/-- Narrow in both states; BUSY with room, in place of an earlier one and new on the list; MALFORMED by the mark and by the set; UNKNOWN kinds 00h and FFh. -/
theorem witness_PostsWithoutARequest :
    let taken := filed (fun f => f.setSlot 0 { Slot.fresh with state := .taken })
    let at0 (w : BoardWrite) (s : State) := (stage w s).drains (entry w) = true ∧ (entry w).cls = .control 0x103C
    ((stage (narrow 0 0x0C00103E) base).drains (entry (narrow 0 0x0C00103E)) = true ∧
      (entry (narrow 0 0x0C00103E)).cls = .control 0x103E ∧ (base.filing.slot 0).state ≠ .taken) ∧
    (at0 (narrow 0 0x0C00103C) (taken base) ∧ ((taken base).filing.slot 0).state = .taken) ∧
    (at0 (wr 0 0x0C00103C 0x0B010001) (taken base) ∧ (taken base).filing.roomy) ∧
    (let d : List Deferred := [.result 0 7 .ok [] 3, .busy 0 8 3, .busy 1 9 3]
     let s (ds : List Deferred) :=
       filed (fun f => { f with posting := { f.posting with deferred := ds } }) (taken (ringAt 255 base))
     at0 (wr 0 0x0C00103C 0x0B010001) (s d) ∧ ¬ (s d).filing.roomy ∧
     (s d).filing.posting.deferred = [.result 0 7 .ok [] 3] ++ .busy 0 8 3 :: [.busy 1 9 3] ∧
     at0 (wr 0 0x0C00103C 0x0B010001) (s []) ∧ ¬ (s []).filing.roomy ∧ (s []).filing.posting.deferred = []) ∧
    (let s := filed (fun f => f.setSlot 0 { Slot.fresh with state := .filling, malformed := true }) base
     at0 (wr 0 0x0C00103C 0x0B000001) s ∧ (s.filing.slot 0).malformed = true) ∧
    (at0 (wr 0 0x0C00103C 0x0B0F0001) (slotFilled 0 14 base) ∧
      ((slotFilled 0 14 base).filing.slot 0).written ≠ BitVec.ofNat 15 (2 ^ 15 - 1)) ∧
    (at0 (wr 0 0x0C00103C 0x00000001) base ∧ (base.filing.slot 0).written = BitVec.ofNat 15 (2 ^ 0 - 1) ∧
      requestOf 0 = none) ∧
    (at0 (wr 0 0x0C00103C 0xFF0F0001) (slotFilled 0 15 base) ∧
      ((slotFilled 0 15 base).filing.slot 0).written = BitVec.ofNat 15 (2 ^ 15 - 1) ∧ requestOf 255 = none) := by
  decide +kernel

/-- Each of the twenty kinds, with no operand word and with fifteen, into an empty ring; one that fills the ring's last
place but one with a notice, one whose notices find no second place; a backlog. -/
theorem witness_PostedRequestsAreExecuted :
    (∀ n ∈ (List.range 20).map (· + 1), ∀ w ∈ [0, 15],
      let x := wr 0 0x0C0017FC (BitVec.ofNat 32 (n * 2 ^ 24 + w * 2 ^ 16 + 7))
      let s := stage x (slotFilled 31 w base)
      s.drains (entry x) = true ∧ (entry x).cls = .control 0x17FC ∧ (s.filing.slot 31).state ≠ .taken ∧
      (s.filing.slot 31).malformed = false ∧ (s.filing.slot 31).written = BitVec.ofNat 15 (2 ^ w - 1) ∧
      (requestOf n).isSome = true ∧ s.filing.roomy) ∧
    (let d (n : BitVec 8) := execute .purge [0]
       (library .filed { (ringAt n base).filing with boxes := { mailboxes := [(0, { Mailbox.fresh with usage := 1 })], routes := [] } })
     (ringAt 254 base).filing.roomy ∧ (d 253).filing.ring.pending = [] ∧ (d 253).filing.ringRoom ∧
     ¬ (d 254).filing.ringRoom ∧ (d 254).code = .ok) ∧
    ¬ (ringAt 255 base).filing.roomy := by decide +kernel

theorem witness_RefusedRequestsChangeNothing :
    (execute .purge [0] base.filing).code ≠ .ok ∧ (execute .purge [0] base.filing).code ≠ .empty ∧
    65535 < (operand [0x10000] 0).toNat ∧
    (let f := lastSlot plainDoc base.filing
     (operand [0xFFFE] 0).toNat ≤ 65535 ∧ (f.doc ((operand [0xFFFE] 0).toNat / 64)).gen ≠ (operand [0xFFFE] 0).toNat % 64) ∧
    (base.filing.doc ((operand [0] 0).toNat / 64)).state = .free := by decide +kernel

/-- The floor raised from 1 to F = 2, LOW not masked and masked. -/
theorem witness_PartIsSet_low :
    let f : Filing := { base.filing with
      blocks := { base.filing.blocks with free := [4711, 4712] }
      monitors := { base.filing.monitors with policy := { base.filing.monitors.policy with floor := 1 } } }
    ∀ m ∈ [0, 0x10],
      let d := execute .setPolicy [2, 0, argNat m, 120] f
      f.monitors.policy.floor < f.freeCount ∧ f.freeCount ≤ d.filing.monitors.policy.floor ∧
      (d.filing.monitors.policy.masks.getLsbD 4 = false ↔ m = 0) ∧
      d.filing.ring.waiting.map Entry.kind = (if m = 0 then [11, 12] else []) := by decide +kernel

/-- Lockout codes 2, 1 and 0; channels 0, 25, 1 and 24. -/
theorem witness_PartIsSet :
    1 < (operand [0, 2, 0, 0] 1).toNat ∧ (operand [0xFFFFFFFF, 1, 0xFFFFFFFF, 0xFFFFFFFF] 1).toNat ≤ 1 ∧
    (operand [0, 0] 1).toNat ≤ 1 ∧ (operand [0] 0).toNat < 1 ∧ 24 < (operand [25] 0).toNat ∧
    1 ≤ (operand [1] 0).toNat ∧ (operand [24, 0, 0, 0] 0).toNat ≤ 24 := by decide +kernel

/-- Mailbox 63 with group 15, hours beyond the limit; mailbox 0 to CLOSED; entry 127 with mailbox 63. -/
theorem witness_BoxesAndRoutesAreSet :
    (let ops : List Word := [0x0F3F0121, 0xFFFFFFFF, 0, 4321, 0]
     bits (operand ops 0) 16 8 = 63 ∧ bits (operand ops 0) 0 4 < 2 ∧ bits (operand ops 0) 24 8 < 16 ∧
     classOf (bits (operand ops 0) 4 4) = some .bulk ∧ operandDefaults ops = some []) ∧
    (let ops : List Word := [0x00000001, 0, 0, 0, 0]
     bits (operand ops 0) 16 8 = 0 ∧ bits (operand ops 0) 0 4 = 1 ∧ classOf (bits (operand ops 0) 4 4) = some .urgent ∧
     operandDefaults ops = some []) ∧
    (let ops : List Word := [127, 0x003F1001, 0x76543210, 0xBA9876A5]
     (operand ops 0).toNat < 128 ∧ bits (operand ops 1) 16 8 < 64 ∧
     matchKindOf (bits (operand ops 1) 0 8) = some .leading ∧ (operandPattern ops).isSome = true ∧
     (∀ x < 128, base.filing.route x = none) ∧
     (let f := base.filing.setRoute 0 (some { kind := .leading, pattern := (operandPattern ops).getD [], mailbox := 1 })
      f.route 0 = some { kind := .leading, pattern := (operandPattern ops).getD [], mailbox := 1 } ∧ 0 ≠ 127)) ∧
    (operand [127] 0).toNat < 128 := by decide +kernel

/-- A document that EXPIRED lets go, shown by aperture r to mailbox 5. -/
def shownTo5 (r : Nat) (expired : Bool) (f : Filing) : Filing :=
  (let g := library .filed f
   g.setDoc 0 { g.doc 0 with expired := expired }).setBinding r (some { doc := 0, seq := 1, page := 0, viewer := 5 })

/-- Walls of mailbox 5 that change to shut out group 0, with apertures 0 and 7 bound: the document goes, and it stays. -/
theorem witness_BoxesAndRoutesAreSet_walls :
    let ops : List Word := [0x02050000, 0, 1, 0, 0]
    ∀ x ∈ [((0, true) : Nat × Bool), (7, false)],
      let f := shownTo5 x.1 x.2 base.filing
      let d := execute .setMailbox ops f
      bits (operand ops 0) 16 8 = 5 ∧ (d.filing.mailbox 5).group ≠ (f.mailbox 5).group ∧
      f.binding x.1 = some { doc := 0, seq := 1, page := 0, viewer := 5 } ∧ d.filing.wallPasses 5 0 = false ∧
      f.docId 0 = 0 ∧ (f.doc 0).expired = x.2 ∧ (f.doc 0).hold = false ∧ (f.doc 0).anyLive = false ∧
      d.filing.bound 0 = false ∧ ((d.filing.doc 0).state == .free) = x.2 := by decide +kernel

/-- Slot 1023 at generation 63: RECEIVING; held with nothing else; EXPIRED and held by nothing; hours of 0 and beyond the
limit. -/
theorem witness_HoldsAndRetention :
    let f (d : Doc) := lastSlot d base.filing
    let named (d : Doc) := (operand [lastId, 4321] 0).toNat = (f d).docId 1023 ∧ ((f d).doc 1023).gen < 64 ∧
      ((f d).doc 1023).state ≠ .free
    (named { plainDoc with state := .receiving, closure := .opened }) ∧
    (named { plainDoc with hold := true } ∧ ({ plainDoc with hold := true } : Doc).expired = false) ∧
    (named { plainDoc with expired := true, hold := true } ∧ plainDoc.anyLive = false ∧
      (f { plainDoc with expired := true, hold := true }).bound 65535 = false) ∧
    (let g := (library .filed base.filing).setDoc 0 { (library .filed base.filing).doc 0 with expired := true }
     (operand [0] 0).toNat = g.docId 0 ∧ (g.doc 0).state ≠ .free ∧ (g.doc 0).expired = true ∧ (g.doc 0).hold = false ∧
     (g.doc 0).anyLive = false ∧ g.bound (g.docId 0) = false ∧ g.docPages 0 = [0, 1] ∧ g.pageChain 0 = [200]) ∧
    min (operand [lastId, 4321] 1).toNat 4320 = 4320 ∧ min (operand [lastId] 1).toNat 4320 = 0 := by decide +kernel

/-- Slot 1023: REVIEW with a PENDING recipient, and FILED; PURGE of a held, a RECEIVING and another document; REFILE to
mailbox 63; ABORT_INTAKE in GAP on channel 24 and in PAGE on channel 1. -/
theorem witness_DocumentsMove :
    let f (d : Doc) := lastSlot d base.filing
    let named (d : Doc) := (operand [lastId, 63] 0).toNat = (f d).docId 1023 ∧ ((f d).doc 1023).gen < 64 ∧
      ((f d).doc 1023).state ≠ .free
    (named { plainDoc with state := .review, recipients := [(3, recipient .pending 0 0)] } ∧
      (({ plainDoc with recipients := [(3, recipient .pending 0 0)] } : Doc).recipient 3).state = .pending) ∧
    named { plainDoc with hold := true } ∧ named { plainDoc with state := .receiving } ∧
    (named plainDoc ∧ plainDoc.hold = false ∧ (∀ i < 4, (plainDoc.recipient i).state ≠ .active) ∧
      (operand [lastId, 63] 1).toNat < 64 ∧ ((f plainDoc).mailbox 63).shut = false ∧
      (f plainDoc).wallPasses 63 0 = true ∧ (f plainDoc).bound ((f plainDoc).docId 1023) = false ∧
      63 ≠ ((f plainDoc).doc 1023).mailbox) ∧
    (63 < (operand [lastId, 64] 1).toNat ∧
      (((f plainDoc).setBox 63 { Mailbox.fresh with shut := true }).mailbox 63).shut = true ∧
      (let g := (f plainDoc).setBox 63 { Mailbox.fresh with excludes := 1 }
       (g.mailbox 63).shut = false ∧ g.wallPasses 63 0 = false)) ∧
    ((base.filing.chan 1).state ≠ .gap ∧ (base.filing.chan 1).state ≠ .page) ∧
    ((operand [24] 0).toNat = 24 ∧ ((channel 24 inGap base).filing.chan 24).state = .gap ∧
      ((channel 24 inGap base).filing.chan 24).doc = some 0) ∧
    ((operand [1] 0).toNat = 1 ∧
      (let s := channel 1 inPage (filed (library .receiving) base)
       (s.filing.chan 1).state = .page ∧ (s.filing.chan 1).doc = some 0 ∧ (s.filing.chan 1).openPage = some 0 ∧
       (s.filing.doc 0).pageCount = 2)) := by
  decide +kernel

/-- REFILE to mailbox 4, which mailbox 5 excludes: the aperture's document goes, and it stays. -/
theorem witness_DocumentsMove_shown :
    let ops : List Word := [0, 4]
    ∀ x ∈ [((0, true) : Nat × Bool), (7, false)],
      let f := ((shownTo5 x.1 x.2 base.filing).setBox 4 { Mailbox.fresh with group := 3 }).setBox 5
        { Mailbox.fresh with excludes := 8 }
      let d := execute .refile ops f
      (operand ops 0).toNat = f.docId 0 ∧ (f.mailbox 4).shut = false ∧ f.wallPasses 4 0 = true ∧
      f.wallPasses 5 4 = false ∧ f.binding x.1 = some { doc := 0, seq := 1, page := 0, viewer := 5 } ∧
      d.filing.bound 0 = false ∧ ((d.filing.doc 0).state == .free) = x.2 := by decide +kernel

/-- A target of 20 digits on a FILED and on a RECEIVING document with one place left; recipient 3 PENDING and READY; the
queue empty and with a head; channel 24 in SEND. -/
theorem witness_RecipientsAreServed :
    (let d (st : DocState) : Doc :=
       { plainDoc with state := st, recipients := [(0, recipient .done 0 0), (1, recipient .done 0 0), (2, recipient .done 0 0)] }
     let f (st : DocState) := lastSlot (d st) base.filing
     let ops : List Word := [lastId, 0x1402, 0x33323130, 0x37363534, 0x23393823, 0x2A2A2A2A, 0x30303030]
     (∀ st ∈ [DocState.filed, DocState.receiving], (operand ops 0).toNat = (f st).docId 1023 ∧
       ((f st).doc 1023).gen < 64 ∧ ((f st).doc 1023).state ≠ .free ∧ ((f st).doc 1023).emptyPlace = some 3) ∧
     classOf (bits (operand ops 1) 0 8) = some .bulk ∧
     (operandTarget ops 2 (bits (operand ops 1) 8 8)).isSome = true) ∧
    (∀ st ∈ [RecipientState.pending, .ready],
      let f := lastSlot { plainDoc with recipients := [(3, recipient st 0 0)] } base.filing
      (operand [lastId, 3] 0).toNat = f.docId 1023 ∧ (f.doc 1023).gen < 64 ∧ (f.doc 1023).state ≠ .free ∧
      ((f.doc 1023).recipient (operand [lastId, 3] 1).toNat).state = st) ∧
    ((operand [24] 0).toNat = 24 ∧ (base.filing.chan 24).state = .idle ∧ base.filing.queue.all = []) ∧
    (let f := (addressed (recipient .ready 0 0) base.filing).join 0 0 .urgent
     (f.chan 1).state = .idle ∧ f.queue.all = [(0, 0)] ∧ f.pageFrom 0 ((f.doc 0).recipient 0).nextPage = some 0) ∧
    (let s := channel 24 (inSend 0 1) base
     (s.filing.chan 24).state = .send ∧ (s.filing.chan 24).bound = some (0, 0) ∧ (s.filing.chan 24).state ≠ .idle) ∧
    ((base.filing.chan 24).state ≠ .send) ∧
    (let d : Doc := { plainDoc with recipients := (List.range 4).map (fun i => (i, recipient .done 0 0)) }
     let f := lastSlot d base.filing
     (f.doc 1023).emptyPlace = none ∧ (f.doc 1023).state ≠ .free) := by decide +kernel

/-- CANCEL_RECIPIENT of place 4, of EMPTY and finished places, of RETRY_WAIT and ACTIVE, where the document goes and where it
stays. -/
theorem witness_RecipientsAreServed_cancel :
    3 < (operand [0, 4] 1).toNat ∧
    (∀ st ∈ [RecipientState.empty, .done, .failed, .cancelled],
      let f := addressed (recipient st 0 0) base.filing
      (operand [0, 0] 0).toNat = f.docId 0 ∧ ((f.doc 0).recipient 0).state = st) ∧
    (∀ st ∈ [RecipientState.retryWait, .active], ∀ e ∈ [true, false],
      let g := addressed { recipient st 0 0 with retryDue := if st = .retryWait then some 9 else none } base.filing
      let f := (g.setDoc 0 { g.doc 0 with expired := e }).setChan 1 (inSend 0 1)
      let d := execute .cancelRecipient [0, 0] f
      (operand [0, 0] 0).toNat = f.docId 0 ∧ ((f.doc 0).recipient 0).state = st ∧
      (st = .retryWait → ((f.doc 0).recipient 0).channel = none) ∧
      (st = .active → ((f.doc 0).recipient 0).channel = some 1 ∧ ((f.doc 0).recipient 0).retryDue = none) ∧
      (f.chan 1).bound = some (0, 0) ∧ ((d.filing.doc 0).state == .free) = e) := by decide +kernel

/-- TAKE_FORWARD on channel 24 with a head past its document's last page and another document behind it; the first is
released, and it stays. -/
theorem witness_RecipientsAreServed_noPage :
    ∀ e ∈ [true, false],
      let g := addressed { recipient .ready 0 0 with nextPage := 3 } base.filing
      let f := (((g.setDoc 0 { g.doc 0 with expired := e }).join 0 0 .urgent).setDoc 1
        { plainDoc with pageCount := 1, firstPage := some 5, recipients := [(2, recipient .ready 0 0)] }).setPage 5
        { Page.freed with state := .closed, owner := 1, seq := 1, length := 1 } |>.join 1 2 .bulk
      let d := execute .takeForward [24] f
      (f.chan 24).state = .idle ∧ f.queue.all = [(0, 0), (1, 2)] ∧
      f.pageFrom 0 ((f.doc 0).recipient 0).nextPage = none ∧ (d.code == .ok) = true ∧
      (d.filing.chan 24).bound = some (1, 2) ∧ d.filing.queue.all = [] ∧
      (d.filing.doc 0 == Doc.freed 1) = e := by decide +kernel

/-- Aperture 7, unbound and bound anew: the document it named goes, and it stays. -/
theorem witness_ApertureIsBoundAndUnbound_released :
    ∀ e ∈ [true, false],
      let f := (shownTo5 7 e base.filing).setDoc 1 { plainDoc with pageCount := 1, firstPage := some 5 } |>.setPage 5
        { Page.freed with state := .closed, owner := 1, seq := 1, length := 1 }
      let b : Binding := { doc := 0, seq := 1, page := 0, viewer := 5 }
      f.binding 7 = some b ∧ (f.doc 0).state = .filed ∧ (f.doc 0).gen = 0 ∧ (f.doc 0).hold = false ∧
      (f.doc 0).expired = e ∧ (f.doc 0).anyLive = false ∧
      (∀ d ∈ [execute .unbindReview [7] f, execute .bindReview [7, 64, 1, 5] f],
        (d.code == .ok) = true ∧ (∀ c ∈ d.filing.bindings, c.2.doc ≠ b.doc) ∧
        (d.filing.doc 0 == Doc.freed 1) = e) := by decide +kernel

/-- Aperture 7, page 2, viewer 63; aperture 0. -/
theorem witness_ApertureIsBoundAndUnbound :
    let f := library .filed base.filing
    let ops : List Word := [7, 0, 2, 63]
    (operand ops 0).toNat = 7 ∧ (operand ops 1).toNat = f.docId 0 ∧ (f.doc 0).gen < 64 ∧ (f.doc 0).state ≠ .free ∧
    1 ≤ (operand ops 2).toNat ∧ (operand ops 2).toNat ≤ 999 ∧ (operand ops 3).toNat < 64 ∧
    f.closedPage 0 (operand ops 2).toNat = some 1 ∧ f.wallPasses (operand ops 3).toNat (f.doc 0).mailbox = true ∧
    f.binding 7 = none ∧ (operand [] 0).toNat = 0 ∧ f.closedPage 0 (operand [7, 0, 3, 63] 2).toNat = none ∧
    (f.setBox 63 { Mailbox.fresh with excludes := 1 }).wallPasses 63 0 = false := by decide +kernel

/-- A pending set of one notice and of 256; a notice of a held key, and a new one; the lost count below its end and at it; a
part that runs with room, one with a full ring, one before READY. -/
theorem witness_NoticesEnterTheSet :
    let n (i : Nat) : Notice :=
      { key := { kind := .docClosed, doc := some i, item := .channel 1 }, code := 1, args := [], time := 3 }
    let f (ns : List Notice) (lost : Nat) : Filing :=
      { base.filing with ring := { base.filing.ring with pending := ns, lost := lost } }
    let full := (List.range 256).map n
    (base.filing.boot.phase = .running ∧ base.filing.ring.production - base.filing.ring.consumer ≠ 255#8 ∧
      base.filing.ring.pending = []) ∧
    ((ringAt 255 base).filing.ring.production - (ringAt 255 base).filing.ring.consumer = 255#8 ∧
      (atPhase .rebuilt).filing.boot.phase ≠ .running) ∧
    ((f [n 0, n 1, n 2] 0).ring.pending = [n 0] ++ n 1 :: [n 2] ∧ ∀ y ∈ [n 0] ++ [n 2], y.key ≠ (n 1).key) ∧
    ((f [n 0] 0).ring.pending.length < 256 ∧ ∀ x ∈ (f [n 0] 0).ring.pending, x.key ≠ (n 1).key) ∧
    (256 ≤ (f full 65534).ring.pending.length ∧ (∀ x ∈ (f full 65534).ring.pending, x.key ≠ (n 256).key) ∧
      (f full 65534).ring.lost < 65535 ∧ 65535 ≤ (f full 65535).ring.lost) ∧
    (full.map Notice.key).Nodup := by decide +kernel

/-- A value that is all that has been written, one beyond it, one that leaves the copy; a narrow word behind the low byte,
which stands at 0 and at 9; a full ring with two notices pending, room for one and for both; one
deferred request; three deferred items; pending notices ahead of a deferred result. -/
theorem witness_ConsumerWordMovesTheCopy :
    let s (c : Word) := ringAt 9 (stage (wr 0 0x0C0000C0 c) base)
    let ready (s : State) (c : Word) : Prop := s.drains (entry (wr 0 0x0C0000C0 c)) = true
    let full (c : Word) := ringAt 255 (stage (wr 0 0x0C0000C0 c) base)
    let low : State := ringAt 9 (stage (narrow 0 0x0C0000C2) base)
    let n : Notice := { key := { kind := .storeLow, doc := none, item := .none }, code := 0, args := [], time := 3 }
    let held (c : Word) := filed (fun f => { f with ring := { f.ring with pending := [n, n] } }) (full c)
    let owed (ds : List Deferred) (s : State) := filed (fun f => { f with posting := { f.posting with deferred := ds } }) s
    (entry (wr 0 0x0C0000C0 9)).cls = .control 0xC0 ∧ ready (s 9) 9 ∧ ready (s 10) 10 ∧ ready (s 0) 0 ∧
    (s 9).filing.ring.consumer = 0 ∧ (s 9).filing.ring.pending = [] ∧ (s 9).filing.posting.deferred = [] ∧
    (low.drains (entry (narrow 0 0x0C0000C2)) = true ∧ (entry (narrow 0 0x0C0000C2)).cls = .control 0xC2 ∧
      low.store.page.read 0xC0 = 0 ∧
      ({ low.store with page := Memory.write [] 0xC0 [9] } : Store).page.read 0xC0 = 9) ∧
    (ready (held 1) 1 ∧ ready (held 9) 9 ∧ (held 1).filing.ring.pending = [n, n] ∧
      255 - ((held 1).filing.ring.production - 1).toNat = 1 ∧ 255 - ((held 9).filing.ring.production - 9).toNat = 9) ∧
    (∀ ds ∈ [[Deferred.request 31 7 .hold [0]], [.result 31 7 .ok [] 3, .busy 31 7 3, .request 0 8 .purge [0]]],
      ready (owed ds (full 9)) 9 ∧ (owed ds (full 9)).filing.posting.deferred = ds ∧
      (owed ds (full 9)).filing.ring.consumer ≠ 9) ∧
    (ready (owed [.result 31 7 .ok [] 3] (held 3)) 3 ∧ (owed [.result 31 7 .ok [] 3] (held 3)).filing.ring.pending = [n, n]) := by
  decide +kernel

/-- Three positions freed of a full ring: the pending notice first, then the deferred result, then the BUSY; the request
behind them waits (R158). -/
theorem test_consumer_fills_in_order :
    let n : Notice := { key := { kind := .storeLow, doc := none, item := .none }, code := 0, args := [], time := 3 }
    let f : Filing := { (ringAt 255 base).filing with
      ring := { (ringAt 255 base).filing.ring with pending := [n] }
      posting := { slots := [], deferred := [.result 31 7 .full [] 4, .busy 30 8 5, .request 0 9 .hold [0]] } }
    let g := f.consumerWord 3
    g.ring.waiting.map (fun e => [e.pos.toNat, e.kind, e.code]) = [[255, 11, 0], [0, 0, 10], [1, 0, 2]] ∧
    g.ring.waiting.map Entry.slot = [none, some (31, 7), some (30, 8)] ∧
    g.ring.pending = [] ∧ g.posting.deferred = [.request 0 9 .hold [0]] := by decide +kernel

/-- A table of equal records finds each. -/
theorem find_equal {α : Type} (v : α) (n : Nat) :
    ∀ a i, a ≤ i → i < a + n → Tbl.find ((List.range' a n).map (fun k => (k, v))) i = some v := by
  induction n with
  | zero => omega
  | succ n ih =>
    intro a i h1 h2
    rw [List.range'_succ, List.map_cons, Tbl.find]
    by_cases h : a = i
    · simp [h]
    · rw [if_neg h]; exact ih (a + 1) i (by omega) (by omega)

/-- Every slot FILED. -/
def fullHouse : State :=
  stage (wr 1 0x0C8FFFBC 1) (filed (fun f => { f with dir := { f.dir with
    docs := (List.range' 0 1024).map (fun k => (k, plainDoc)) } }) base)

/-- No slot to give. -/
theorem witness_OpenCreatesTheDocument_noSlot :
    fullHouse.drains (entry (wr 1 0x0C8FFFBC 1)) = true ∧ (fullHouse.filing.chan 1).state = .idle ∧
    fullHouse.filing.givenSlot = none := by
  refine ⟨by decide +kernel, by decide +kernel, ?_⟩
  rw [Filing.givenSlot, List.find?_eq_none]
  intro k hk
  have hk : k < 1024 := by simpa [numbers, Config.docSlots] using hk
  have h : fullHouse.filing.doc k = plainDoc := by
    rw [Filing.doc, show fullHouse.filing.dir.docs = (List.range' 0 1024).map (fun k => (k, plainDoc)) from rfl,
      find_equal plainDoc 1024 0 k (by omega) (by omega)]
    rfl
  simp [h, plainDoc]

/-- IDLE with slot 0 to give; DISCARD; SEND and LOCKED; GAP and PAGE. -/
theorem witness_OpenCreatesTheDocument :
    let w := wr 1 0x0C8FFFBC 1
    ((stage w base).drains (entry w) = true ∧ (entry w).cls = .landing 1 1048508 ∧
      ((stage w base).filing.chan 1).state = .idle ∧ (stage w base).filing.givenSlot = some 0) ∧
    (let s := stage w (channel 1 { Channel.fresh with state := .discard } base)
     s.drains (entry w) = true ∧ (s.filing.chan 1).state = .discard) ∧
    (∀ ch ∈ [inSend 0 1, { Channel.fresh with state := .locked }, inGap, inPage],
      (stage w (channel 1 ch base)).drains (entry w) = true ∧
      ((ch.state = .gap ∨ ch.state = .page) → ((stage w (channel 1 ch base)).filing.chan 1).doc = some 0)) := by
  decide +kernel

/-- Every state, a document without pages and one of two; PAGE with a block beyond the length that the mark gives. -/
theorem witness_EndLeavesTheCall :
    let w := wr 20 0x0DBFFFBC 2
    (let f (g : Filing) : Filing := (library .receiving g).setBlock 200 { state := .landing, index := 1, next := none }
     let s := stage w (channel 20 inPage (filed f base))
     s.drains (entry w) = true ∧ (s.filing.chan 20).openPage = some 0 ∧ (s.filing.doc 0).pageCount = 2 ∧
     s.filing.pageChain 0 = [200]) ∧
    ∀ ch ∈ [inGap, inPage, { Channel.fresh with state := .discard }, Channel.fresh, inSend 0 1,
        { Channel.fresh with state := .locked }],
      (stage w (channel 20 ch base)).drains (entry w) = true ∧ (entry w).cls = .landing 20 1048508 ∧
      (((stage w (channel 20 ch base)).filing.chan 20).state = .gap → ch.doc = some 0) := by decide +kernel

/-- Kinds 0 and 3, a narrow call word at its last byte pair; STRAY masked; lockout, IDLE and in a call. -/
theorem witness_OtherCallKindIsStray :
    (∀ n ∈ [0, 3], (stage (wr 1 0x0C8FFFBC (argNat n)) base).drains (entry (wr 1 0x0C8FFFBC (argNat n))) = true ∧
      (entry (wr 1 0x0C8FFFBC (argNat n))).cls = .landing 1 1048508) ∧
    ((stage (narrow 1 0x0C8FFFBE) base).drains (entry (narrow 1 0x0C8FFFBE)) = true ∧
      (entry (narrow 1 0x0C8FFFBE)).cls = .landing 1 1048510) ∧
    (strictPolicy 0x040 false (stage (wr 1 0x0C8FFFBC 0) base)).drains (entry (wr 1 0x0C8FFFBC 0)) = true ∧
    (∀ ch ∈ [Channel.fresh, inGap],
      (strictPolicy 0 true (stage (wr 1 0x0C8FFFBC 0) (channel 1 ch base))).drains (entry (wr 1 0x0C8FFFBC 0)) = true) := by
  decide +kernel

/-- The first word of the aperture, mapped; the last word of the data area in DISCARD and LOCKED. -/
theorem witness_DataWriteLandsOrAllocates :
    (let s := stage (wr 1 0x0C800000 0) (channel 1 inPage base)
     s.drains (entry (wr 1 0x0C800000 0)) = true ∧ (entry (wr 1 0x0C800000 0)).cls = .landing 1 0 ∧
     (s.filing.chan 1).openPage = some 0 ∧ (s.filing.chan 1).doc = some 0 ∧ Tbl.find (s.filing.chan 1).map 0 = some 200) ∧
    (∀ st ∈ [ChannelState.discard, .locked],
      (stage (wr 1 0x0C8FFF7C 0) (channel 1 { Channel.fresh with state := st } base)).drains
        (entry (wr 1 0x0C8FFF7C 0)) = true) ∧ (entry (wr 1 0x0C8FFF7C 0)).cls = .landing 1 1048444 := by decide +kernel

/-- Logical index 127; quota with one block left; the floor one below F. -/
theorem witness_DataWriteLandsOrAllocates_unmapped :
    let w := wr 1 0x0C8FE000 0
    let g (q floor : Nat) (f : Filing) : Filing :=
      ({ library .receiving f with
          blocks := { (library .receiving f).blocks with free := [4711, 4712] }
          monitors := { f.monitors with policy := { f.monitors.policy with floor := floor } } } : Filing).setBox 0
        { Mailbox.fresh with quota := q, usage := 0 }
    let s (q floor : Nat) := stage w (channel 1 inPage (filed (g q floor) base))
    (s 1 2).drains (entry w) = true ∧ (entry w).cls = .landing 1 (127 * 8192) ∧ ((s 1 2).filing.chan 1).state = .page ∧
    Tbl.find ((s 1 2).filing.chan 1).map 127 = none ∧ (s 1 2).filing.blocks.free = [4711, 4712] ∧
    4711 ∉ (s 1 2).filing.pageChain 0 ∧ ((s 1 2).filing.mailbox 0).usage < ((s 1 2).filing.mailbox 0).quota ∧
    (s 0 1).drains (entry w) = true ∧ (s 0 1).filing.monitors.policy.floor < (s 0 1).filing.freeCount ∧
    ¬ ((s 0 1).filing.mailbox 0).usage < ((s 0 1).filing.mailbox 0).quota ∧
    ((s 0 1).filing.monitors.policy.floor = [4712].length ∧ (s 0 1).filing.monitors.policy.masks = 0 ∧
      ((s 0 1).filing.mailbox 0).overQuota = false) ∧
    nextIs (fun t => t.filing.ring.waiting.map Entry.kind == [10, 12, 11, 12]) (exec .dataWrite (s 0 1)) = true ∧
    nextIs (fun t => t.filing.mirror.flushList ==
      [.mailbox 0, .status, .block 200, .document 0, .page 0, .channel 1]) (exec .dataWrite (s 1 0)) = true := by
  decide +kernel

/-- GAP with page record 8191 free, 998 pages: quota, floor and neither admits, and no block is free; no page record, and 999
pages; PAGE with no admission; IDLE and SEND. -/
theorem witness_DataWriteStartsAPage :
    let w := wr 1 0x0C8FE000 0
    let g (pages : List Nat) (n q floor : Nat) (blocks : List Nat) (f : Filing) : Filing :=
      ({ f.setDoc 0 { plainDoc with state := .receiving, closure := .opened, pageCount := n, firstPage := some 7 } with
          dir := { (f.setDoc 0 { plainDoc with state := .receiving, closure := .opened, pageCount := n,
                                               firstPage := some 7 }).dir with freePages := pages }
          blocks := { f.blocks with free := blocks }
          monitors := { f.monitors with policy := { f.monitors.policy with floor := floor } } } : Filing).setBox 0
        { Mailbox.fresh with quota := q, usage := 0 }
    let s (ch : Channel) (pages : List Nat) (n q floor : Nat) (blocks : List Nat) : State :=
      stage w (channel 1 ch (filed (g pages n q floor blocks) base))
    let starts (q floor : Nat) (blocks : List Nat) : Prop :=
      (s inGap [8191, 5] 998 q floor blocks).drains (entry w) = true ∧
      ((s inGap [8191, 5] 998 q floor blocks).filing.chan 1).state = .gap ∧
      ((s inGap [8191, 5] 998 q floor blocks).filing.chan 1).doc = some 0 ∧
      (s inGap [8191, 5] 998 q floor blocks).filing.dir.freePages = [8191, 5] ∧
      ((s inGap [8191, 5] 998 q floor blocks).filing.doc 0).pageCount < 999 ∧
      8191 ∉ (s inGap [8191, 5] 998 q floor blocks).filing.docPages 0
    (entry w).cls = .landing 1 (127 * 8192) ∧ starts 1 2 [9, 10] ∧ starts 0 1 [9, 10] ∧ starts 0 2 [9, 10] ∧
    starts 1 0 [] ∧
    ((s inGap [] 998 1 2 [9]).drains (entry w) = true ∧ (s inGap [] 998 1 2 [9]).filing.dir.freePages = []) ∧
    ((s inGap [8191] 999 1 2 [9]).drains (entry w) = true ∧ 999 ≤ ((s inGap [8191] 999 1 2 [9]).filing.doc 0).pageCount) ∧
    ((s inPage [8191] 1 0 1 [9]).drains (entry w) = true ∧ (s inPage [8191] 1 0 1 [9]).filing.admits 0 = false ∧
      Tbl.find ((s inPage [8191] 1 0 1 [9]).filing.chan 1).map 127 = none) ∧
    ((s Channel.fresh [] 0 0 0 []).drains (entry w) = true ∧ (s (inSend 0 1) [] 0 0 0 []).drains (entry w) = true) := by
  decide +kernel

/-- A full trailer word in every other state; a narrow one at its last bytes in PAGE; a full one with STRAY masked. -/
theorem witness_TrailerOutOfPlace :
    (∀ ch ∈ [Channel.fresh, inGap, { Channel.fresh with state := .discard }, { Channel.fresh with state := .locked },
        inSend 0 1],
      let s := stage (wr 0 0x0C8FFFFC 1) (channel 1 ch base)
      s.drains (entry (wr 0 0x0C8FFFFC 1)) = true ∧ (entry (wr 0 0x0C8FFFFC 1)).cls = .landing 1 1048572 ∧
      (s.filing.chan 1).state ≠ .page) ∧
    (let s := stage (narrow 1 0x0C8FFFFE) (channel 1 inPage base)
     s.drains (entry (narrow 1 0x0C8FFFFE)) = true ∧ (entry (narrow 1 0x0C8FFFFE)).cls = .landing 1 1048574 ∧
     (s.filing.chan 1).state ≠ .discard ∧ (s.filing.chan 1).state ≠ .locked) ∧
    (let s := strictPolicy 0x040#10 false (stage (wr 0 0x0C8FFFFC 1) (channel 1 inGap base))
     s.drains (entry (wr 0 0x0C8FFFFC 1)) = true ∧ (s.filing.chan 1).state = .gap ∧
     s.filing.masked .stray = true) := by decide +kernel

/-- Lengths 1 and 1,048,448, the last-page flag clear and set; lengths 0 and 1,048,449, with a mark and with none. -/
theorem witness_TrailerClosesThePage :
    ∀ x ∈ [((1, some 3) : Nat × Option Nat), (0x800FFF80, some 3), (0, some 3), (0x000FFF81, none)],
      let d := argNat x.1
      let s := stage (wr 1 0x0C8FFFFC d) (channel 1 { inPage with mark := x.2 } (filed (library .receiving) base))
      s.drains (entry (wr 1 0x0C8FFFFC d)) = true ∧ (s.filing.chan 1).state = .page ∧
      (s.filing.chan 1).openPage = some 0 ∧ (s.filing.chan 1).doc = some 0 ∧
      (x.1 ∈ [1, 0x800FFF80] ↔ (1 ≤ bits d 0 21 ∧ bits d 0 21 ≤ 1048448)) ∧ (s.filing.chan 1).mark = x.2 ∧
      (entry (wr 1 0x0C8FFFFC d)).cls = .landing 1 1048572 := by decide +kernel

/-- A page with a next page, and the last page; the document held by nothing once its recipient is DONE. -/
theorem witness_ConfirmOkConfirmsThePage :
    ∀ x ∈ [((0, 1, some 1, 0x01000001) : Nat × Nat × Option Nat × Word), (1, 2, none, 0x01000002)],
      let w := wr 1 0x0E0FFFFC x.2.2.2
      let s := stage w (sending x.1 x.2.1 0 0)
      s.drains (entry w) = true ∧ (entry w).cls = .forward 1 1048572 ∧ (s.filing.chan 1).state = .send ∧
      (s.filing.chan 1).bound = some (0, 0) ∧ (s.filing.chan 1).sending = some x.1 ∧ bits w.data 24 8 = 1 ∧
      bits w.data 0 10 = (s.filing.chan 1).info.seq ∧ (s.filing.page x.1).next = x.2.2.1 ∧
      (let d := (s.filing.doc 0).setRecipient 0 { (s.filing.doc 0).recipient 0 with state := .done, channel := none }
       d.state = .filed ∧ d.hold = false ∧ d.anyLive = false ∧ s.filing.bound (s.filing.docId 0) = false ∧
       ({ d with expired := true } : Doc).expired = true) := by decide +kernel

/-- Resend counts 0 and 2. -/
theorem witness_ResendAndStrayConfirmWords :
    ∀ n ∈ [0, 2],
      let w := wr 1 0x0E0FFFFC 0x02000001
      let s := stage w (sending 0 1 n 0)
      s.drains (entry w) = true ∧ (entry w).cls = .forward 1 1048572 ∧ (s.filing.chan 1).state = .send ∧
      (s.filing.chan 1).bound = some (0, 0) ∧ bits w.data 24 8 = 2 ∧ bits w.data 0 10 = (s.filing.chan 1).info.seq ∧
      ((s.filing.doc 0).recipient 0).resend < 3 := by decide +kernel

/-- ABANDON with 0, 3 and 4 attempts; the fourth RESEND. -/
theorem witness_FailedAttemptIsRetried :
    (∀ n ∈ [0, 3, 4],
      let w := wr 1 0x0E0FFFFC 0x03000001
      let s := stage w (sending 0 1 0 n)
      s.drains (entry w) = true ∧ (s.filing.chan 1).state = .send ∧ (s.filing.chan 1).bound = some (0, 0) ∧
      bits w.data 24 8 = 3 ∧ bits w.data 0 10 = (s.filing.chan 1).info.seq ∧
      ((s.filing.doc 0).recipient 0).attempts = n) ∧
    (let w := wr 1 0x0E0FFFFC 0x02000001
     let s := stage w (sending 0 1 3 0)
     s.drains (entry w) = true ∧ bits w.data 24 8 = 2 ∧ ((s.filing.doc 0).recipient 0).resend = 3) := by decide +kernel

/-- Outside SEND; narrow; outcomes 0 and 4; a wrong echo; DISCARD and LOCKED. -/
theorem witness_ResendAndStrayConfirmWords_stray :
    let w (d : Word) := wr 1 0x0E0FFFFC d
    ((stage (w 0x01000001) base).drains (entry (w 0x01000001)) = true ∧ (base.filing.chan 1).state ≠ .send) ∧
    (let x := narrow 1 0x0E0FFFFE
     (stage x (sending 0 1 0 0)).drains (entry x) = true ∧ (entry x).cls = .forward 1 1048574) ∧
    (∀ n ∈ [0x00000001, 0x04000001, 0x01000002],
      (stage (w (argNat n)) (sending 0 1 0 0)).drains (entry (w (argNat n))) = true ∧
      (bits (argNat n) 24 8 = 0 ∨ 3 < bits (argNat n) 24 8 ∨ bits (argNat n) 0 10 ≠ 1)) ∧
    (∀ st ∈ [ChannelState.discard, .locked],
      (stage (w 0x01000001) (channel 1 { Channel.fresh with state := st } base)).drains (entry (w 0x01000001)) = true) := by
  decide +kernel

/-- The entry of the last block of 8 MiB; the general bank; the page bank's last word. -/
theorem witness_HeadOfTheQueueIsWritten :
    ((landed (wr 1 0x0C800000 0) (.page 8380416) (some 1023)).grants .ahead = true) ∧
    ((landed (wr 1 0 0) (.general 0) none).grants .head = true ∧
      (landed (wr 1 0 0) (.general 0) none).board.queue = [entry (wr 1 0 0)]) ∧
    (let s := landed (wr 1 0x0C800000 0) (.page 8388604) none
     s.grants .head = true ∧ 8388604 + 4 ≤ s.store.bankMiB * 1048576) := by decide +kernel

/-- The reset; an own result, a BUSY and a notice at the ring's last position. -/
theorem witness_RingWordsAreWritten :
    (filed (fun f => { f with ring := { f.ring with resetWaits := true } }) base).grants .result = true ∧
    (∀ e ∈ [Entry.mk 255 0 0 0 (some (31, 7)) 0 [] true, Entry.mk 255 0 0 2 (some (31, 7)) 0 [] false,
        Entry.mk 255 0xFFFF 13 2 none 3 [7, 8, 9, 10] false],
      (filed (fun f => { f with ring := { f.ring with waiting := [e] } }) base).grants .result = true ∧
      (filed (fun f => { f with ring := { f.ring with waiting := [e] } }) base).filing.ring.resetWaits = false) := by decide +kernel

/-- Page record 8191, the status record, channel record 24 and other kinds; the rewrite. -/
theorem witness_RecordFlushWritesTheRecord :
    (∀ r ∈ [RecordId.page 8191, .status, .channel 24, .mailbox 63, .route 127, .policy, .document 1023, .block 128],
      (soiled r base).grants .flush = true ∧ (soiled r base).flushUnit = some (.record r)) ∧
    (let s := filed (fun f => { f with mirror := { f.mirror with rewrite := true } }) base
     s.grants .flush = true ∧ s.filing.mirror.rewrite = true) := by decide +kernel

/-- A clean and a dirty head; lines 0 and 255 of the last block of 8 MiB, the last with another block behind it and with none;
one that waits, its entry flushed and its store write done, the other condition met and not. -/
theorem witness_ScrubZeroesTheBlock :
    let s := filed (fun f => { f with blocks := { f.blocks with scrub := [1023] } }) base
    (s.calm = true ∧ s.filing.scrubber = .idle ∧ s.filing.dirty (.block 1023) = false) ∧
    ((soiled (.block 1023) s).calm = true ∧ (soiled (.block 1023) s).filing.dirty (.block 1023) = true) ∧
    (∀ i ∈ [0, 255],
      (filed (fun f => { f with scrubber := .scrubbing 1023 i }) s).grants .scrub = true ∧
      1023 * 8192 + 32 * i + 32 ≤ s.store.bankMiB * 1048576) ∧
    (filed (fun f => { f with blocks := { f.blocks with scrub := [1023, 200] } }) s).filing.blocks.scrub.tail = 200 :: [] ∧
    (let w := filed (fun f => { f with scrubber := .waiting 1023 }) s
     let stored := landed (wr 1 0x0C800000 0) (.page 8388604) none
     let head (t : State) : State := { t with board := stored.board }
     let starved (t : State) : State := { t with board := { t.board with starve := 16 } }
     (∀ t ∈ [soiled (.block 1023) w, starved (head (soiled (.block 1023) w))],
       t.grants .flush = true ∧ t.flushUnit = some (.record (.block 1023)) ∧ t.filing.scrubber = .waiting 1023) ∧
     (∀ t ∈ [head w, head (soiled (.block 1023) w)],
       t.grants .head = true ∧ t.board.head = some { dest := .page 8388604, ahead := none } ∧ 8388604 / 8192 = 1023)) := by
  decide +kernel

/-- Each kind's grant, and the count at 16 before each of kinds 4 to 6. -/
theorem witness_StarvationCount :
    (base.filing.boot.phase ≠ .off ∧ base.board.breset = false) ∧
    (let grants (s : State) (k : Kind) := s.filing.settled = true ∧ s.filing.running = true ∧ s.nextKind = some k ∧
       (match s.grantCommand with
        | some i => nextIs (fun _ => true) (exec i s)
        | none => false) = true
     grants (reading 31 (.plain 0) none base) .read ∧
     grants (landed (wr 1 0x0C800000 0) (.page 8380416) (some 1023)) .ahead ∧
     grants (landed (wr 1 0 0) (.general 0) none) .head ∧
     grants (filed (fun f => { f with ring := { f.ring with resetWaits := true } }) base) .result ∧
     grants (soiled (.page 8191) base) .flush ∧
     grants (filed (fun f => { f with scrubber := .scrubbing 200 0 }) base) .scrub) ∧
    ((atPhase .sizing).startsAt .sizing = true ∧ nextIs (fun _ => true) (exec (.sizingProbe true) (atPhase .sizing)) = true) ∧
    (∀ p ∈ [Phase.headerCheck, .formatting, .walking, .rebuilding, .formatted, .rebuilt],
      (atPhase p).startsAt p = true) ∧
    (let full (s : State) : State := { s with board := { s.board with starve := 16 } }
     (full (filed (fun f => { f with ring := { f.ring with resetWaits := true } }) base)).waits .result = true ∧
     (full (soiled .status base)).waits .flush = true ∧ (full (soiled .status base)).waits .result = false ∧
     (full (filed (fun f => { f with scrubber := .scrubbing 200 0 }) base)).waits .scrub = true) := by decide +kernel

/-- Without power; with power, no words written, and a scrub line next. -/
theorem witness_PowerOnAndPowerLoss :
    State.reset.filing.boot.phase = .off ∧ 1 ≤ 8 ∧ base.filing.boot.phase ≠ .off ∧ base.nextKind ≠ some .flush := by
  decide +kernel

/-- Passing at 1 and at 511; short at 512's end, below 8 MiB; aliased. -/
theorem witness_ProbeFixesTheSize :
    let s (b bank wrap : Nat) : State :=
      { (atPhase .sizing) with
        store := { (atPhase .sizing).store with bankMiB := bank, wrapMiB := wrap }
        filing := { (atPhase .sizing).filing with boot := { (atPhase .sizing).filing.boot with boundary := b } } }
    (∀ x ∈ [((1, 512, 0) : Nat × Nat × Nat), (511, 512, 0), (8, 8, 0), (7, 7, 0), (4, 4, 4)],
      (s x.1 x.2.1 x.2.2).startsAt .sizing = true) := by decide +kernel

/-- A signature of zeros; a good header of 8 and of 512 MiB; one of 7 and of 513 MiB that sums; a
header whose check word fails; a data error. -/
theorem witness_HeaderIsClassified :
    let s (ws : List Word) : State :=
      { (atPhase .headerCheck) with store :=
          { (atPhase .headerCheck).store with page := Memory.write [] 0 (wordsBytes ws) } }
    (atPhase .headerCheck).startsAt .headerCheck = true ∧
    wordAt ((atPhase .headerCheck).store.page.readWords 0 8) 0 ≠ 0x24160001#32 ∧
    (∀ m ∈ [8, 512],
      let ws := (s (sealed 8 [0x24160001#32, argNat m, 1, 5])).store.page.readWords 0 8
      wordAt ws 0 = 0x24160001#32 ∧ checkGood ws = true ∧ 8 ≤ (wordAt ws 1).toNat ∧ (wordAt ws 1).toNat ≤ 512) ∧
    (∀ m ∈ [7, 513],
      let ws := (s (sealed 8 [0x24160001#32, argNat m, 1, 5])).store.page.readWords 0 8
      wordAt ws 0 = 0x24160001#32 ∧ checkGood ws = true ∧ ¬ (8 ≤ (wordAt ws 1).toNat ∧ (wordAt ws 1).toNat ≤ 512)) ∧
    (let ws := (s [0x24160001#32, 8, 1, 5]).store.page.readWords 0 8
     wordAt ws 0 = 0x24160001#32 ∧ checkGood ws = false) := by decide +kernel

theorem witness_FormatBuildsEmptyTables : (atPhase .formatting).startsAt .formatting = true := by decide +kernel

/-- A bank that mirrors a document of two pages and its block 200, mailbox 63, two routing entries of one kind and pattern, the
policy and channel 24's settings beyond their limits. -/
def mirrored : State :=
  let r : Option Route := some { kind := .exact, pattern := [4], mailbox := 9 }
  let f := ((((library .filed base.filing).setBox 63 { Mailbox.fresh with quota := 7 }).setRoute 0 r).setRoute 127 r).setChan 24
    { Channel.fresh with stallTime := 121, gapTime := 4, confirmTime := 0 }
  let s := filed (fun f => { f with boot := { f.boot with recordedMiB := 8 } }) (atPhase .walking)
  let ids : List RecordId :=
    [.document 0, .page 0, .page 1, .mailbox 63, .route 0, .route 127, .policy, .channel 24, .block 200]
  { s with store := s.store.writeSegments (ids.flatMap f.segments) }

/-- The policy, mailbox 63, routes 0 and 127 of one pattern, document 0 and channel 24 read back; each torn, and reported with
a data error. -/
theorem witness_WalkRestoresTheRecords :
    let words (s : State) (a n : Nat) := s.store.page.readWords a n
    let torn := atPhase .walking
    mirrored.startsAt .walking = true ∧ torn.startsAt .walking = true ∧
    (let ws := words mirrored 0x7800 16
     wordSum ws = 0xFFFFFFFF#32 ∧ (wordAt ws 1).toNat < 2 ∧ wordAt ws 2 &&& 0xFFFFFE80#32 = 0 ∧
     10 ≤ (wordAt ws 3).toNat ∧ (wordAt ws 3).toNat ≤ 3600 ∧ wordSum (words torn 0x7800 16) ≠ 0xFFFFFFFF#32) ∧
    ((restoreMailbox (words mirrored 0x6FC0 16)).map Mailbox.quota = some 7 ∧ restoreMailbox (words torn 0x6FC0 16) = none) ∧
    (restoreRoute (words mirrored 0x7000 4) = some (some { kind := .exact, pattern := [4], mailbox := 9 }) ∧
      restoreRoute (words mirrored 0x77F0 4) = some (some { kind := .exact, pattern := [4], mailbox := 9 }) ∧
      restoreRoute (words torn 0x7000 4) = none) ∧
    ((restoreDoc (words mirrored 0x8000 64)).map Doc.state = some .filed ∧ restoreDoc (words torn 0x8000 64) = none) ∧
    (wordAt (words mirrored 0x5780 16) 8 = 121 ∧ wordAt (words mirrored 0x5780 16) 9 = 4) ∧
    (∀ r ∈ [RecordId.policy, .mailbox 0, .route 0, .document 1023, .channel 1], r ∈ [r]) := by decide +kernel

/-- Two pages that read back, the first's chain whole; a page of a FREE slot, one torn, one with a data error; the walk made
and skipped. -/
theorem witness_WalkSettlesThePages :
    let words (s : State) (p : Nat) :=
      s.store.page.readWords (0x48000 + 0x10 * p) 4 ++ s.store.page.readWords (0x68000 + 4 * p) 1
    mirrored.startsAt .walking = true ∧
    ((restorePage (words mirrored 0)).map (fun g => (g.state, g.owner, g.count, g.first)) = some (.closed, 0, 1, some 200)) ∧
    ((restorePage (words mirrored 1)).map (fun g => (g.state, g.owner, g.count)) = some (.closed, 0, 0)) ∧
    (restoreDoc (mirrored.store.page.readWords 0x8000 64)).map Doc.state = some .filed ∧
    bits (wordAt (mirrored.store.page.readWords (0xC0000 + 4 * 200) 1) 0) 0 3 = 4 ∧
    restorePage (words mirrored 8191) = none ∧ RecordId.page 0 ∈ [RecordId.page 0] ∧
    mirrored.filing.boot.skipsWalk = false ∧
    ({ mirrored.filing.boot with cleanFound := true } : Boot).skipsWalk = true := by decide +kernel

/-- Two LANDING pages of one sequence number, the page list as given; their first block lies beyond the bank and leads to
block 200. -/
def twinned (first : Option Nat) : Filing :=
  let g : Page := { Page.freed with state := .landing, owner := 0, seq := 1, first := some 1024, count := 1 }
  let d : Doc := { Doc.freed 0 with state := .receiving, closure := .opened, channel := some 1, arrival := some 3,
                                    pageCount := 1, firstPage := first }
  let s := filed (fun f => { f with boot := { f.boot with recordedMiB := 8 } }) (atPhase .walking)
  (((s.filing.setDoc 0 d).setPage 0 g).setPage 1 g |>.setBlock 1024
    { state := .filed, index := 9, next := some 200 }).setBlock 200 { state := .landing, index := 0, next := none }

/-- Page 1 is kept where the page list reaches it, else page 0; the block beyond the bank is dropped, its link followed. -/
theorem witness_WalkSettlesThePages_twins :
    ∀ x ∈ [((some 1, 1) : Option Nat × Nat), (none, 0)],
      let f := twinned x.1
      let st := base.store.writeSegments
        ([RecordId.document 0, .page 0, .page 1, .block 200].flatMap f.segments ++ [(0xC1000, [0x00C88904])])
      let words (p : Nat) := st.page.readWords (0x48000 + 0x10 * p) 4 ++ st.page.readWords (0x68000 + 4 * p) 1
      let h := f.settlePages f.dir.pages 0
      let w := (Filing.walkPage [] st (h.readBlocks [] st, []) x.2).1
      restoreDoc (st.page.readWords 0x8000 64) = some (f.doc 0) ∧ restorePage (words 0) = some (f.page 0) ∧
      restorePage (words 1) = some (f.page 1) ∧
      (h.page x.2).state = .landing ∧ (h.page (1 - x.2)).state = .free ∧ (h.doc 0).damaged = true ∧
      w.pageChain x.2 = [200] ∧ (w.page x.2).first = some 200 := by decide +kernel

/-- A skipped walk whose CLOSED page has an unreadable first entry: the page loses the block, its one hole is counted, and the
rebuild scrubs the block (R184, R185). -/
theorem test_skippedWalk_cut :
    let s := filed (fun f => { f with boot := { f.boot with cleanFound := true } }) mirrored
    let f := s.filing.readBlocks [.block 200] s.store
    let g := ((library .filed f).setBlock 200 (s.filing.mirrorEntry [.block 200] s.store 200))
    let h := (Filing.walkPage [.block 200] s.store (g, []) 0).1
    s.filing.boot.skipsWalk = true ∧ h.pageChain 0 = [] ∧ (h.page 0).count = 0 ∧ (h.page 0).holes = 1 ∧
    h.rebuildBlocks.block 200 = { state := .scrub, index := 0, next := none } := by decide +kernel

/-- The tables before a rebuild: a RECEIVING document of one LANDING page with block 200, ACTIVE, PENDING and RETRY_WAIT
recipients, and a FILED one with EXPIRED set, one page and block 201. -/
def interrupted : State :=
  let rs : Tbl Recipient :=
    [(0, recipient .active 0 0), (1, recipient .pending 0 0), (2, { recipient .retryWait 0 1 with retryDue := some 9 })]
  filed (fun f =>
    let f1 : Filing := { f with blocks := { f.blocks with
      entries := (List.range 896).map (fun i => (128 + i, BlockEntry.freed)) } }
    ((((((f1.setDoc 0 { plainDoc with state := .receiving, closure := .opened, pageCount := 1, firstPage := some 0,
                                      recipients := rs }).setPage 0
      { Page.freed with state := .landing, owner := 0, seq := 1, first := some 200, count := 1 }).setBlock 200
      { state := .landing, index := 0, next := none }).setDoc 1
      { plainDoc with expired := true, pageCount := 1, firstPage := some 1 }).setPage 1
      { Page.freed with state := .closed, owner := 1, seq := 1, length := 9, first := some 201, count := 1 }).setBlock 201
      { state := .filed, index := 0, next := none })) (atPhase .rebuilding)

/-- A table's record past its last one. -/
theorem find_beyond {α : Type} (t : Tbl α) (n i : Nat) (h : t.all (fun x => decide (x.1 < n)) = true) (hi : n ≤ i) :
    Tbl.find t i = none := by
  induction t with
  | nil => rfl
  | cons x t ih =>
    simp only [List.all_cons, Bool.and_eq_true, decide_eq_true_eq] at h
    rw [Tbl.find, if_neg (by omega), ih h.2]

/-- The tables of `interrupted` are as a walk leaves them. -/
theorem interrupted_walked : interrupted.filing.walked := by
  have doc : ∀ k, 2 ≤ k → interrupted.filing.doc k = Doc.freed 0 := fun k hk => by
    rw [Filing.doc, find_beyond _ 2 k (by decide +kernel) hk]; rfl
  have page : ∀ p, 2 ≤ p → interrupted.filing.page p = Page.freed := fun p hp => by
    rw [Filing.page, find_beyond _ 2 p (by decide +kernel) hp]; rfl
  have low : ∀ k, k = 0 ∨ k = 1 ∨ 2 ≤ k := by omega
  have pages : ∀ k, 2 ≤ k → interrupted.filing.docPages k = [] := fun k hk => by rw [Filing.docPages, doc k hk]; rfl
  refine ⟨by decide +kernel, ?_, ?_, ?_, ?_⟩
  · intro k hk
    rcases low k with rfl | rfl | h
    · exact absurd hk (by decide +kernel)
    · exact absurd hk (by decide +kernel)
    · rw [doc k h]; rfl
  · intro k
    rcases low k with rfl | rfl | h
    · decide +kernel
    · decide +kernel
    · rw [pages k h, doc k h]; exact ⟨List.nodup_nil, rfl, fun p hp => absurd hp (by simp)⟩
  · intro p hp
    rcases low p with rfl | rfl | h
    · decide +kernel
    · decide +kernel
    · rw [page p h] at hp; exact absurd rfl hp
  · intro p q hp hq hpq
    rcases low p with rfl | rfl | h <;> rcases low q with rfl | rfl | h'
    · exact absurd rfl hpq
    · decide +kernel
    · rw [page q h'] at hq; exact absurd rfl hq
    · decide +kernel
    · exact absurd rfl hpq
    · rw [page q h'] at hq; exact absurd rfl hq
    · rw [page p h] at hp; exact absurd rfl hp
    · rw [page p h] at hp; exact absurd rfl hp
    · rw [page p h] at hp; exact absurd rfl hp

/-- A call with a LANDING page that stays, a document that goes; a free block in no chain. -/
theorem witness_RebuildSettlesBlocksAndPages :
    interrupted.startsAt .rebuilding = true ∧ interrupted.filing.walked ∧
    ((interrupted.filing.page 0).state = .landing ∧ ¬ interrupted.filing.goesAtRebuild 0) ∧
    ((interrupted.filing.page 1).state = .closed ∧ interrupted.filing.goesAtRebuild 1) ∧
    (interrupted.filing.block 128).state = .free :=
  ⟨by decide +kernel, interrupted_walked, ⟨by decide +kernel, by unfold Filing.goesAtRebuild; decide +kernel⟩,
    ⟨by decide +kernel, by unfold Filing.goesAtRebuild; decide +kernel⟩, by decide +kernel⟩

/-- Recipients ACTIVE, PENDING and in RETRY_WAIT of a call that stays; a FREE slot. -/
theorem witness_RebuildSettlesDocuments :
    interrupted.startsAt .rebuilding = true ∧ interrupted.filing.walked ∧ (interrupted.filing.doc 1023).state = .free ∧
    ((interrupted.filing.doc 0).recipient 0).state = .active ∧ ((interrupted.filing.doc 0).recipient 1).state = .pending ∧
    ((interrupted.filing.doc 0).recipient 2).state = .retryWait :=
  ⟨by decide +kernel, interrupted_walked, by decide +kernel⟩

theorem witness_RebuildRecounts : (atPhase .rebuilding).startsAt .rebuilding = true := by decide +kernel

theorem witness_ReadyStarts :
    (atPhase .formatted).startsAt .formatted = true ∧ (atPhase .rebuilt).startsAt .rebuilt = true ∧
    base.filing.posting.deferred = [] := by decide +kernel

theorem witness_RecordsSumAndReadBack_sum : RecordId.page 8191 = .layoutHeader ∨ ∃ p, RecordId.page 8191 = .page p :=
  Or.inr ⟨8191, rfl⟩

/-- In every phase from step 01h to READY: reads of general memory, with and without a staged write of the line, of no
memory, of the control window by masters 24, with a write of its own staged, and 25, and of an aperture; their grants; the
drains of each kind of write; after a halt a zone read and a zone write. -/
theorem witness_TrafficBeforeReady :
    let early : List Phase := [.sizing, .headerCheck, .formatting, .formatted, .walking, .rebuilding, .rebuilt]
    (∀ p ∈ early, (atPhase p).filing.settled = true ∧ (stage (wr 24 0x1C 0) (atPhase p)).canTake = true ∧
      aligned 0 .full = true ∧ (atPhase p).board.pwarn = false ∧ (atPhase p).board.breset = false ∧
      (atPhase p).filing.scrubber = .idle) ∧
    ((base.classify 0).general = some 0 ∧ (entry (wr 24 0x1C 0)).cls.general = some 0x1C ∧ 0x1C / 32 = 0 ∧
      base.classify 0x11000000 = .unbacked ∧ base.classify 0x0C0FFFFC = .control 0xFFFFC ∧
      (entry (wr 24 0x1C 0)).write.master.toNat = 24 ∧ (base.classify 0x0F800000).isAperture = true) ∧
    (∀ cls ∈ [AddrClass.plain 0, .control 0xFFFFC],
      let s := reading 24 cls none (atPhase .sizing)
      s.nextKind = some .read ∧ s.board.port = .readHeld (heldOf 24 cls none) ∧ 0xFFFFC + 4 ≤ s.store.bankMiB * 1048576) ∧
    (∀ w ∈ [wr 0 0 0, wr 0 0x11000000 0, wr 1 0x0C800000 0, wr 0 0x0C001000 0, wr 1 0x0C001000 0],
      (stage w (atPhase .walking)).offers (entry w) = true) ∧
    ((entry (wr 1 0x0C800000 0)).cls.isAperture = true ∧ (entry (wr 0 0x0C001000 0)).cls.writeAllowed 0 = true ∧
      (entry (wr 1 0x0C001000 0)).cls.writeAllowed 1 = false) ∧
    (∀ p ∈ [Phase.haltShort, .haltWrapped], (atPhase p).filing.settled = true ∧ (atPhase p).canTake = true ∧
      ((atPhase p).classify 0x0C000000).isZone = true ∧
      (stage (wr 1 0x0C001000 0) (atPhase p)).offers (entry (wr 1 0x0C001000 0)) = true) := by decide +kernel

/-- Asserted on a part whose Scrub Unit scrubs the last line, idles, waits and is paused; withdrawn with a block paused at
line 255, and with none, the chain empty and not; the drain complete; the first change after a clean header write. -/
theorem witness_PowerWarning :
    let warned (s : State) : State := { s with board := { s.board with pwarn := true } }
    (base.calm = true ∧ base.board.pwarn = false) ∧
    (∀ u ∈ [ScrubUnit.scrubbing 1023 255, .idle, .waiting 200, .paused (some (200, 0))],
      (filed (fun f => { f with scrubber := u }) base).calm = true) ∧
    ((warned (filed (fun f => { f with scrubber := .paused (some (200, 255)) }) base)).calm = true) ∧
    ((warned (filed (fun f => { f with scrubber := .paused none }) base)).calm = true ∧ base.filing.blocks.scrub = []) ∧
    ((warned base).grants .flush = true ∧ (warned base).board.queue = [] ∧ (warned base).filing.mirror.flushList = [] ∧
      (warned base).filing.mirror.clean = false ∧ (warned base).filing.mirror.rewrite = false) ∧
    (let s := filed (fun f => { f with scrubber := .paused none, blocks := { f.blocks with scrub := [1023, 200] } }) base
     (warned s).calm = true ∧ (warned s).filing.blocks.scrub = 1023 :: [200]) ∧
    (let s := warned (filed (fun f => { f with mirror := { f.mirror with clean := true }
                                               clock := { f.clock with saveOwed := true } }) base)
     nextIs (fun t => t.filing.dirty .layoutHeader && !s.filing.dirty .layoutHeader) (exec .clockSave s) = true) := by
  decide +kernel

theorem witness_BresetClearsTheBoardSide :
    base.calm = true ∧ base.board.breset = false ∧ (sending 0 1 0 0).calm = true := by decide +kernel

/-- Channel 1 in PAGE and channel 24 in GAP on two documents, channel 2 in SEND on a third, a fourth that aperture 7 shows. -/
def busyBoard (expired : Bool) : State :=
  filed (fun f =>
    ((((((library .receiving f).setDoc 1 { plainDoc with state := .receiving, closure := .opened }).setDoc 2
      { plainDoc with pageCount := 1, firstPage := some 5, recipients := [(3, recipient .active 0 2)] }).setDoc 1023
      { plainDoc with gen := 63, expired := expired }).setChan 1 inPage).setChan 24 { inGap with doc := some 64 }).setChan 2
      { inSend 5 1 with bound := some (2, 3) } |>.setBinding 7 (some { doc := 65535, seq := 1, page := 6, viewer := 0 })) base

/-- Its calls, send and bound document, each on a document of its own: the calls of channels 1 and 24, a document with pages
and one without; the fourth goes, and it stays. -/
theorem witness_BresetClearsTheBoardSide_calls :
    (∀ e ∈ [true, false], (busyBoard e).calm = true ∧ (busyBoard e).board.breset = false ∧
      (busyBoard e).filing.binding 7 = some { doc := 65535, seq := 1, page := 6, viewer := 0 } ∧
      (busyBoard e).filing.docId 1023 = 65535 ∧ ((busyBoard e).filing.doc 1023).expired = e ∧
      nextIs (fun t => (t.filing.doc 1023 == Doc.freed 0) == e &&
        (t.filing.doc 0).closure == .callEnded && t.filing.doc 1 == Doc.freed 1 &&
        ((t.filing.doc 2).recipient 3).state == .ready && ((t.filing.doc 2).recipient 3).attempts == 2)
        (exec .breset (busyBoard e)) = true) ∧
    (let f := (busyBoard true).filing
     (f.chan 1).state = .page ∧ (f.chan 1).doc = some 0 ∧ (f.chan 1).openPage = some 0 ∧ f.docPages 0 = [0, 1] ∧
     (f.chan 24).state = .gap ∧ (f.chan 24).doc = some 64 ∧ f.docPages 1 = [] ∧ (f.chan 2).bound = some (2, 3) ∧
     (∀ e ∈ List.range 25, e ≠ 1 → (f.chan e).doc ≠ some 0 ∧ (f.chan e).openPage = none ∧
       ∀ i < 4, (f.chan e).bound ≠ some (0, i)) ∧
     (∀ j ∈ [1, 2, 1023], ∀ p ∈ f.docPages j, p ∉ f.docPages 0)) := by decide +kernel

/-- A RECEIVING document whose first page aperture 7 shows: it goes, and it stays. -/
theorem witness_BresetClearsTheBoardSide_shownCall :
    ∀ e ∈ [true, false],
      let s := filed (fun f => (shownTo5 7 e f).setChan 24 inGap |>.setDoc 0
        { (shownTo5 7 e f).doc 0 with state := .receiving, closure := .opened }) base
      s.calm = true ∧ (s.filing.chan 24).doc = some 0 ∧ (s.filing.doc 0).pageCount = 2 ∧ (s.filing.doc 0).gen < 64 ∧
      s.filing.binding 7 = some { doc := 0, seq := 1, page := 0, viewer := 5 } ∧ s.filing.docId 0 = 0 ∧
      (s.filing.doc 0).hold = false ∧ (s.filing.doc 0).expired = e ∧ (s.filing.doc 0).anyLive = false ∧
      nextIs (fun t => (t.filing.doc 0 == Doc.freed 1) == e) (exec .breset s) = true := by decide +kernel

/-- The same with the last identifier: slot 1023 at generation 63, page record 8191, channel 24 in PAGE. -/
theorem witness_BresetClearsTheBoardSide_lastSlot :
    ∀ e ∈ [true, false],
      let s := filed (fun f => (((f.setDoc 1023
          { plainDoc with state := .receiving, closure := .opened, gen := 63, pageCount := 1, firstPage := some 8191
                          expired := e }).setPage 8191 { Page.freed with state := .landing, owner := 1023, seq := 1 }).setChan 24
          { inPage with doc := some 65535, openPage := some 8191 }).setBinding 7
            (some { doc := 65535, seq := 1, page := 8191, viewer := 0 })) base
      s.calm = true ∧ s.board.breset = false ∧ (s.filing.chan 24).state = .page ∧ (s.filing.chan 24).doc = some 65535 ∧
      slotOf 65535 = 1023 ∧ (s.filing.doc 1023).gen = 63 ∧ s.filing.docPages 1023 = [8191] ∧
      s.filing.binding 7 = some { doc := s.filing.docId 1023, seq := 1, page := 8191, viewer := 0 } ∧
      (s.filing.doc 1023).hold = false ∧ (s.filing.doc 1023).expired = e ∧ (s.filing.doc 1023).anyLive = false ∧
      nextIs (fun t => (t.filing.doc 1023 == Doc.freed 0) == e && ((t.filing.page 8191).state == .closed) == !e)
        (exec .breset s) = true := by decide +kernel

/-- The save count below 5,999 and at it; no power and the halt at the straps; the prescaler's ends for CLKSEL 0 to 2, also
before READY. -/
theorem witness_TickCounts :
    (∀ n ∈ [0, 5998, 5999],
      (filed (fun f => { f with clock := { f.clock with saveCount := n } }) base).calm = true) ∧
    (∀ p ∈ [Phase.off, .haltStraps],
      (atPhase p).filing.boot.phase = p ∧ (atPhase p).pending = [] ∧ (atPhase p).filing.settled = true) ∧
    (∀ x ∈ [(0, 250000), (1, 400000), (2, 500000)], ∀ n ∈ [0, x.2 - 2, x.2 - 1], ∀ p ∈ [Phase.sizing, .running],
      let s := filed (fun f => { f with clock := { f.clock with prescaler := n } })
        { atPhase p with board := { base.board with straps := { base.board.straps with clksel := x.1 } } }
      s.pending = [] ∧ s.board.straps.clksel = x.1 ∧ s.filing.boot.phase ≠ .off ∧ s.filing.boot.phase ≠ .haltStraps ∧
      (s.filing.clock.prescaler + 1 < x.2 ∨ s.filing.clock.prescaler + 1 = x.2)) := by decide +kernel

/-- PAGE on channel 1, GAP on channel 24, SEND with 3 attempts and with 4. -/
theorem witness_ChannelExpiriesEndCalls :
    (let ch : Channel := { inPage with timer := some 0 }
     (((channel 1 ch base).filing.chan 1).timer = some 0) ∧ ch.state = .page ∧ ch.openPage = some 0 ∧ ch.doc = some 0) ∧
    (let ch : Channel := { inGap with timer := some 0 }
     (((channel 24 ch base).filing.chan 24).timer = some 0) ∧ ch.state = .gap ∧ ch.doc = some 0) ∧
    (let s := channel 1 { inSend 0 1 with timer := some 0 } (sending 0 1 0 3)
     (s.filing.chan 1).timer = some 0 ∧ (s.filing.chan 1).state = .send ∧ (s.filing.chan 1).bound = some (0, 0) ∧
     ((s.filing.doc 0).recipient 0).attempts < 4) ∧
    (let s := channel 1 { inSend 0 1 with timer := some 0 } (sending 0 1 0 4)
     (s.filing.chan 1).timer = some 0 ∧ (s.filing.chan 1).state = .send ∧ (s.filing.chan 1).bound = some (0, 0) ∧
     ((s.filing.doc 0).recipient 0).attempts = 4) := by decide +kernel

/-- A due RETAIN of a FILED document that nothing holds, of one on HOLD, and of a FREE slot. -/
theorem witness_TickEventsAct_retain :
    let s (d : Doc) := filed (fun f => { (f.setDoc 1023 d) with clock := { f.clock with
      now := 7, examining := true, deadlines := [{ kind := .retain, slot := 1023, gen := 63, due := 7 }] } }) base
    ∀ x ∈ [(({ plainDoc with gen := 63 }, true) : Doc × Bool), ({ plainDoc with gen := 63, hold := true }, false),
        (Doc.freed 63, false)],
      (s x.1).filing.clock.examining = true ∧ due (s x.1).filing.now 7 = true ∧
      ((s x.1).filing.doc 1023).gen = 63 ∧ (s x.1).filing.bound 65535 = false ∧
      nextIs (fun t => (t.filing.doc 1023 == Doc.freed 0) == x.2) (exec .retainDeadline (s x.1)) = true := by decide +kernel

/-- An entry due at T itself and one 2^31 − 1 ticks past due, of each kind; the save owed; the guard at 0. -/
theorem witness_TickEventsAct :
    (∀ n ∈ [7, 0x80000008], ∀ k ∈ [DeadlineKind.retain, .retry 3],
      let s := filed (fun f => { f with clock := { f.clock with
        now := 7, examining := true, deadlines := [{ kind := k, slot := 0, gen := 0, due := ticks n }] } }) base
      s.filing.clock.examining = true ∧ due s.filing.now (ticks n) = true) ∧
    (filed (fun f => { f with clock := { f.clock with saveOwed := true } }) base).filing.clock.saveOwed = true ∧
    (filed (fun f => { f with mirror := { f.mirror with guarded := some (.status, 0) } }) base).filing.mirror.guarded =
      some (.status, 0) := by decide +kernel

/-- A document with every field at the end of its range and a recipient in places 0 and 3; routing entries of 1 and 16 digits;
the last generation. -/
theorem witness_RecordsSumAndReadBack :
    let r : Recipient := { state := .retryWait, cls := .bulk, target := List.replicate 20 11, attempts := 5, nextPage := 999,
                           resend := 3, retryDue := some 0xFFFFFFFF, channel := some 24 }
    let d : Doc := { state := .review, closure := .recovered, gen := 63, mailbox := 63, channel := some 24,
                     arrival := some 0xFFFFFFFF, closed := some 0, retention := some 0xFFFFFFFF, hold := true, expired := true,
                     rerouted := true, damaged := true, pageCount := 4294967295, firstPage := some 8191,
                     blockTotal := 4294967295, digits := List.replicate 16 10, caller := List.replicate 20 0xFF,
                     recipients := [(0, recipient .pending 0 0), (3, r)] }
    (d.gen < 64 ∧ d.mailbox < 64 ∧ d.arrival.isSome = true ∧ (d.closed.isSome = true ↔ d.state ≠ .receiving) ∧
      d.pageCount < 2 ^ 32 ∧ d.blockTotal < 2 ^ 32 ∧ d.digits.length ≤ 16 ∧ d.caller.length ≤ 20 ∧
      (d.recipients.map (fun x => x.1)).Pairwise (fun i j => i < j)) ∧
    (∀ x ∈ d.recipients, x.1 < 4 ∧ x.2.state ≠ .empty ∧ 1 ≤ x.2.target.length ∧ x.2.target.length ≤ 20 ∧ x.2.attempts ≤ 5 ∧
      1 ≤ x.2.nextPage ∧ x.2.nextPage ≤ 999 ∧ x.2.resend ≤ 3 ∧ (x.2.retryDue.isSome = true ↔ x.2.state = .retryWait)) ∧
    restoreDoc d.words = some d ∧ restoreDoc (Doc.freed 63).words = some (Doc.freed 63) ∧
    (∀ n ∈ [1, 16], let q : Route := { kind := .leading, pattern := List.replicate n 11, mailbox := 63 }
      restoreRoute (routeWords (some q)) = some (some q)) := by decide +kernel

/-- Page record 8191's kinds of state at the ends of their ranges. -/
theorem witness_RecordsSumAndReadBack_pages :
    let g : Page := { Page.freed with state := .closed, owner := 1023, seq := 999, length := 1048448, first := some 65535,
                                      count := 128, holes := 0, closed := some 0xFFFFFFFF, next := some 8191 }
    let h : Page := { Page.freed with state := .landing, owner := 0, seq := 1 }
    (g.state ≠ .free ∧ g.owner < 1024 ∧ 1 ≤ g.seq ∧ g.seq ≤ 999 ∧ g.count ≤ 128 ∧ g.holes ≤ 128 ∧
      g.length ≤ 1048448 ∧ g.closed.isSome = true ∧ restorePage g.words = some g) ∧
    (h.state ≠ .free ∧ h.length = 0 ∧ h.closed = none ∧ h.first = none ∧ restorePage h.words = some h) := by
  decide +kernel

/-- A mailbox with every field at the end of its range. -/
theorem witness_RecordsSumAndReadBack_mailboxes :
    let b : Mailbox := { shut := true, quota := 65535, usage := 4294967295, overQuota := true, group := 15, excludes := 0xFFFF,
                         cls := .bulk, hours := 4320, strict := true, defaults := [List.replicate 20 11, [0]] }
    (b.quota ≤ 65535 ∧ b.usage < 2 ^ 32 ∧ b.group < 16 ∧ b.hours ≤ 4320 ∧ b.defaults.length ≤ 2) ∧
    (∀ t ∈ b.defaults, 1 ≤ t.length ∧ t.length ≤ 20) ∧ restoreMailbox b.words = some b := by decide +kernel

/-- Table 41 and R190: a region without a channel or aperture shows FFh there. -/
theorem test_refused_region_detail :
    regionDetail (.control 0x1000) = 0x0000FF00#32 ∧ regionDetail (.landing 5 0) = 0x00000501#32 ∧
    regionDetail (.review 2 0x4650) = 0x00000203#32 := by decide

end Sys2Proof.Tests
end

section
/-! PROOFS. What one step can do to the board path and the banks, said once (`State.Moves`). -/

namespace Sys2Proof.Machine

/-! ## The Start-up Controller's state through drains -/

theorem Filing.runRequest_boot (f : Filing) (s tag : Nat) (k : RequestKind) (ops : List Word) :
    (f.runRequest s tag k ops).boot = f.boot := by
  unfold Filing.runRequest
  dsimp only
  split_ifs
  · simpa using (execute_grows k ops f).phase
  · exact (execute_grows k ops f).phase

theorem Filing.takeRequest_boot (f : Filing) (s : Nat) (w : Word) (k : RequestKind) :
    (f.takeRequest s w k).boot = f.boot := by
  unfold Filing.takeRequest
  dsimp only
  split_ifs <;> simp [Filing.runRequest_boot]

theorem Filing.refusePost_boot (f : Filing) (s : Nat) (w : Word) (c : ResultCode) (a : List Word) :
    (f.refusePost s w c a).boot = f.boot := by
  unfold Filing.refusePost
  dsimp only
  split_ifs <;> simp

theorem Filing.busyPost_boot (f : Filing) (s : Nat) (w : Word) : (f.busyPost s w).boot = f.boot := by
  unfold Filing.busyPost
  split_ifs <;> simp

theorem Filing.narrowPost_boot (f : Filing) (s : Nat) : (f.narrowPost s).boot = f.boot := by
  unfold Filing.narrowPost
  dsimp only
  split <;> simp

theorem Filing.fillOne_boot (f : Filing) : f.fillOne.boot = f.boot := by
  unfold Filing.fillOne Filing.fillDeferred
  split
  · simp [Filing.produceNotice]
  · split
    · rfl
    · dsimp only
      split <;> simp [Filing.runRequest_boot]

theorem Filing.fillSteps_boot (n : Nat) (f : Filing) : (Filing.fillSteps n f).boot = f.boot := by
  induction n generalizing f with
  | zero => rfl
  | succ n ih =>
    unfold Filing.fillSteps
    split_ifs
    · rfl
    · rw [ih, f.fillOne_boot]

theorem Filing.consumerWord_boot (f : Filing) (c : BitVec 8) : (f.consumerWord c).boot = f.boot := by
  unfold Filing.consumerWord
  dsimp only
  split_ifs
  · rfl
  · simp [Filing.fill, Filing.fillSteps_boot]

theorem Filing.captureWrite_boot (f : Filing) (x : Staged) : (f.captureWrite x).boot = f.boot := by
  simp [Filing.captureWrite]

theorem Filing.openAs_boot (f : Filing) (c : Nat) : (f.openAs c).boot = f.boot := by
  unfold Filing.openAs Filing.openIdle Filing.refuseIntake
  split <;> (try split) <;> simp

theorem Filing.openCall_boot (f : Filing) (c : Nat) : (f.openCall c).boot = f.boot := by
  unfold Filing.openCall
  split <;> simp [Filing.openAs_boot]

theorem Filing.endCall_boot (f : Filing) (c : Nat) : (f.endCall c).boot = f.boot := by
  unfold Filing.endCall
  split <;> simp

theorem Filing.placeData_boot (f : Filing) (c o w : Nat) : (f.placeData c o w).filing.boot = f.boot := by
  unfold Filing.placeData Placed.discarded Filing.landed
  dsimp only
  split
  · split
    · simp
    · split_ifs
      · split
        · next g n ha =>
          obtain ⟨_, _, _, _, _, _, _, _, _, _, _, hb, _⟩ := Filing.allocate_some _ ha
          simp [hb]
        · rfl
      · simp
  · rfl

theorem Filing.startPage_boot {f g : Filing} {c : Nat} (h : f.startPage c = some g) : g.boot = f.boot := by
  unfold Filing.startPage at h
  dsimp only at h
  split at h
  · split_ifs at h
    cases h
    split <;> simp
  · cases h

theorem Filing.dataWrite_boot (f : Filing) (c o w : Nat) : (f.dataWrite c o w).filing.boot = f.boot := by
  unfold Filing.dataWrite
  split
  · split
    · next hg => rw [Filing.placeData_boot, Filing.startPage_boot hg]
    · simp [Placed.discarded]
  · exact f.placeData_boot c o w
  all_goals simp [Placed.discarded]

theorem Filing.trailerWord_boot (f : Filing) (c : Nat) (full : Bool) (w : Word) :
    (f.trailerWord c full w).boot = f.boot := by
  unfold Filing.trailerWord Filing.trailerClose
  dsimp only
  split <;> (try split_ifs) <;> simp

theorem Filing.failAttempt_boot (f : Filing) (c : Nat) : (f.failAttempt c).boot = f.boot := by
  unfold Filing.failAttempt
  dsimp only
  split
  · rfl
  · split_ifs <;> simp

theorem Filing.confirmOk_boot (f : Filing) (c : Nat) : (f.confirmOk c).boot = f.boot := by
  unfold Filing.confirmOk
  dsimp only
  split
  · split <;> simp
  · rfl

theorem Filing.confirmResend_boot (f : Filing) (c : Nat) : (f.confirmResend c).boot = f.boot := by
  unfold Filing.confirmResend
  dsimp only
  split
  · rfl
  · split_ifs <;> simp [Filing.failAttempt_boot]

theorem Filing.confirmStray_boot (f : Filing) (c : Nat) : (f.confirmStray c).boot = f.boot := by
  unfold Filing.confirmStray
  split <;> simp

/-! ## The moves of the board path -/

/-- What command i can do to the board path and the banks: the queue stays, a write joins it, its head drains, its head's
store write is made, or BRESET or a power loss clears it (R1, R9, R10, R15 to R17, R32). -/
inductive State.Moves (i : Instr) (s : State) : State → Prop
  | stays {t : State} (hq : t.board.queue = s.board.queue) (hh : t.board.head.isSome = true → s.board.head.isSome = true)
      (hs : s.board.starve ≤ 16 → t.board.starve ≤ 16) (hc : s.store.canonical = true → t.store.canonical = true) :
      Moves i s t
  | joins {t : State} (x : Staged) (hx : s.board.queue.length < 16) (hq : t.board.queue = s.board.queue ++ [x])
      (hh : t.board.head = s.board.head) (hs : t.board.starve = s.board.starve) (hc : t.store = s.store) : Moves i s t
  | drains (f : Filing) (d : Option Dest) (a : Option Nat) (hh : s.board.head = none) (hq : s.board.queue ≠ [])
      (hb : f.boot = s.settle.filing.boot) : Moves i s (State.drained d a { s with filing := f })
  | writes (w : HeadWork) (bs : List Byte) (hq : s.board.queue ≠ []) (hk : s.settle.nextKind = some .head) :
      Moves i s ((s.settle.granted .head).storeHead w bs)
  | clears {t : State} (hi : i = .breset ∨ ∃ n, i = .powerLoss n) (hq : t.board.queue = []) (hh : t.board.head = none)
      (hs : t.board.starve = 0) (hc : s.store.canonical = true → t.store.canonical = true) : Moves i s t

section
variable {i : Instr} {s t : State}

/-- A command that leaves board path and banks alone. -/
theorem State.Moves.same (hb : t.board = s.board) (hc : t.store = s.store) : s.Moves i t :=
  .stays (by rw [hb]) (by rw [hb]; exact id) (by rw [hb]; exact id) (by rw [hc]; exact id)

theorem State.Moves.settle : s.Moves i s.settle := .same (by simp) (by simp)

theorem Store.canonical_iff (st : Store) : st.canonical = true ↔ st.general.wf = true ∧ st.page.wf = true := by
  simp [Store.canonical]

theorem Store.writeSegments_canonical {st : Store} (segs : List (Nat × List Word)) (h : st.canonical = true) :
    (st.writeSegments segs).canonical = true := by
  rw [Store.canonical_iff] at h ⊢
  exact ⟨h.1, Store.writeSegments_wf segs st h.2⟩

theorem State.writeRecord_canonical (r : RecordId) (h : s.store.canonical = true) :
    (s.writeRecord r).store.canonical = true :=
  Store.writeSegments_canonical _ h

/-- A drain moves nothing, or drains the head. -/
theorem State.drainAs_moves {row : DrainRow} {act : Staged → State → State} (h : s.drainAs row act = .next t)
    (ha : ∀ x u, ∃ f d a, act x u = State.drained d a { u with filing := f } ∧ f.boot = u.filing.boot) : s.Moves i t := by
  rcases s.drainAs_cases row act with e | ⟨x, q, hq, hh, -, e⟩ <;> rw [e] at h <;> cases h
  · exact .settle
  · obtain ⟨f, d, a, hact, hb⟩ := ha x s.settle
    have hs : ({ s.settle with filing := f } : State) = { s with filing := f } := by simp [State.settle]
    rw [hact, hs]
    exact .drains f d a hh (by simp [hq]) hb

/-- A drain whose owner does `op` and whose store destination is that of Table 7. -/
theorem State.drainTo_moves {row : DrainRow} {op : Staged → State → Filing}
    (h : s.drainAs row (fun x u => u.drainTo x (op x u)) = .next t) (hb : ∀ x u, (op x u).boot = u.filing.boot) :
    s.Moves i t :=
  State.drainAs_moves h fun x u => ⟨_, _, _, rfl, hb x u⟩

theorem State.postAs_moves {k : RequestKind} (h : s.postAs k = .next t) : s.Moves i t :=
  State.drainTo_moves h fun _ _ => Filing.takeRequest_boot ..

/-- A read at the port moves nothing of the queue. -/
theorem State.readAs_moves {row : ReadRow} {act : AddrClass → State → State} {m : BitVec 5} {addr : Word} {w : Width}
    (h : s.readAs row act m addr w = .next t)
    (ha : ∀ c u, (act c u).board.queue = u.board.queue ∧ (act c u).board.head = u.board.head ∧
      (act c u).board.starve = u.board.starve ∧ (act c u).store = u.store) : s.Moves i t := by
  unfold State.readAs at h
  dsimp only at h
  split_ifs at h <;> cases h
  · obtain ⟨hq, hh, hs, hc⟩ := ha (s.settle.classify addr) s.settle
    exact .stays (by simpa using hq) (by simp [hh]) (by simp [hs]) (by simp [hc])
  · exact .settle

/-- A grant moves nothing, or moves as its unit does. -/
theorem State.grantAs_moves {k : Kind} {act : State → Answer} (h : s.grantAs k act = .next t)
    (ha : s.settle.nextKind = some k → act (s.settle.granted k) = .next t → s.Moves i t) : s.Moves i t := by
  rcases s.grantAs_cases k act with e | ⟨hk, e⟩ <;> rw [e] at h
  · cases h; exact .settle
  · exact ha hk h

/-- A granted unit that keeps the queue and the banks' canonical form. -/
theorem State.Moves.granted {k : Kind} (hk : s.settle.nextKind = some k) (hq : t.board.queue = s.board.queue)
    (hh : t.board.head.isSome = true → s.board.head.isSome = true)
    (hs : t.board.starve = (s.settle.granted k).board.starve)
    (hc : s.store.canonical = true → t.store.canonical = true) : s.Moves i t :=
  .stays hq hh (fun _ => by rw [hs]; exact State.granted_starve_le hk) hc

theorem State.startUnit_moves {p : Phase → Bool} {act : State → State} (h : s.startUnit p act = .next t)
    (ha : ∀ u, (act u).board = u.board ∧ (u.store.canonical = true → (act u).store.canonical = true)) : s.Moves i t := by
  rcases s.startUnit_cases p act with e | ⟨-, hk, e⟩ <;> rw [e] at h <;> cases h
  · exact .same rfl rfl
  · obtain ⟨hb, hc⟩ := ha (s.granted .flush)
    exact .stays (by rw [hb]; rfl) (by rw [hb]; exact id) (fun _ => by rw [hb]; exact State.granted_starve_le hk) hc

theorem State.channelEvent_moves {st : ChannelState} {c : Nat} {act : Filing → Filing}
    (h : s.channelEvent st c act = .next t) : s.Moves i t := by
  unfold State.channelEvent at h
  split_ifs at h <;> cases h <;> exact .same rfl rfl


/-! ### Start-up and power -/

theorem execPowerOn_moves {z : BitVec 4} {g : BitVec 6} {c : BitVec 5} {k : BitVec 2} {b w : Nat}
    (h : execPowerOn z g c k b w s = .next t) : s.Moves i t := by
  unfold execPowerOn at h
  dsimp only at h
  split_ifs at h <;> cases h
  · exact .same rfl rfl
  all_goals exact .stays rfl id id id

theorem State.headerCheck_frame (e : Bool) (s : State) : (s.headerCheck e).board = s.board ∧
    (s.store.canonical = true → (s.headerCheck e).store.canonical = true) := by
  unfold State.headerCheck
  dsimp only
  split_ifs
  · exact ⟨rfl, id⟩
  · exact ⟨rfl, Store.writeSegments_canonical _⟩

theorem State.freshFormat_frame (s : State) : s.freshFormat.board = s.board ∧
    (s.store.canonical = true → s.freshFormat.store.canonical = true) := by
  unfold State.freshFormat
  exact ⟨rfl, Store.writeSegments_canonical _⟩

theorem State.rebuild_frame (s : State) : s.rebuild.board = s.board ∧
    (s.store.canonical = true → s.rebuild.store.canonical = true) := by
  unfold State.rebuild
  exact ⟨rfl, Store.writeSegments_canonical _⟩

theorem State.ready_frame (s : State) : s.ready.board = s.board ∧
    (s.store.canonical = true → s.ready.store.canonical = true) := by
  unfold State.ready
  exact ⟨by simp, State.writeRecord_canonical .status (s := { s with filing := s.filing.begin })⟩

theorem execPwarnAssert_moves (h : execPwarnAssert s = .next t) : s.Moves i t := by
  unfold execPwarnAssert at h
  dsimp only at h
  split_ifs at h <;> cases h
  · exact .same rfl rfl
  all_goals exact .stays (by simp) (by simp) (by simp) (by simp)

theorem State.resumeScrub_frame (s : State) : s.resumeScrub.board = s.board ∧ s.resumeScrub.store = s.store := by
  unfold State.resumeScrub
  split <;> exact ⟨rfl, rfl⟩

theorem execPwarnWithdraw_moves (h : execPwarnWithdraw s = .next t) : s.Moves i t := by
  unfold execPwarnWithdraw at h
  dsimp only at h
  split_ifs at h <;> obtain rfl := Host.Outcome.next.inj h
  · exact .same rfl rfl
  · exact .stays (by simp [State.resumeScrub_frame]) (by simp [State.resumeScrub_frame])
      (by simp [State.resumeScrub_frame]) (by simp [State.resumeScrub_frame])
  · exact .stays (by simp) (by simp) (by simp) (by simp)

theorem execBreset_moves (h : execBreset s = .next t) : s.Moves .breset t := by
  unfold execBreset at h
  dsimp only at h
  split_ifs at h <;> obtain rfl := Host.Outcome.next.inj h
  · exact .same rfl rfl
  all_goals exact .clears (.inl rfl) (by simp) (by simp) (by simp) (by simp)

theorem execPowerLoss_moves {n : Nat} (h : execPowerLoss n s = .next t) : s.Moves (.powerLoss n) t := by
  unfold execPowerLoss at h
  split_ifs at h <;> cases h
  · exact .same rfl rfl
  · refine .clears (.inr ⟨n, rfl⟩) rfl rfl rfl fun hc => ?_
    rw [Store.canonical_iff] at hc ⊢
    exact ⟨Memory.wf_nil, Store.writeSegments_wf _ _ hc.2⟩

/-! ### Board writes -/

theorem execWriteAccept_moves {m : BitVec 5} {a : Word} {w : Width} {d : Word}
    (h : execWriteAccept m a w d s = .next t) : s.Moves i t := by
  unfold execWriteAccept at h
  split_ifs at h with _ hc <;> cases h
  · simp only [Bool.and_eq_true, Board.hasSpace, decide_eq_true_eq] at hc
    exact .joins _ hc.2 rfl rfl rfl rfl
  · exact .same rfl rfl

theorem execWriteQueueFull_moves {m : BitVec 5} {a : Word} {w : Width} {d : Word}
    (h : execWriteQueueFull m a w d s = .next t) : s.Moves i t := by
  unfold execWriteQueueFull at h
  split_ifs at h <;> cases h
  · exact .stays rfl id id id
  · exact .same rfl rfl

theorem execHeldWriteAccept_moves (h : execHeldWriteAccept s = .next t) : s.Moves i t := by
  unfold execHeldWriteAccept at h
  split at h
  · split_ifs at h with hc <;> cases h
    · exact .joins _ (of_decide_eq_true hc) rfl rfl rfl rfl
    · exact .same rfl rfl
  · cases h; exact .same rfl rfl

/-! ### Grants -/

theorem State.onBank_next {a : Option Nat} {n : Nat} {act : State → State} (h : s.onBank a n act = .next t) :
    t = act s := by
  unfold State.onBank at h
  split at h
  · split_ifs at h; cases h; rfl
  · cases h; rfl

theorem State.flushRecord_canonical (r : RecordId) (h : s.store.canonical = true) :
    (s.flushRecord r).store.canonical = true := by
  simp only [State.flushRecord, State.recordWritten_store]
  exact Store.writeSegments_canonical _ h

theorem State.flushRecord_queue (r : RecordId) : (s.flushRecord r).board.queue = s.board.queue := by
  simp [State.flushRecord]
theorem State.flushRecord_head (r : RecordId) : (s.flushRecord r).board.head = s.board.head := by
  simp [State.flushRecord]
theorem State.flushRecord_starve (r : RecordId) : (s.flushRecord r).board.starve = s.board.starve := by
  simp [State.flushRecord]

theorem execBoardReadGrant_moves {e : Option Word} (h : execBoardReadGrant e s = .next t) : s.Moves i t := by
  refine State.grantAs_moves h fun hk ha => ?_
  split at ha
  · rw [State.onBank_next ha]
    exact .granted hk (by simp [State.serveRead]) (by simp [State.serveRead]) (by simp [State.serveRead])
      (by simp [State.serveRead])
  · cases ha
    exact .granted hk (by simp) (by simp) rfl (by simp)

theorem execWriteAheadWrite_moves (h : execWriteAheadWrite s = .next t) : s.Moves i t := by
  refine State.grantAs_moves h fun hk ha => ?_
  split at ha <;> cases ha
  · refine .granted hk (by simp [State.writeAhead]) (by simp [State.writeAhead]) (by simp [State.writeAhead]) ?_
    simp only [State.writeAhead, State.recordWritten_store]
    exact fun hc => Store.writeSegments_canonical _ (by simpa using hc)
  · exact .granted hk (by simp) (by simp) rfl (by simp)

theorem execHeadStoreWrite_moves (h : execHeadStoreWrite s = .next t) : s.Moves i t := by
  refine State.grantAs_moves h fun hk ha => ?_
  split at ha
  · next hq =>
    rw [State.onBank_next ha]
    exact .writes _ _ (by simp_all) hk
  · cases ha
    exact .granted hk (by simp) (by simp) rfl (by simp)

theorem execConsumerWordReset_moves (h : execConsumerWordReset s = .next t) : s.Moves i t := by
  refine State.grantAs_moves h fun hk ha => ?_
  split_ifs at ha <;> cases ha
  · exact .granted hk (by simp [State.writeConsumerZero]) (by simp [State.writeConsumerZero]) rfl
      (fun hc => Store.writeSegments_canonical _ (by simpa using hc))
  · exact .settle

theorem execResultEntryWrite_moves (h : execResultEntryWrite s = .next t) : s.Moves i t := by
  refine State.grantAs_moves h fun hk ha => ?_
  split at ha <;> cases ha
  · exact .granted hk (by simp [State.writeEntry]) (by simp [State.writeEntry]) rfl
      (fun hc => Store.writeSegments_canonical _ (by simpa using hc))
  · exact .settle

theorem execRecordFlush_moves (h : execRecordFlush s = .next t) : s.Moves i t := by
  refine State.grantAs_moves h fun hk ha => ?_
  split at ha <;> cases ha
  · exact .granted hk (by simp [State.rewriteHeader, State.flushRecord_queue])
      (by simp [State.rewriteHeader, State.flushRecord_head]) (by simp [State.rewriteHeader, State.flushRecord_starve])
      (fun hc => State.flushRecord_canonical _ (by simpa using hc))
  · exact .granted hk (by simp [State.flushRecord_queue]) (by simp [State.flushRecord_head])
      (by simp [State.flushRecord_starve]) (fun hc => State.flushRecord_canonical _ (by simpa using hc))
  · exact .settle

theorem execCleanHeaderWrite_moves (h : execCleanHeaderWrite s = .next t) : s.Moves i t := by
  unfold execCleanHeaderWrite at h
  dsimp only at h
  split_ifs at h with hc <;> cases h
  · simp only [Bool.and_eq_true, beq_iff_eq] at hc
    exact .granted hc.1.2 (by simp [State.cleanHeader, State.flushRecord_queue])
      (by simp [State.cleanHeader, State.flushRecord_head]) (by simp [State.cleanHeader, State.flushRecord_starve])
      (fun hs => State.flushRecord_canonical _ (by simpa using hs))
  · exact .settle

theorem execScrubBegin_moves (h : execScrubBegin s = .next t) : s.Moves i t := by
  unfold execScrubBegin at h
  dsimp only at h
  split at h
  · split_ifs at h <;> cases h <;> exact .same (by simp) (by simp)
  · split_ifs at h <;> cases h <;> exact .same (by simp) (by simp)
  · cases h; exact .settle

theorem State.scrubLine_frame (n l : Nat) (s : State) : (s.scrubLine n l).board = s.board ∧
    (s.store.canonical = true → (s.scrubLine n l).store.canonical = true) := by
  have hc (m : Memory) (a : Nat) (bs : List Byte) (h : s.store.canonical = true) (hm : m = s.store.page) :
      ({ s.store with page := m.write a bs } : Store).canonical = true := by
    rw [Store.canonical_iff] at h ⊢
    exact ⟨h.1, Memory.wf_write _ _ _ (hm ▸ h.2)⟩
  unfold State.scrubLine
  dsimp only
  split_ifs
  · exact ⟨rfl, fun h => hc _ _ _ h rfl⟩
  · exact ⟨rfl, fun h => hc _ _ _ h rfl⟩

theorem execScrubLine_moves (h : execScrubLine s = .next t) : s.Moves i t := by
  refine State.grantAs_moves h fun hk ha => ?_
  split at ha
  · rw [State.onBank_next ha]
    obtain ⟨hb, hc⟩ := State.scrubLine_frame _ _ (s.settle.granted .scrub)
    exact .granted hk (by rw [hb]; simp) (by rw [hb]; simp) (by rw [hb]) (by simpa using hc)
  · cases ha
    exact .granted hk (by simp) (by simp) rfl (by simp)

/-! ### Time -/

theorem execTick_moves (h : execTick s = .next t) : s.Moves i t := by
  unfold execTick at h
  dsimp only at h
  split_ifs at h <;> cases h
  · exact .same (by simp) (by simp)
  · exact .settle

/-- A command that takes an event of the filing blocks, or nothing. -/
theorem State.Moves.event {p : Prop} [Decidable p] {f : Filing}
    (h : (if p then Host.Outcome.next { s with filing := f } else .next s : Answer) = .next t) : s.Moves i t := by
  split_ifs at h <;> cases h <;> exact .same rfl rfl

/-- What every command does to the board path and the banks. -/
theorem exec_moves (h : exec i s = .next t) : s.Moves i t := by
  cases i with
  | powerOn => exact execPowerOn_moves h
  | sizingProbe e => exact State.startUnit_moves (show execSizingProbe e s = .next t from h) fun u => ⟨rfl, id⟩
  | layoutHeaderCheck e =>
    exact State.startUnit_moves (show execLayoutHeaderCheck e s = .next t from h) (State.headerCheck_frame _)
  | freshFormat => exact State.startUnit_moves (show execFreshFormat s = .next t from h) State.freshFormat_frame
  | recoveryWalk es => exact State.startUnit_moves (show execRecoveryWalk es s = .next t from h) fun u => ⟨rfl, id⟩
  | rebuild => exact State.startUnit_moves (show execRebuild s = .next t from h) State.rebuild_frame
  | ready => exact State.startUnit_moves (show execReady s = .next t from h) State.ready_frame
  | pwarnAssert => exact execPwarnAssert_moves h
  | cleanHeaderWrite => exact execCleanHeaderWrite_moves h
  | pwarnWithdraw => exact execPwarnWithdraw_moves h
  | breset => exact execBreset_moves h
  | bresetWithdraw => cases h; exact .stays rfl id id id
  | powerLoss => exact execPowerLoss_moves h
  | writeAccept => exact execWriteAccept_moves h
  | writeQueueFull => exact execWriteQueueFull_moves h
  | heldWriteAccept => exact execHeldWriteAccept_moves h
  | writeDrain =>
    exact State.drainAs_moves (show execWriteDrain s = .next t from h) fun x u => ⟨u.filing, _, _, rfl, rfl⟩
  | refusedWrite =>
    exact State.drainAs_moves (show execRefusedWrite s = .next t from h)
      fun x u => ⟨_, _, _, rfl, Filing.latchProtection_boot ..⟩
  | postingWordCapture =>
    exact State.drainTo_moves (show execPostingWordCapture s = .next t from h) fun _ _ => Filing.captureWord_boot ..
  | unknown => exact State.drainTo_moves (show execUnknown s = .next t from h) fun _ _ => Filing.refusePost_boot ..
  | malformed => exact State.drainTo_moves (show execMalformed s = .next t from h) fun _ _ => Filing.refusePost_boot ..
  | busy => exact State.drainTo_moves (show execBusy s = .next t from h) fun _ _ => Filing.busyPost_boot ..
  | narrowPostWord =>
    exact State.drainTo_moves (show execNarrowPostWord s = .next t from h) fun _ _ => Filing.narrowPost_boot ..
  | consumerWord =>
    exact State.drainTo_moves (show execConsumerWord s = .next t from h) fun _ _ => Filing.consumerWord_boot ..
  | headerWord =>
    exact State.drainTo_moves (show execHeaderWord s = .next t from h) fun _ _ => Filing.captureWrite_boot ..
  | openCall =>
    exact State.drainTo_moves (show execOpenCall s = .next t from h)
      fun _ _ => (Filing.openCall_boot ..).trans (Filing.captureWrite_boot ..)
  | endCall =>
    exact State.drainTo_moves (show execEndCall s = .next t from h)
      fun _ _ => (Filing.endCall_boot ..).trans (Filing.captureWrite_boot ..)
  | otherCallKind =>
    exact State.drainTo_moves (show execOtherCallKind s = .next t from h)
      fun _ _ => (Filing.stray_boot ..).trans (Filing.captureWrite_boot ..)
  | dataWrite =>
    exact State.drainAs_moves (show execDataWrite s = .next t from h)
      fun x u => ⟨_, _, _, rfl, Filing.dataWrite_boot ..⟩
  | trailerWord =>
    exact State.drainTo_moves (show execTrailerWord s = .next t from h) fun _ _ => Filing.trailerWord_boot ..
  | confirmOk => exact State.drainTo_moves (show execConfirmOk s = .next t from h) fun _ _ => Filing.confirmOk_boot ..
  | confirmResend =>
    exact State.drainTo_moves (show execConfirmResend s = .next t from h) fun _ _ => Filing.confirmResend_boot ..
  | confirmAbandon =>
    exact State.drainTo_moves (show execConfirmAbandon s = .next t from h) fun _ _ => Filing.failAttempt_boot ..
  | confirmWordOutOfPlace =>
    exact State.drainTo_moves (show execConfirmWordOutOfPlace s = .next t from h) fun _ _ => Filing.confirmStray_boot ..
  | boardRead m a w => exact State.readAs_moves (show execBoardRead m a w s = .next t from h) fun c u => by simp
  | unbackedRead m a w =>
    exact State.readAs_moves (show execUnbackedRead m a w s = .next t from h) fun c u => by simp [State.allOnes]
  | refusedRead m a w =>
    exact State.readAs_moves (show execRefusedRead m a w s = .next t from h)
      fun c u => by unfold State.refusal; split_ifs <;> simp [State.allOnes]
  | mirrorRead m a w =>
    exact State.readAs_moves (show execMirrorRead m a w s = .next t from h)
      fun c u => by split_ifs <;> simp [State.allOnes]
  | faultWordRead m a w =>
    exact State.readAs_moves (show execFaultWordRead m a w s = .next t from h)
      fun c u => by split_ifs <;> simp [State.allOnes]
  | forwardDataRead m a w =>
    exact State.readAs_moves (show execForwardDataRead m a w s = .next t from h)
      fun c u => by split_ifs <;> simp [State.allOnes]
  | forwardSlotRead m a w =>
    exact State.readAs_moves (show execForwardSlotRead m a w s = .next t from h)
      fun c u => by split_ifs <;> simp [State.allOnes]
  | reviewDataRead m a w =>
    exact State.readAs_moves (show execReviewDataRead m a w s = .next t from h)
      fun c u => by split_ifs <;> simp [State.allOnes, State.allZero]
  | boardReadGrant => exact execBoardReadGrant_moves h
  | writeAheadWrite => exact execWriteAheadWrite_moves h
  | headStoreWrite => exact execHeadStoreWrite_moves h
  | consumerWordReset => exact execConsumerWordReset_moves h
  | resultEntryWrite => exact execResultEntryWrite_moves h
  | recordFlush => exact execRecordFlush_moves h
  | scrubBegin => exact execScrubBegin_moves h
  | scrubLine => exact execScrubLine_moves h
  | tick => exact execTick_moves h
  | stallExpiry => exact State.channelEvent_moves h
  | gapExpiry => exact State.channelEvent_moves h
  | confirmTimeout => exact State.channelEvent_moves h
  | retainDeadline => exact State.Moves.event h
  | retryDeadline => exact State.Moves.event h
  | clockSave => exact State.Moves.event h
  | guardExpiry => exact State.Moves.event h
  | _ => exact State.postAs_moves h

/-! ## The invariant -/

/-- A sound state, spelled out. -/
theorem State.sound_iff (s : State) : s.sound = true ↔ s.store.canonical = true ∧ s.board.queue.length ≤ 16 ∧
    s.board.starve ≤ 16 ∧ (s.board.head.isSome = true → s.board.queue ≠ []) := by
  simp only [State.sound, Board.bounded, Board.headStaged, Bool.and_eq_true, decide_eq_true_eq, and_assoc]
  cases s.board.head <;> simp [Config.queueDepth, Config.starveLimit]

theorem State.storeHead_canonical (w : HeadWork) (bs : List Byte) (h : s.store.canonical = true) :
    (s.storeHead w bs).store.canonical = true := by
  rw [Store.canonical_iff] at h
  simp only [State.storeHead, State.wakeScrub_store, State.leaveQueue_store]
  cases w.dest <;> rw [Store.canonical_iff]
  · exact ⟨Memory.wf_write _ _ _ h.1, h.2⟩
  · exact ⟨h.1, Memory.wf_write _ _ _ h.2⟩

theorem State.storeHead_queue (w : HeadWork) (bs : List Byte) : (s.storeHead w bs).board.queue = s.board.queue.tail := by
  simp [State.storeHead]
theorem State.storeHead_head (w : HeadWork) (bs : List Byte) : (s.storeHead w bs).board.head = none := by
  simp [State.storeHead]
theorem State.storeHead_starve (w : HeadWork) (bs : List Byte) : (s.storeHead w bs).board.starve = s.board.starve := by
  simp [State.storeHead]

/-- No move takes the starvation count beyond 16 (R16). -/
theorem State.Moves.starve_le (h : s.Moves i t) (hs : s.board.starve ≤ 16) : t.board.starve ≤ 16 := by
  cases h with
  | stays _ _ hs' _ => exact hs' hs
  | joins _ _ _ _ hs' _ => rwa [hs']
  | drains => simpa using hs
  | writes w bs _ hk => rw [State.storeHead_starve]; exact State.granted_starve_le hk
  | clears _ _ _ hs' _ => rw [hs']; exact Nat.zero_le _

/-- Every move keeps the invariant. -/
theorem State.Moves.sound (h : s.Moves i t) (hs : s.sound = true) : t.sound = true := by
  have hst := h.starve_le ((State.sound_iff s).mp hs).2.2.1
  obtain ⟨hc, hq, -, hh⟩ := (State.sound_iff s).mp hs
  rw [State.sound_iff]
  cases h with
  | stays eq eh _ ec => exact ⟨ec hc, by rwa [eq], hst, fun ht => by rw [eq]; exact hh (eh ht)⟩
  | joins x hx eq _ _ ec =>
    exact ⟨by rwa [ec], by rw [eq, List.length_append, List.length_singleton]; exact hx, hst, fun _ => by simp [eq]⟩
  | drains f d a _ hne =>
    refine ⟨by simpa using hc, ?_, hst, ?_⟩
    · rw [State.drained_queue]
      split_ifs
      · exact hq
      · simp only [List.length_tail]; omega
    · cases d <;> simp [State.drained_queue, State.drained_head, hne]
  | writes w bs hne _ =>
    refine ⟨State.storeHead_canonical _ _ (by simpa using hc), ?_, hst, ?_⟩
    · simp only [State.storeHead_queue, State.granted_queue, State.settle_board, List.length_tail]; omega
    · simp [State.storeHead_head]
  | clears _ eq eh _ ec => exact ⟨ec hc, by simp [eq], hst, by simp [eh]⟩

theorem State.busCycle_frame (s : State) : s.busCycle.board = s.board ∧ s.busCycle.store = s.store := by
  unfold State.busCycle
  split_ifs <;> simp

end

end Sys2Proof.Machine
end

section
open Sys2Proof.Machine

/-- Settles O4: a step runs the command at the front of the queue, whose moves keep the invariant, or lets a bus cycle
pass. -/
theorem stepKeepsSound : Obligations.StepKeepsSound := by
  intro s t hs h
  unfold step at h
  split at h
  · exact (exec_moves h).sound ((State.sound_iff _).mpr ((State.sound_iff s).mp hs))
  · cases h
    obtain ⟨hb, hc⟩ := s.busCycle_frame
    rw [State.sound_iff, hb, hc]
    exact (State.sound_iff s).mp hs

end


section
/-! PROOFS. The queue of commands, reset, the Zone Decoder, writes at the port, header captures, power. -/

namespace Sys2Proof.Machine

/-! ## Zone Decoder (R2 to R6) -/

/-- A landing or forward class names a fitted channel. -/
theorem Straps.classify_channel_le {st : Straps} {a c o : Nat}
    (h : st.classify a = .landing c o ∨ st.classify a = .forward c o) : c ≤ st.channels := by
  unfold Straps.classify Straps.classifyZone at h
  dsimp only at h
  split_ifs at h <;> simp_all <;> omega

theorem AddrClass.general_plain (g : Nat) : (AddrClass.plain g).general = some g := rfl
theorem AddrClass.general_relocated (g : Nat) : (AddrClass.relocated g).general = some g := rfl
theorem AddrClass.general_unbacked : AddrClass.unbacked.general = none := rfl

/-- No offset of the zone has a general bank address (R4). -/
theorem Straps.classifyZone_general (st : Straps) (z : Nat) : (st.classifyZone z).general = none := by
  unfold Straps.classifyZone
  dsimp only
  split_ifs <;> rfl

section
variable {st : Straps} {a g : Nat}

/-- The address lies in the zone. -/
def Straps.inZone (st : Straps) (a : Nat) : Prop := st.zoneBase ≤ a ∧ a < st.zoneBase + 64 * Config.mib

/-- The address lies in the relocation window. -/
def Straps.inWindow (st : Straps) (a : Nat) : Prop :=
  0 < st.displaced ∧ st.window ≤ a ∧ a < st.window + st.displaced

theorem Straps.inZone_iff : st.inZone a ↔ st.zoneBase ≤ a ∧ a < st.zoneBase + 64 * 1048576 := by
  rw [Straps.inZone, Config.mib]

/-- The four tests of R3 and R4, in their order. -/
theorem Straps.classify_eq [Decidable (st.inZone a)] [Decidable (st.inWindow a)] : st.classify a =
    if st.inZone a then st.classifyZone (a - st.zoneBase) else if a < st.generalTop then .plain a
    else if st.inWindow a then .relocated (a - st.window + st.zoneBase) else .unbacked := by
  unfold Straps.classify
  congr 1
  congr 1
  congr 1

theorem Straps.classify_inZone (hz : st.inZone a) : st.classify a = st.classifyZone (a - st.zoneBase) := by
  classical
  rw [Straps.classify_eq, if_pos hz]

theorem Straps.classify_plain (hz : ¬ st.inZone a) (ha : a < st.generalTop) : st.classify a = .plain a := by
  classical
  rw [Straps.classify_eq, if_neg hz, if_pos ha]

theorem Straps.classify_relocated (hz : ¬ st.inZone a) (ha : ¬ a < st.generalTop) (hw : st.inWindow a) :
    st.classify a = .relocated (a - st.window + st.zoneBase) := by
  classical
  rw [Straps.classify_eq, if_neg hz, if_neg ha, if_pos hw]

theorem Straps.classify_unbacked (hz : ¬ st.inZone a) (ha : ¬ a < st.generalTop) (hw : ¬ st.inWindow a) :
    st.classify a = .unbacked := by
  classical
  rw [Straps.classify_eq, if_neg hz, if_neg ha, if_neg hw]

/-- Where a general bank address is reached: plain at itself, or displaced at the window (R3). -/
theorem Straps.classify_general_iff : (st.classify a).general = some g ↔
    ¬ st.inZone a ∧ ((a < st.generalTop ∧ g = a) ∨
      (¬ a < st.generalTop ∧ st.inWindow a ∧ g = a - st.window + st.zoneBase)) := by
  by_cases hz : st.inZone a
  · simp [st.classify_inZone hz, Straps.classifyZone_general, hz]
  · by_cases ha : a < st.generalTop
    · simp [Straps.classify_plain hz ha, AddrClass.general_plain, hz, ha, eq_comm]
    · by_cases hw : st.inWindow a
      · simp [Straps.classify_relocated hz ha hw, AddrClass.general_relocated, hz, ha, hw, eq_comm]
      · simp [Straps.classify_unbacked hz ha hw, AddrClass.general_unbacked, hz, ha, hw]

/-- The class of an address is plain only at itself, outside the zone and below the top. -/
theorem Straps.classify_eq_plain (h : st.classify a = .plain g) : ¬ st.inZone a ∧ a < st.generalTop ∧ g = a := by
  have hz : ¬ st.inZone a := (Straps.classify_general_iff.mp (by rw [h]; rfl)).1
  by_cases ha : a < st.generalTop
  · rw [Straps.classify_plain hz ha] at h
    cases h
    exact ⟨hz, ha, rfl⟩
  · by_cases hw : st.inWindow a
    · rw [Straps.classify_relocated hz ha hw] at h; cases h
    · rw [Straps.classify_unbacked hz ha hw] at h; cases h

theorem Straps.classify_eq_relocated (h : st.classify a = .relocated g) :
    st.inWindow a ∧ g = a - st.window + st.zoneBase := by
  have hz : ¬ st.inZone a := (Straps.classify_general_iff.mp (by rw [h]; rfl)).1
  by_cases ha : a < st.generalTop
  · rw [Straps.classify_plain hz ha] at h; cases h
  · by_cases hw : st.inWindow a
    · rw [Straps.classify_relocated hz ha hw] at h
      cases h
      exact ⟨hw, rfl⟩
    · rw [Straps.classify_unbacked hz ha hw] at h; cases h

/-- The displaced addresses lie in the zone, below the top. -/
theorem Straps.displaced_spec (st : Straps) :
    st.displaced ≤ 64 * 1048576 ∧ st.displaced ≤ st.generalTop - st.zoneBase ∧
    (st.displaced = 64 * 1048576 ∨ st.displaced = st.generalTop - st.zoneBase) := by
  simp only [Straps.displaced, Config.mib]
  omega

theorem Straps.window_spec (st : Straps) : st.generalTop ≤ st.window ∧ st.zoneBase + 64 * 1048576 ≤ st.window ∧
    (st.window = st.generalTop ∨ st.window = st.zoneBase + 64 * 1048576) := by
  simp only [Straps.window, Config.mib]
  omega

/-- Every general bank address below the top is reached by exactly one board address (R3). -/
theorem Straps.general_reached_once (hz : st.zone ≤ 15) (hg : st.gtop ≤ 63) (h : g < st.generalTop) :
    ∃ a, a < 2 ^ 32 ∧ (st.classify a).general = some g ∧ ∀ b, (st.classify b).general = some g → b = a := by
  have hbase : st.zoneBase ≤ 1006632960 := by simp only [Straps.zoneBase, Config.mib]; omega
  have htop : st.generalTop ≤ 1056964608 := by simp only [Straps.generalTop, Config.mib]; omega
  have hd := st.displaced_spec
  have hw := st.window_spec
  simp only [Straps.classify_general_iff, Straps.inZone_iff, Straps.inWindow]
  by_cases hin : st.zoneBase ≤ g ∧ g < st.zoneBase + 64 * 1048576
  · exact ⟨g - st.zoneBase + st.window, by omega, by omega, fun b hb => by omega⟩
  · exact ⟨g, by omega, by omega, fun b hb => by omega⟩

end

/-- No master check applies outside the zone (R3, R6). -/
theorem AddrClass.allowed_of_not_isZone {x : AddrClass} (h : x.isZone = false) (m : Nat) :
    x.readAllowed m = true ∧ x.writeAllowed m = true := by
  cases x with
  | plain | relocated | unbacked | zoneUnbacked => exact ⟨rfl, rfl⟩
  | control | landing | forward | review => exact absurd h (by simp [AddrClass.isZone, AddrClass.isAperture])

theorem Straps.classify_not_isZone {st : Straps} {a : Nat} (hz : ¬ st.inZone a) : (st.classify a).isZone = false := by
  by_cases ha : a < st.generalTop
  · rw [Straps.classify_plain hz ha]; rfl
  · by_cases hw : st.inWindow a
    · rw [Straps.classify_relocated hz ha hw]; rfl
    · rw [Straps.classify_unbacked hz ha hw]; rfl

/-! ## Power -/

/-- No word of a unit is torn where none was written, or where no flush is in hand. -/
theorem State.tornWords_eq_nil {s : State} {written : Nat} (h : written = 0 ∨ s.nextKind ≠ some .flush) :
    s.tornWords written = [] := by
  unfold State.tornWords
  split_ifs with hc
  · obtain rfl : written = 0 := by simp_all
    split <;> simp
  · rfl

theorem readStraps_halt (zone : BitVec 4) (gtop : BitVec 6) (chans : BitVec 5) (clksel : BitVec 2) :
    (readStraps zone gtop chans clksel).halt = true ↔ zone = 0 ∨ clksel = 3 := by
  simp only [readStraps, Straps.halt, Bool.or_eq_true, beq_iff_eq]
  constructor
  · rintro (h | h)
    · exact .inl (BitVec.eq_of_toNat_eq h)
    · exact .inr (BitVec.eq_of_toNat_eq h)
  · rintro (rfl | rfl)
    · exact .inl rfl
    · exact .inr rfl

end Sys2Proof.Machine

open Sys2Proof Sys2Proof.Machine

/-- Settles O1. -/
theorem stepTakesFrontCommand : Obligations.StepTakesFrontCommand := fun _ _ => rfl

/-- Settles O2: at power-on no table lists a record. -/
theorem resetIsPowerOn : Obligations.ResetIsPowerOn :=
  ⟨⟨rfl, rfl, rfl, rfl⟩, ⟨rfl, rfl, rfl, rfl⟩, fun _ => ⟨rfl, rfl, rfl, rfl, rfl, fun _ => rfl, rfl, rfl, rfl⟩, fun _ => rfl,
    ⟨rfl, rfl, rfl⟩, fun _ => ⟨rfl, rfl, rfl, rfl⟩, ⟨rfl, rfl, rfl, rfl, rfl, rfl, rfl, rfl⟩, ⟨rfl, rfl⟩, rfl, rfl⟩

/-- Settles O3. -/
theorem soundAtReset : Obligations.SoundAtReset := rfl

/-- Settles O5: the three tests of R3 give the class, and invert. -/
theorem generalClasses : Obligations.GeneralClasses := by
  intro st _ hz hg
  simp only [← Straps.inZone_iff]
  refine ⟨fun a ha => ⟨Straps.classify_plain ha, ?_, ?_, ?_⟩, ?_, ?_, fun g => Straps.general_reached_once hz hg⟩
  · exact fun h1 h2 h3 h4 => Straps.classify_relocated ha (Nat.not_lt.mpr h1) ⟨h2, h3, h4⟩
  · exact fun h1 h2 => Straps.classify_unbacked ha (Nat.not_lt.mpr h1) h2
  · exact AddrClass.allowed_of_not_isZone (Straps.classify_not_isZone ha)
  · intro a ha hin
    have := st.displaced_spec
    exact (Straps.classify_eq_plain ha).1 (Straps.inZone_iff.mpr ⟨hin.1, by omega⟩)
  · intro a b ha hb
    obtain ⟨hz, -, -⟩ := Straps.classify_eq_plain ha
    obtain ⟨⟨_, _, _⟩, hg⟩ := Straps.classify_eq_relocated hb
    have := st.displaced_spec
    exact hz (Straps.inZone_iff.mpr ⟨by omega, by omega⟩)

/-- Settles O6: no fitted channel has a master number above 24. -/
theorem mastersAbove24AllowedNothing : Obligations.MastersAbove24AllowedNothing := by
  intro st a m hc hm hz
  have hle (c o : Nat) := Straps.classify_channel_le (st := st) (a := a) (c := c) (o := o)
  generalize st.classify a = x at hz hle
  have h0 : ¬ m = 0 := by omega
  cases x with
  | plain | relocated | unbacked | zoneUnbacked => exact absurd hz Bool.false_ne_true
  | control z =>
    have : ¬ m ≤ 24 := by omega
    simp [AddrClass.readAllowed, AddrClass.writeAllowed, Config.channelCount, h0, this]
  | landing c o =>
    have := hle c o (.inl rfl)
    have : ¬ m = c := by omega
    simp [AddrClass.readAllowed, AddrClass.writeAllowed, h0, this]
  | forward c o =>
    have := hle c o (.inr rfl)
    have : ¬ m = c := by omega
    simp [AddrClass.readAllowed, AddrClass.writeAllowed, h0, this]
  | review r o => simp [AddrClass.readAllowed, AddrClass.writeAllowed, h0]

/-- Settles O7: the port's three answers to a write. -/
theorem boardWritesAtThePort : Obligations.BoardWritesAtThePort := by
  intro s m addr w d x
  refine ⟨fun ha ht hq => ?_, fun ha ht hq => ?_, fun hp hq => ?_⟩
  · show execWriteAccept m addr w d s = _
    simp only [execWriteAccept, ha, ht, Board.hasSpace, Config.queueDepth, hq]
    rfl
  · show execWriteQueueFull m addr w d s = _
    simp only [execWriteQueueFull, ha, ht, Board.hasSpace, Config.queueDepth, Nat.not_lt.mpr hq]
    rfl
  · show execHeldWriteAccept s = _
    simp only [execHeldWriteAccept, hp, Board.hasSpace, Config.queueDepth, hq]
    rfl

/-- Settles O28: the drain of a header word. -/
theorem headerWordIsCaptured : Obligations.HeaderWordIsCaptured := by
  intro s x c o hd hx h1 h2 ch i
  have hrow : s.filing.drainRow x = .header := by
    simp [Filing.drainRow, hx, Config.dataAreaBytes, callWordAt, Nat.not_lt.mpr h1, h2]
  have hdest : x.cls.dest = some (.page (0x4000 + 0x100 * (c - 1) + (o - 1048448))) := by rw [hx]; rfl
  show execHeaderWord s = _
  rw [execHeaderWord, State.drainAs_of_drains hd hrow, State.drainTo_of_dest hdest,
    Filing.captureWrite_landing _ _ _ _ hx]

/-- Settles O44. -/
theorem powerOnAndPowerLoss : Obligations.PowerOnAndPowerLoss := by
  refine ⟨fun s zone gtop chans clksel bank wrap hp hb => ?_, fun s written hp hw => ?_⟩
  · have hb0 : ¬ bank = 0 := by omega
    show execPowerOn zone gtop chans clksel bank wrap s = _
    simp only [execPowerOn, hb0, hp, ne_eq, not_true_eq_false, ↓reduceIte, readStraps_halt]
    rfl
  · show execPowerLoss written s = _
    rw [execPowerLoss, if_neg hp, State.tornWords_eq_nil hw]
    rfl

end


section
/-! PROOFS. Reads at the Board Port: what holds one, what its owner decides, and its service at the grant (R12 to R14). -/

namespace Sys2Proof.Machine

/-! ## The data of a served read -/

theorem Board.serveAll_ones (b : Board) (m : BitVec 5) (a : Word) (w : Width) :
    b.serveAll m a w 0xFF = b.served m a w (onesWord w) := by
  cases w <;> rfl

theorem Board.serveAll_zero (b : Board) (m : BitVec 5) (a : Word) (w : Width) :
    b.serveAll m a w 0 = b.served m a w 0 := by
  cases w <;> rfl

theorem Board.serve_eq_served (b : Board) (m : BitVec 5) (a : Word) {w : Width} {bs : List Byte}
    (h : bs.length = w.bytes) : b.serve m a w bs = b.served m a w (bytesWord bs) := by
  rw [Board.serve, ← h, List.take_length]
  rfl

@[simp] theorem Memory.readBytes_length (m : Memory) (a n : Nat) : (m.readBytes a n).length = n := by
  simp [Memory.readBytes, numbers]

theorem width_bytes_le (w : Width) : w.bytes ≤ 4 := by cases w <;> decide

@[simp] theorem wordBytes_take_length (d : Word) (w : Width) : ((wordBytes d).take w.bytes).length = w.bytes := by
  simpa using width_bytes_le w

/-- The cut of R115 and R135, byte by byte. -/
theorem cutBytes_eq (o l : Nat) (bs : List Byte) :
    cutBytes o l bs = (List.range bs.length).map (fun i => if o + i < l then bs.getD i 0 else 0) := by
  apply List.ext_getElem
  · simp [cutBytes]
  · intro i h1 h2
    have hi : i < bs.length := by simpa using h2
    simp only [cutBytes, List.getElem_map, List.getElem_zipIdx, List.getElem_range, Nat.zero_add,
      List.getD_eq_getElem _ _ hi]
    by_cases h : l ≤ o + i
    · rw [if_pos h, if_neg (Nat.not_lt.mpr h)]
    · rw [if_neg h, if_pos (Nat.not_le.mp h)]

@[simp] theorem cutBytes_length (o l : Nat) (bs : List Byte) : (cutBytes o l bs).length = bs.length := by
  simp [cutBytes]

theorem cutBytes_readBytes (o l a n : Nat) (m : Memory) :
    cutBytes o l (m.readBytes a n) = (List.range n).map (fun i => if o + i < l then m.read (a + i) else 0) := by
  rw [cutBytes_eq, Memory.readBytes_length]
  refine List.map_congr_left fun i hi => ?_
  have hi' : i < n := List.mem_range.mp hi
  rw [List.getD_eq_getElem _ _ (by simpa using hi')]
  simp [Memory.readBytes_eq, numbers]

theorem cutBytes_wordBytes (o l : Nat) (d : Word) (w : Width) : cutBytes o l ((wordBytes d).take w.bytes) =
    (List.range w.bytes).map (fun i => if o + i < l then (wordBytes d).getD i 0 else 0) := by
  rw [cutBytes_eq, wordBytes_take_length]
  refine List.map_congr_left fun i hi => ?_
  simp [List.getD_eq_getElem?_getD, List.mem_range.mp hi]

/-! ## Latch events (R168, R169) -/

section
variable (f : Filing) (e : LatchEvent)

theorem Filing.latch_latches : (f.latch e).monitors.latches =
    if f.masked e.monitor then f.monitors.latches else f.monitors.latches ||| latchBit e.monitor := by
  unfold Filing.latch
  split_ifs <;> simp [Filing.raiseStoreLow, Filing.raiseFault]

theorem Filing.latch_capture : (f.latch e).monitors.capture =
    if f.masked e.monitor then f.monitors.capture else f.monitors.capture.or (some (e.capture f.now)) := by
  unfold Filing.latch
  split_ifs <;> simp [Filing.raiseStoreLow, Filing.raiseFault]

theorem Filing.latch_dirty_status (h : f.masked e.monitor = false) : (f.latch e).dirty .status = true := by
  unfold Filing.latch
  simp [h]

theorem Filing.masked_parity : f.masked .parity = f.monitors.policy.masks.getLsbD 8 := rfl

theorem Filing.latchProtection_latches (m : BitVec 5) (c : AddrClass) :
    (f.latchProtection m c).monitors.latches = f.monitors.latches ||| 0x080#10 := f.latch_latches _

theorem Filing.latchProtection_capture (m : BitVec 5) (c : AddrClass) : (f.latchProtection m c).monitors.capture =
    f.monitors.capture.or (some { monitor := .protection, channel := none, master := some m.toNat, doc := none,
                                  detail := regionDetail c, time := f.now }) := f.latch_capture _

theorem Filing.latchProtection_agrees (m : BitVec 5) (c : AddrClass) : (f.latchProtection m c).agrees f := by
  simp [Filing.agrees]

end

/-! ## What holds a read (R12, R13) -/

section
variable {b : Board} {m : BitVec 5} {cls : AddrClass}

theorem Board.holds_of_general {g : Nat} (hg : cls.general = some g) :
    b.holds m cls = true ↔ ∃ x ∈ b.queue, ∃ g', x.cls.general = some g' ∧ g' / 32 = g / 32 := by
  simp only [Board.holds, hg, List.any_eq_true]
  refine exists_congr fun x => and_congr_right fun _ => ?_
  cases x.cls.general <;> simp

theorem Board.holds_of_zone (hg : cls.general = none) : b.holds m cls = true ↔ ∃ x ∈ b.queue, x.write.master = m := by
  simp [Board.holds, hg]

theorem Board.holds_iff_bars (h : HeldRead) : b.holds h.master h.cls = true ↔ b.bars h := by
  unfold Board.bars
  cases hg : h.cls.general with
  | none => exact Board.holds_of_zone hg
  | some g => exact Board.holds_of_general hg

theorem Board.not_holds_of_zone (hg : cls.general = none) (h : ∀ x ∈ b.queue, x.write.master ≠ m) :
    b.holds m cls = false := by
  rw [← Bool.not_eq_true, Board.holds_of_zone hg]
  exact fun ⟨x, hx, hm⟩ => h x hx hm

end

section
variable {s : State} {h : HeldRead}

theorem State.holdRead_of_holds (hh : s.board.holds h.master h.cls = true) :
    s.holdRead h = { s with board := { s.board with port := .readHeld { h with phase := .writes } } } := by
  rw [State.holdRead, if_pos hh]

theorem State.holdRead_of_not_holds (hh : s.board.holds h.master h.cls = false) : s.holdRead h = s.decideRead h := by
  rw [State.holdRead, if_neg (by simp [hh])]

/-! ## What the owner of a read decides -/

theorem Phase.not_halted_of_running {p : Phase} (hp : p = .running) : p.halted = false := by rw [hp]; rfl

theorem State.haltedRead_of_not_halted (hp : s.filing.boot.phase.halted = false) : s.haltedRead h = false := by
  simp [State.haltedRead, hp]

theorem State.haltedRead_of_not_zone (hz : h.cls.isZone = false) : s.haltedRead h = false := by
  simp [State.haltedRead, hz]

theorem AddrClass.not_isZone_of_general {x : AddrClass} {g : Nat} (h : x.general = some g) : x.isZone = false := by
  cases x with
  | plain | relocated => rfl
  | _ => cases h

theorem State.decideRead_general {g : Nat} (hg : h.cls.general = some g) : s.decideRead h = s.readStore h := by
  rw [State.decideRead, State.haltedRead_of_not_zone (AddrClass.not_isZone_of_general hg)]
  cases hc : h.cls <;> simp_all [AddrClass.general]

variable (hp : s.filing.boot.phase.halted = false)
include hp

/-- A control window read that no mirrored record answers for waits for the store bus alone (R13). -/
theorem State.decideRead_control_store {z : Nat} (hc : h.cls = .control z)
    (hn : ¬ (h.master = 0 ∧ s.filing.running = true) ∨ recordAt s.filing.blockCount z = none) :
    s.decideRead h = s.readStore h := by
  rw [State.decideRead, State.haltedRead_of_not_halted hp]
  simp only [hc, Bool.false_eq_true, if_false]
  split_ifs with hm
  · rw [hn.resolve_left (not_not.mpr hm)]
  · rfl

theorem State.decideRead_control_record {z : Nat} {p : RecordPlace} (hc : h.cls = .control z) (hm : h.master = 0)
    (hr : s.filing.running = true) (hn : recordAt s.filing.blockCount z = some p) :
    s.decideRead h = s.readRecord h p.record := by
  rw [State.decideRead, State.haltedRead_of_not_halted hp]
  simp only [hc, Bool.false_eq_true, if_false, hm, hr, and_self, if_true, hn]

theorem State.decideRead_forward_slot {c o : Nat} (hc : h.cls = .forward c o) (ho : 1048448 ≤ o) :
    s.decideRead h = s.readRecord h (.channel c) := by
  rw [State.decideRead, State.haltedRead_of_not_halted hp]
  simp only [hc, Bool.false_eq_true, if_false, Config.dataAreaBytes, Nat.not_lt.mpr ho]

theorem State.decideRead_forward_data {c o : Nat} (hc : h.cls = .forward c o) (ho : o < 1048448) :
    s.decideRead h = if (s.filing.translateForward c o).isSome then s.readStore h else s.forwardZero h c := by
  rw [State.decideRead, State.haltedRead_of_not_halted hp]
  simp only [hc, Bool.false_eq_true, if_false, Config.dataAreaBytes, ho, if_true]

theorem State.decideRead_review {r o : Nat} (hc : h.cls = .review r o) :
    s.decideRead h = if (s.filing.translateReview r o).isSome then s.readStore h else s.reviewZero h := by
  rw [State.decideRead, State.haltedRead_of_not_halted hp]
  simp only [hc, Bool.false_eq_true, if_false]

end

/-- The read of a record whose write-ahead write, if any, is not awaited (R163). -/
theorem State.readRecord_of_dirty {s : State} {h : HeldRead} {r : RecordId} (hd : s.filing.dirty r = true)
    (hg : s.filing.isGuarded r = false) :
    s.readRecord h r = { s with board := { s.board with port := .readHeld { h with phase := .flush r } }
                                filing := s.filing.demand r } := by
  rw [State.readRecord]
  simp [hd, hg]

theorem State.readRecord_of_ahead {s : State} {h : HeldRead} {n : Nat} (ha : s.board.ahead = some n)
    (hd : s.filing.dirty (.block n) = false) (hg : s.filing.isGuarded (.block n) = false) :
    s.readRecord h (.block n) =
      { s with board := { s.board with port := .readHeld { h with phase := .flush (.block n) } } } := by
  rw [State.readRecord]
  simp [ha, hg, Filing.demand, hd]

theorem State.readRecord_of_clean {s : State} {h : HeldRead} {r : RecordId}
    (ha : ∀ n, s.board.ahead = some n → r ≠ .block n) (hd : s.filing.dirty r = false ∨ s.filing.isGuarded r = true) :
    s.readRecord h r = s.readStore h := by
  rw [State.readRecord, if_neg]
  · rfl
  · rcases hd with hd | hd
    · cases hb : s.board.ahead with
      | none => simp [hd]
      | some n => simp [hd, ha n hb]
    · simp [hd]

theorem Filing.demand_of_dirty {f : Filing} {r : RecordId} (hd : f.dirty r = true) :
    f.demand r = { f with mirror := { f.mirror with
      flushList := r :: f.mirror.flushList.filter (fun x => decide (x ≠ r)) } } := by
  rw [Filing.demand, if_pos hd]

/-! ## Translations (R114, R115, R134, R135) -/

section
variable {f : Filing}

/-- The decision's translation: the block that holds an offset below the length. -/
theorem Filing.translatePage_isSome {p o : Nat} : (f.translatePage p o).isSome = true ↔
    o < (f.page p).length ∧ ∃ n, f.blockAt p (o / 8192) = some n := by
  simp only [Filing.translatePage, Filing.grantPage, Config.blockBytes]
  split_ifs with h
  · simp [Nat.not_lt.mpr h]
  · simp [Nat.not_le.mp h, Option.isSome_iff_exists]

theorem Filing.translateForward_isSome {c o : Nat} : (f.translateForward c o).isSome = true ↔
    ∃ p n, (f.chan c).state = .send ∧ (f.chan c).sending = some p ∧ o < (f.page p).length ∧
      f.blockAt p (o / 8192) = some n := by
  simp only [Filing.translateForward, Filing.forwardPage]
  split_ifs with h
  · cases hp : (f.chan c).sending <;> simp [h, Filing.translatePage_isSome]
  · simp [h]

theorem Filing.translateReview_isSome {r o : Nat} : (f.translateReview r o).isSome = true ↔
    ∃ b n, f.binding r = some b ∧ o < (f.page b.page).length ∧ f.blockAt b.page (o / 8192) = some n := by
  simp only [Filing.translateReview, Filing.reviewPage]
  cases f.binding r <;> simp [Filing.translatePage_isSome]

/-- The translation of offset o in page p, where block n holds it. -/
theorem Filing.grantPage_of_blockAt {p o n : Nat} (h : f.blockAt p (o / 8192) = some n) :
    f.grantPage p o = some { page := p, length := (f.page p).length, block := n } := by
  simp [Filing.grantPage, Config.blockBytes, h]

theorem Filing.grantPage_of_hole {p o : Nat} (h : f.blockAt p (o / 8192) = none) : f.grantPage p o = none := by
  simp [Filing.grantPage, Config.blockBytes, h]

end

/-! ## The service at the grant (R14) -/

section
variable {s : State} {h : HeldRead} {err : Option Word}

theorem State.access_granted (k : Kind) : (s.granted k).access h = s.access h := rfl

/-- The grant of a held read whose bytes the fitted bank holds. -/
theorem exec_boardReadGrant (hs : s.filing.settled = true) (hk : s.nextKind = some .read)
    (hp : s.board.port = .readHeld h)
    (hb : ∀ z, (s.access h).byte = some z → z + h.width.bytes ≤ s.store.bankMiB * 1048576) :
    exec (.boardReadGrant err) s = .next ((s.granted .read).serveRead h err) := by
  show execBoardReadGrant err s = _
  rw [execBoardReadGrant, State.grantAs_eq hs hk]
  simp only [State.granted_port, hp, State.access_granted, State.onBank]
  cases hz : (s.access h).byte with
  | none => rfl
  | some z =>
    have : (s.granted .read).store.has z h.width.bytes = true := by
      exact decide_eq_true (hb z hz)
    simp only [this, if_true]

/-- What the service leaves: the bytes on the board bus, the count, the filing blocks as the owner and the service leave
them. -/
theorem State.serveRead_granted {bs : List Byte} {f1 f2 : Filing}
    (hbs : (s.access h).served (s.accessBytes err h.width (s.access h)) = bs) (hl : bs.length = h.width.bytes)
    (h1 : (if err.isSome then s.filing.readError h (s.access h) else s.filing) = f1) (h2 : f1.readServed h = f2) :
    (s.granted .read).serveRead h err =
      { s with board := { s.board.served h.master h.addr h.width (bytesWord bs) with starve := s.starveAfter .read }
               filing := f2 } := by
  have hb : (s.granted .read).accessBytes err h.width (s.access h) = s.accessBytes err h.width (s.access h) := by
    simp only [State.accessBytes, State.granted_store]
  simp only [State.serveRead, State.access_granted, hb, hbs, Board.serve_eq_served _ _ _ hl, State.granted_filing, h1, h2]
  rfl

variable (hh : s.haltedRead h = false)
include hh

theorem State.access_general {g : Nat} (hg : h.cls.general = some g) : s.access h = .general g := by
  rw [State.access, hh]
  cases hc : h.cls <;> simp_all [AddrClass.general]

theorem State.access_control {z : Nat} (hc : h.cls = .control z) : s.access h = .window z := by
  rw [State.access, hh]
  simp [hc]

theorem State.access_forward_data {c o : Nat} (hc : h.cls = .forward c o) (ho : o < 1048448) :
    s.access h = dataAccess (s.filing.grantForward c o) o := by
  rw [State.access, hh]
  simp [hc, Config.dataAreaBytes, ho]

theorem State.access_forward_slot {c o : Nat} (hc : h.cls = .forward c o) (ho : 1048448 ≤ o) :
    s.access h = .window (0x4000 + 0x100 * (c - 1) + (o - 1048448) + 128) := by
  rw [State.access, hh]
  simp [hc, Config.dataAreaBytes, Nat.not_lt.mpr ho, recordByte, Config.channelBase]

theorem State.access_review {r o : Nat} (hc : h.cls = .review r o) :
    s.access h = dataAccess (s.filing.grantReview r o) o := by
  rw [State.access, hh]
  simp [hc]

end

/-! ## PARITY on a page (R86) -/

section
variable (f : Filing) (c m : Option Nat) (p : Nat)

theorem Filing.parityOnPage_page : (f.parityOnPage c m p).page p = { f.page p with parity := true } := by
  simp [Filing.parityOnPage, Filing.page, Filing.setDoc, Filing.setPage, Tbl.find_put_self]

theorem Filing.parityOnPage_damaged : ((f.parityOnPage c m p).doc (f.page p).owner).damaged = true := by
  simp [Filing.parityOnPage, Filing.doc, Filing.setDoc, Filing.setPage, Tbl.find_put_self]

theorem Filing.parityOnPage_bindings : (f.parityOnPage c m p).bindings = f.bindings := by
  simp [Filing.parityOnPage]

theorem Filing.parityOnPage_channels : (f.parityOnPage c m p).channels = f.channels := by
  simp [Filing.parityOnPage]

theorem Filing.parityOnPage_latches : (f.parityOnPage c m p).monitors.latches =
    if f.monitors.policy.masks.getLsbD 8 then f.monitors.latches else f.monitors.latches ||| 0x100#10 := by
  simp only [Filing.parityOnPage]
  rw [Filing.latch_latches, Filing.masked_parity]
  rfl

end

/-- A PARITY event of the Mirror Unit: the reading master alone is named (log entry 19). -/
def windowError (m : BitVec 5) : LatchEvent :=
  { monitor := .parity, channel := none, master := some m.toNat, doc := none, detail := 0xFFFFFFFF#32 }

theorem Filing.readError_window (f : Filing) (h : HeldRead) (z : Nat) :
    f.readError h (.window z) = f.latch (windowError h.master) := rfl

theorem Filing.latch_windowError_latches (f : Filing) (m : BitVec 5) : (f.latch (windowError m)).monitors.latches =
    if f.monitors.policy.masks.getLsbD 8 then f.monitors.latches else f.monitors.latches ||| 0x100#10 := by
  rw [Filing.latch_latches]
  rfl

theorem Filing.latch_windowError_capture (f : Filing) (m : BitVec 5) : (f.latch (windowError m)).monitors.capture =
    if f.monitors.policy.masks.getLsbD 8 then f.monitors.capture
    else f.monitors.capture.or (some { monitor := .parity, channel := none, master := some m.toNat, doc := none,
                                       detail := 0xFFFFFFFF#32, time := f.now }) := by
  rw [Filing.latch_capture]
  rfl

end Sys2Proof.Machine
end


section
/-! PROOFS. Reads that reach nothing or are refused, reads of general memory, forward and review data reads. -/

namespace Sys2Proof.Machine

section
variable {s : State} {addr : Word} {w : Width} {m : BitVec 5}

/-- From READY onwards no phase is a halt. -/
theorem State.running_of_reads (h : s.reads addr w = true) :
    s.filing.boot.phase.halted = false ∧ s.filing.running = true := by
  have hp := ((State.reads_iff s addr w).mp h).1
  exact ⟨Phase.not_halted_of_running hp, by simp [Filing.running, hp]⟩

theorem State.running_of_grants {k : Kind} (h : s.grants k = true) :
    s.filing.boot.phase.halted = false ∧ s.filing.running = true := by
  have hp := ((State.grants_iff s k).mp h).1
  exact ⟨Phase.not_halted_of_running hp, by simp [Filing.running, hp]⟩

theorem readRow_of_general {cls : AddrClass} {g : Nat} (h : cls.general = some g) (m : Nat) : readRow m cls = .board := by
  cases cls with
  | plain | relocated => rfl
  | _ => cases h

/-- A read that nothing reaches, or whose class no master may read. -/
theorem readRow_of_unbacked {cls : AddrClass} (h : cls = .unbacked ∨ cls = .zoneUnbacked) (m : Nat) :
    readRow m cls = .unbacked := by
  rcases h with rfl | rfl <;> rfl

theorem readRow_of_refused {cls : AddrClass} {m : Nat} (hz : cls.isZone = true) (h : cls.readAllowed m = false) :
    readRow m cls = .refused := by
  cases cls with
  | plain | relocated | unbacked | zoneUnbacked => exact absurd hz Bool.false_ne_true
  | landing => rfl
  | control | forward | review => simp [readRow, h]

/-- The general read taken: it waits for staged writes while one stands in its way, else for the store bus (R12). -/
theorem State.holdRead_general {h : HeldRead} {g : Nat} (hg : h.cls.general = some g) : s.holdRead h =
    { s with board := { s.board with
        port := .readHeld { h with phase := if s.board.holds h.master h.cls then .writes else .store } } } := by
  by_cases hh : s.board.holds h.master h.cls = true
  · rw [State.holdRead_of_holds hh, if_pos hh]
  · rw [State.holdRead_of_not_holds (by simpa using hh), State.decideRead_general hg, if_neg hh]
    rfl

theorem execBoardRead_eq {g : Nat} (ha : aligned addr w = true) (hs : s.filing.settled = true) (ht : s.canTake = true)
    (hg : (s.classify addr).general = some g) : exec (.boardRead m addr w) s =
      .next { s with
        board := s.board.holding m addr w (s.classify addr)
          (if s.board.holds m (s.classify addr) then .writes else .store) none } := by
  show execBoardRead m addr w s = _
  rw [execBoardRead, State.readAs_eq ha hs ht (readRow_of_general hg _),
    State.holdRead_general (h := heldRead m addr w (s.classify addr) none) hg]
  rfl

theorem State.accessBytes_length (s : State) (err : Option Word) (w : Width) (x : Access) :
    (s.accessBytes err w x).length = w.bytes := by
  have := width_bytes_le w
  cases err <;> cases x <;> simp [State.accessBytes, this]

/-- The service of a general read: the bytes that stand, or those of the error report (R14). -/
theorem exec_boardReadGrant_general {h : HeldRead} {g : Nat} {err : Option Word} (hs : s.filing.settled = true)
    (hk : s.nextKind = some .read) (hp : s.board.port = .readHeld h) (hg : h.cls.general = some g) :
    exec (.boardReadGrant err) s = .next { s with board :=
      { s.board.served h.master h.addr h.width (bytesWord (s.accessBytes err h.width (.general g))) with
        starve := s.starveAfter .read } } := by
  have hacc := State.access_general
    (State.haltedRead_of_not_zone (s := s) (AddrClass.not_isZone_of_general hg)) hg
  rw [exec_boardReadGrant hs hk hp (by simp [hacc, Access.byte])]
  refine congrArg Host.Outcome.next (State.serveRead_granted (f1 := s.filing) ?_ ?_ ?_ ?_)
  · rw [hacc]; rfl
  · exact s.accessBytes_length ..
  · rw [hacc]; cases err <;> rfl
  · unfold Filing.readServed
    split <;> simp_all [AddrClass.general]

end

/-! ## Zero bytes and the confirm timer -/

/-- The confirm timer of channel c reloaded in SEND (R112, R116). -/
theorem Filing.forwardServed_eq (f : Filing) (c : Nat) : f.forwardServed c =
    if (f.chan c).state = .send then f.setChan c { f.chan c with timer := some ((f.chan c).confirmTime * 100) } else f :=
  rfl

theorem readRow_forward_data {m c o : Nat} (hm : m = c) (ho : o < 1048448) :
    readRow m (.forward c o) = .forwardData := by
  simp [readRow, AddrClass.readAllowed, hm, Config.dataAreaBytes, ho]

theorem readRow_forward_slot {m c o : Nat} (hm : m = c) (ho : 1048448 ≤ o) :
    readRow m (.forward c o) = .forwardSlot := by
  simp [readRow, AddrClass.readAllowed, hm, Config.dataAreaBytes, Nat.not_lt.mpr ho]

section
variable {s : State} {addr : Word} {w : Width} {m : BitVec 5} {c o : Nat}

/-- A forward data read is held as the port takes it (R13, R114). -/
theorem exec_forwardDataRead_holdRead (h : s.reads addr w = true) (hc : s.classify addr = .forward c o)
    (ho : o < 1048448) (hm : m.toNat = c) : exec (.forwardDataRead m addr w) s =
      .next (s.holdRead (heldRead m addr w (.forward c o) none)) := by
  obtain ⟨-, hr⟩ := State.running_of_reads h
  show execForwardDataRead m addr w s = _
  rw [execForwardDataRead, State.readAs_of_reads h (by rw [hc]; exact readRow_forward_data hm ho)]
  simp only [hr, if_true, hc]

/-- A forward data read that no staged write holds is decided at once (R114). -/
theorem exec_forwardDataRead (h : s.reads addr w = true) (hc : s.classify addr = .forward c o) (ho : o < 1048448)
    (hm : m.toNat = c) (hq : ∀ x ∈ s.board.queue, x.write.master ≠ m) : exec (.forwardDataRead m addr w) s =
      .next (if (s.filing.translateForward c o).isSome then s.readStore (heldRead m addr w (.forward c o) none)
             else s.forwardZero (heldRead m addr w (.forward c o) none) c) := by
  rw [exec_forwardDataRead_holdRead h hc ho hm, State.holdRead_of_not_holds (Board.not_holds_of_zone rfl hq),
    State.decideRead_forward_data (State.running_of_reads h).1 rfl ho]

/-- A review data read is held as the port takes it (R13, R134). -/
theorem exec_reviewDataRead_holdRead {r : Nat} (h : s.reads addr w = true) (hc : s.classify addr = .review r o)
    (ho : o < 1048448) : exec (.reviewDataRead 0 addr w) s =
      .next (s.holdRead (heldRead 0 addr w (.review r o) none)) := by
  obtain ⟨-, hr⟩ := State.running_of_reads h
  show execReviewDataRead 0 addr w s = _
  rw [execReviewDataRead, State.readAs_of_reads h (by rw [hc]; rfl)]
  have ht : (AddrClass.review r o).isTail = false := decide_eq_false (Nat.not_le.mpr ho)
  simp only [hr, hc, ht, Bool.not_true, Bool.false_eq_true, if_false]

/-- A review data read that no staged write holds is decided at once (R134). -/
theorem exec_reviewDataRead {r : Nat} (h : s.reads addr w = true) (hc : s.classify addr = .review r o) (ho : o < 1048448)
    (hq : ∀ x ∈ s.board.queue, x.write.master ≠ 0) : exec (.reviewDataRead 0 addr w) s =
      .next (if (s.filing.translateReview r o).isSome then s.readStore (heldRead 0 addr w (.review r o) none)
             else s.reviewZero (heldRead 0 addr w (.review r o) none)) := by
  rw [exec_reviewDataRead_holdRead h hc ho, State.holdRead_of_not_holds (Board.not_holds_of_zone rfl hq),
    State.decideRead_review (State.running_of_reads h).1 rfl]

/-- A review aperture's tail is zero at once (R8). -/
theorem exec_reviewDataRead_tail {r : Nat} (h : s.reads addr w = true) (hc : s.classify addr = .review r o)
    (ho : 1048448 ≤ o) : exec (.reviewDataRead 0 addr w) s = .next { s with board := s.board.served 0 addr w 0 } := by
  obtain ⟨-, hr⟩ := State.running_of_reads h
  show execReviewDataRead 0 addr w s = _
  rw [execReviewDataRead, State.readAs_of_reads h (by rw [hc]; rfl)]
  have ht : (AddrClass.review r o).isTail = true := decide_eq_true ho
  simp only [hr, hc, ht, Bool.not_true, Bool.false_eq_true, if_false, if_true, State.allZero, Board.serveAll_zero]

theorem State.forwardZero_eq {h : HeldRead} : s.forwardZero h c =
    { s with board := s.board.served h.master h.addr h.width 0, filing := s.filing.forwardServed c } := by
  rw [State.forwardZero, Board.serveAll_zero]

theorem State.reviewZero_eq {h : HeldRead} :
    s.reviewZero h = { s with board := s.board.served h.master h.addr h.width 0 } := by
  rw [State.reviewZero, Board.serveAll_zero]

end

/-! ## Data area and slot reads at their grants -/

section
variable {s : State} {h : HeldRead} {err : Option Word}

/-- The bytes of a page's block that a data area read is served with (R115, R135). -/
def State.pageBytes (s : State) (err : Option Word) (w : Width) (p n o : Nat) : List Byte :=
  (List.range w.bytes).map (fun i =>
    if o + i < (s.filing.page p).length then
      match err with
      | none => s.store.page.read (n * 8192 + o % 8192 + i)
      | some d => (wordBytes d).getD i 0
    else 0)

theorem State.served_data (s : State) (err : Option Word) (w : Width) (p n o : Nat) :
    let x := Access.data { page := p, length := (s.filing.page p).length, block := n } o
    x.served (s.accessBytes err w x) = s.pageBytes err w p n o := by
  cases err with
  | none => exact cutBytes_readBytes ..
  | some d => exact cutBytes_wordBytes ..

theorem Filing.readServed_forward {f : Filing} {c o : Nat} (hc : h.cls = .forward c o) :
    f.readServed h = f.forwardServed c := by
  simp only [Filing.readServed, hc]

theorem Filing.readServed_review {f : Filing} {r o : Nat} (hc : h.cls = .review r o) : f.readServed h = f := by
  simp only [Filing.readServed, hc]

variable (hg : s.grants .read = true) (hp : s.board.port = .readHeld h)
include hg hp

/-- A data area read whose page has a block there: the bytes, cut at the length; a data error is the page's (R86). -/
theorem exec_boardReadGrant_data {p n o : Nat}
    (hx : s.access h = .data { page := p, length := (s.filing.page p).length, block := n } o)
    (hb : n * 8192 + o % 8192 + h.width.bytes ≤ s.store.bankMiB * 1048576) :
    exec (.boardReadGrant err) s = .next { s with
      board := { s.board.served h.master h.addr h.width (bytesWord (s.pageBytes err h.width p n o)) with
                 starve := s.starveAfter .read }
      filing := (if err.isSome then s.filing.readError h (s.access h) else s.filing).readServed h } := by
  obtain ⟨-, hs, hk⟩ := (State.grants_iff s _).mp hg
  rw [exec_boardReadGrant hs hk hp (by rw [hx]; rintro z ⟨⟩; exact hb)]
  refine congrArg Host.Outcome.next (State.serveRead_granted ?_ ?_ rfl rfl)
  · rw [hx]; exact s.served_data err _ p n o
  · simp [State.pageBytes]

/-- A data area read that finds no block: zero bytes, the grant given back unused (log entry 20). -/
theorem exec_boardReadGrant_unused (hx : s.access h = .unused) :
    exec (.boardReadGrant none) s = .next { s with
      board := { s.board.served h.master h.addr h.width (bytesWord (List.replicate h.width.bytes 0)) with
                 starve := s.starveAfter .read }
      filing := s.filing.readServed h } := by
  obtain ⟨-, hs, hk⟩ := (State.grants_iff s _).mp hg
  rw [exec_boardReadGrant hs hk hp (by rw [hx]; rintro z ⟨⟩)]
  refine congrArg Host.Outcome.next (State.serveRead_granted ?_ (by simp) rfl rfl)
  rw [hx]; rfl

end

/-- A read of the control window's bytes, or of a slot's record, at its grant. -/
theorem exec_boardReadGrant_window {s : State} {h : HeldRead} {err : Option Word} {z : Nat}
    (hs : s.filing.settled = true) (hk : s.nextKind = some .read) (hp : s.board.port = .readHeld h)
    (hx : s.access h = .window z) (hb : z + h.width.bytes ≤ s.store.bankMiB * 1048576) :
    exec (.boardReadGrant err) s = .next { s with
      board := { s.board.served h.master h.addr h.width (bytesWord (s.accessBytes err h.width (.window z))) with
                 starve := s.starveAfter .read }
      filing := (if err.isSome then s.filing.latch (windowError h.master) else s.filing).readServed h } := by
  rw [exec_boardReadGrant hs hk hp (by rw [hx]; rintro z ⟨⟩; exact hb)]
  refine congrArg Host.Outcome.next (State.serveRead_granted ?_ ?_ ?_ rfl)
  · rw [hx]; rfl
  · exact s.accessBytes_length ..
  · rw [hx, Filing.readError_window]

end Sys2Proof.Machine

open Sys2Proof Sys2Proof.Machine

/-- Settles O8. -/
theorem readsServedAllOnes : Obligations.ReadsServedAllOnes := by
  refine ⟨fun s h z err hp hs hport hc hk => ?_, fun s m addr w hr => ⟨fun hu => ?_, fun hz ha => ?_⟩⟩
  · have hx : s.access h = .ones := by
      rw [State.access, State.haltedRead, hp, hc]; rfl
    have hrun : s.filing.running = false := by
      rw [Filing.running]
      cases hph : s.filing.boot.phase <;> simp_all [Phase.halted]
    rw [exec_boardReadGrant hs hk hport (by rw [hx]; rintro z ⟨⟩)]
    refine congrArg Host.Outcome.next (State.serveRead_granted (f1 := s.filing) ?_ ?_ ?_ ?_)
    · rw [hx]; cases err <;> rfl
    · simp
    · rw [hx]; cases err <;> rfl
    · simp [Filing.readServed, hc, hrun]
  · show execUnbackedRead m addr w s = _
    rw [execUnbackedRead, State.readAs_of_reads hr (readRow_of_unbacked hu _), State.allOnes, Board.serveAll_ones]
  · obtain ⟨-, hrun⟩ := State.running_of_reads hr
    have hl : s.latchesRefusal (s.classify addr) = true := by simp [State.latchesRefusal, hrun]
    have hexec : exec (.refusedRead m addr w) s = .next { s with
        board := s.board.served m addr w (onesWord w), filing := s.filing.latchProtection m (s.classify addr) } := by
      show execRefusedRead m addr w s = _
      rw [execRefusedRead, State.readAs_of_reads hr (readRow_of_refused hz ha), State.refusal, if_pos hl, State.allOnes,
        Board.serveAll_ones]
    exact ⟨_, hexec, rfl, rfl, rfl, Filing.latchProtection_agrees .., Filing.latch_policy ..,
      Filing.latchProtection_latches .., Filing.latchProtection_capture .., Filing.latch_dirty_status _ _ rfl⟩

/-- Settles O9. -/
theorem generalReads : Obligations.GeneralReads := by
  refine ⟨fun s m addr w g hr hg => ?_, fun s h g hgr hp hg => ?_⟩
  · obtain ⟨-, hs, ht, ha⟩ := (State.reads_iff s addr w).mp hr
    refine ⟨_, execBoardRead_eq ha hs ht hg, ?_, ?_⟩ <;>
      rw [← Board.holds_of_general (m := m) hg] <;> split_ifs with hh <;> simp [hh]
  · obtain ⟨-, hs, hk⟩ := (State.grants_iff s _).mp hgr
    exact ⟨exec_boardReadGrant_general hs hk hp hg, fun d => exec_boardReadGrant_general hs hk hp hg⟩

/-- Settles O12. -/
theorem forwardReadIsDecided : Obligations.ForwardReadIsDecided := by
  refine ⟨fun s h c o hg hp hc => ?_, fun s m addr w c o hr hcl ho hm hq => ?_⟩
  · obtain ⟨hh, -⟩ := State.running_of_grants hg
    obtain ⟨-, hs, hk⟩ := (State.grants_iff s _).mp hg
    have hh := State.haltedRead_of_not_halted (h := h) hh
    refine ⟨fun p n ho hsend hpg hn hb => ?_, fun ho hno => ?_, fun ho hb => ?_⟩
    · have hx : s.access h = .data { page := p, length := (s.filing.page p).length, block := n } o := by
        rw [State.access_forward_data hh hc ho, Filing.grantForward, Filing.forwardPage, if_pos hsend, hpg]
        exact congrArg (dataAccess · o) (Filing.grantPage_of_blockAt hn)
      refine ⟨?_, fun d => ⟨_, exec_boardReadGrant_data (err := some d) hg hp hx hb, rfl, rfl, ?_⟩⟩
      · rw [exec_boardReadGrant_data (err := none) hg hp hx hb, Filing.readServed_forward hc]
        rfl
      · have hE : s.filing.readError h (s.access h) = s.filing.parityOnPage (some c) none p := by
          rw [hx]; simp only [Filing.readError, hc]
        have hch : (s.filing.parityOnPage (some c) none p).chan c = s.filing.chan c := by
          simp only [Filing.chan, Filing.parityOnPage_channels]
        simp only [Option.isSome_some, if_true, hE, Filing.readServed_forward hc]
        refine ⟨?_, ?_, ?_, ?_⟩
        · rw [Filing.forwardServed_page, Filing.parityOnPage_page]
        · rw [Filing.forwardServed_doc, Filing.parityOnPage_damaged]
        · rw [Filing.forwardServed_monitors, Filing.parityOnPage_latches]
        · rw [Filing.forwardServed_eq, hch, if_pos hsend, Filing.chan_setChan]
    · have hx : s.access h = .unused := by
        rw [State.access_forward_data hh hc ho, Filing.grantForward, Filing.forwardPage]
        split_ifs with hsend
        · have hno := hno.resolve_left (not_not.mpr hsend)
          cases hpg : (s.filing.chan c).sending with
          | none => rfl
          | some p => exact congrArg (dataAccess · o) (Filing.grantPage_of_hole (hno p hpg))
        · rfl
      rw [exec_boardReadGrant_unused hg hp hx, Filing.readServed_forward hc]
      rfl
    · have hx := State.access_forward_slot hh hc ho
      refine ⟨?_, fun d => ⟨_, exec_boardReadGrant_window (err := some d) hs hk hp hx hb, rfl, rfl, ?_⟩⟩
      · rw [exec_boardReadGrant_window (err := none) hs hk hp hx hb, Filing.readServed_forward hc]
        rfl
      · have hch : (s.filing.latch (windowError h.master)).chan c = s.filing.chan c := by
          simp only [Filing.chan, Filing.latch_channels]
        simp only [Option.isSome_some, if_true, Filing.readServed_forward hc]
        refine ⟨?_, ?_, ?_, ?_⟩
        · rw [Filing.forwardServed_dir, Filing.latch_dir]
        · rw [Filing.forwardServed_monitors, Filing.latch_windowError_latches]
        · rw [Filing.forwardServed_monitors, Filing.latch_windowError_capture]
        · rw [Filing.forwardServed_eq, hch]
          split_ifs
          · rw [Filing.chan_setChan]
          · exact hch
  · have hdec := exec_forwardDataRead hr hcl ho hm hq
    have hnone (hn : ¬ (s.filing.translateForward c o).isSome = true) : exec (.forwardDataRead m addr w) s =
        .next { s with board := s.board.served m addr w 0, filing := s.filing.forwardServed c } := by
      rw [hdec, if_neg hn, State.forwardZero_eq]
      rfl
    refine ⟨fun hsend => ?_, fun p hsend hpg hout => ?_, fun p n hsend hpg hlt hn => ?_⟩
    · rw [hnone (by rw [Filing.translateForward_isSome]; rintro ⟨_, _, h1, -⟩; exact hsend h1), Filing.forwardServed_eq,
        if_neg hsend]
    · rw [hnone, Filing.forwardServed_eq, if_pos hsend]
      rw [Filing.translateForward_isSome]
      rintro ⟨q, n, -, hq', hlt, hn⟩
      obtain rfl : p = q := by simpa [hpg] using hq'
      rcases hout with hle | hnone
      · omega
      · rw [hnone] at hn; cases hn
    · rw [hdec, if_pos (Filing.translateForward_isSome.mpr ⟨p, n, hsend, hpg, hlt, hn⟩)]
      rfl

/-- Settles O13. -/
theorem reviewReadIsDecided : Obligations.ReviewReadIsDecided := by
  refine ⟨fun s h r o hg hp hc => ?_, fun s addr w r o hr hcl => ⟨exec_reviewDataRead_tail hr hcl, fun ho hq => ?_⟩⟩
  · obtain ⟨hh, -⟩ := State.running_of_grants hg
    have hh := State.haltedRead_of_not_halted (h := h) hh
    refine ⟨fun b n hbind hn hbank => ?_, fun hno => ?_⟩
    · have hx : s.access h = .data { page := b.page, length := (s.filing.page b.page).length, block := n } o := by
        rw [State.access_review hh hc, Filing.grantReview, Filing.reviewPage, hbind]
        exact congrArg (dataAccess · o) (Filing.grantPage_of_blockAt hn)
      refine ⟨?_, fun d => ⟨_, exec_boardReadGrant_data (err := some d) hg hp hx hbank, rfl, rfl, ?_⟩⟩
      · rw [exec_boardReadGrant_data (err := none) hg hp hx hbank, Filing.readServed_review hc]
        rfl
      · have hE : s.filing.readError h (s.access h) = s.filing.parityOnPage none (some 0) b.page := by
          rw [hx]; simp only [Filing.readError, hc]
        simp only [Option.isSome_some, if_true, hE, Filing.readServed_review hc]
        exact ⟨Filing.parityOnPage_page .., Filing.parityOnPage_damaged .., Filing.parityOnPage_bindings ..,
          Filing.parityOnPage_latches ..⟩
    · have hx : s.access h = .unused := by
        rw [State.access_review hh hc, Filing.grantReview, Filing.reviewPage]
        cases hbind : s.filing.binding r with
        | none => rfl
        | some b => exact congrArg (dataAccess · o) (Filing.grantPage_of_hole (hno b hbind))
      rw [exec_boardReadGrant_unused hg hp hx, Filing.readServed_review hc]
  · have hdec := exec_reviewDataRead hr hcl ho hq
    have hnone (hn : ∀ b n, s.filing.binding r = some b → o < (s.filing.page b.page).length →
        s.filing.blockAt b.page (o / 8192) ≠ some n) : exec (.reviewDataRead 0 addr w) s =
          .next { s with board := s.board.served 0 addr w 0 } := by
      rw [hdec, if_neg, State.reviewZero_eq]
      · rfl
      · rw [Filing.translateReview_isSome]
        exact fun ⟨b, n, h1, h2, h3⟩ => hn b n h1 h2 h3
    refine ⟨fun hb => hnone ?_, fun b hb hout => hnone ?_, fun b n hb hlt hn => ?_⟩
    · intro b n hb'
      rw [hb] at hb'; cases hb'
    · intro b' n hb' hlt hn
      obtain rfl : b = b' := by simpa [hb] using hb'
      rcases hout with hle | hnone
      · omega
      · rw [hnone] at hn; cases hn
    · rw [hdec, if_pos (Filing.translateReview_isSome.mpr ⟨b, n, hb, hlt, hn⟩)]
      rfl

end


section
/-! PROOFS. Reads of mirrored records and of the fault word (R13, R57, R163 to R165, R175). -/

namespace Sys2Proof.Machine

/-! ## Mirrored records read at the port -/

theorem readRow_mirror {m z : Nat} (hm : m ≤ 24) (hz : m ≠ 0 ∨ inFaultWord z = false) :
    readRow m (.control z) = .mirror := by
  have hf : ¬ (m = 0 ∧ inFaultWord z = true) := by
    rintro ⟨h0, h1⟩
    rcases hz with h | h
    · exact h h0
    · rw [h] at h1; cases h1
  simp [readRow, AddrClass.readAllowed, Config.channelCount, hm, hf]

theorem inFaultWord_iff (z : Nat) : inFaultWord z = true ↔ 0x40 ≤ z ∧ z < 0x44 := by
  rw [inFaultWord, Bool.and_eq_true, decide_eq_true_eq, decide_eq_true_eq]
  rfl

theorem readRow_faultWord {z : Nat} (h : inFaultWord z = true) : readRow 0 (.control z) = .faultWord := by
  simp [readRow, AddrClass.readAllowed, h]

/-- The fault word lies in the status record (Table 37). -/
theorem recordAt_faultWord (blocks : Nat) {z : Nat} (h1 : 0x40 ≤ z) (h2 : z < 0x44) :
    (recordAt blocks z).map RecordPlace.record = some .status := by
  have e1 : areaPlace Config.headerBase 32 1 z (fun _ => .layoutHeader) = none := by
    rw [areaPlace, if_neg]; simp only [Config.headerBase]; omega
  have e2 : ∃ f l, areaPlace Config.statusBase 64 1 z (fun _ => .status) = some ⟨.status, f, l⟩ := by
    rw [areaPlace, if_pos]
    · exact ⟨_, _, rfl⟩
    · simp only [Config.statusBase]; omega
  obtain ⟨f, l, e2⟩ := e2
  simp [recordAt, e1, e2]

section
variable {s : State} {addr : Word} {w : Width} {m : BitVec 5} {z : Nat}

theorem BitVec.eq_zero_of_toNat {m : BitVec 5} (h : m.toNat = 0) : m = 0 := BitVec.eq_of_toNat_eq h

/-- A control window read is held as the port takes it (R13). -/
theorem exec_mirrorRead (h : s.reads addr w = true) (hc : s.classify addr = .control z) (hm : m.toNat ≤ 24)
    (hz : m ≠ 0 ∨ inFaultWord z = false) :
    exec (.mirrorRead m addr w) s = .next (s.holdRead (heldRead m addr w (.control z) none)) := by
  obtain ⟨hp, -⟩ := State.running_of_reads h
  have hz' : m.toNat ≠ 0 ∨ inFaultWord z = false := hz.imp_left fun h0 h1 => h0 (BitVec.eq_of_toNat_eq h1)
  show execMirrorRead m addr w s = _
  rw [execMirrorRead, State.readAs_of_reads h (by rw [hc]; exact readRow_mirror hm hz')]
  simp only [hp, hc, Bool.false_eq_true, if_false]

theorem exec_faultWordRead (h : s.reads addr w = true) (hc : s.classify addr = .control z)
    (hz : inFaultWord z = true) : exec (.faultWordRead 0 addr w) s = .next (s.holdRead (heldRead 0 addr w (.control z)
      (some (s.filing.monitors.latches, s.filing.monitors.capture.isSome)))) := by
  obtain ⟨hp, hr⟩ := State.running_of_reads h
  show execFaultWordRead 0 addr w s = _
  rw [execFaultWordRead, State.readAs_of_reads h (by rw [hc]; exact readRow_faultWord hz)]
  simp only [hp, hc, Bool.false_eq_true, if_false, Filing.readSet, hr, if_true]

theorem exec_forwardSlotRead {c o : Nat} (h : s.reads addr w = true) (hc : s.classify addr = .forward c o)
    (ho : 1048448 ≤ o) (hm : m.toNat = c) :
    exec (.forwardSlotRead m addr w) s = .next (s.holdRead (heldRead m addr w (.forward c o) none)) := by
  obtain ⟨-, hr⟩ := State.running_of_reads h
  show execForwardSlotRead m addr w s = _
  rw [execForwardSlotRead, State.readAs_of_reads h (by rw [hc]; exact readRow_forward_slot hm ho)]
  simp only [hr, hc, if_true]

end

/-! ## The guard at a service (R164, R165) -/

/-- Records whose first word opens the guard. -/
def RecordId.guardable (r : RecordId) : Prop :=
  (∃ k, r = .document k) ∨ (∃ k, r = .page k) ∨ (∃ k, r = .mailbox k) ∨ (∃ k, r = .channel k)

theorem Filing.guardServed_opens {f : Filing} {p : RecordPlace} (hf : p.first = true) (hr : RecordId.guardable p.record) :
    f.guardServed p = { f with mirror := { f.mirror with guarded := some (p.record, 2) } } := by
  unfold Filing.guardServed
  rcases hr with ⟨k, hr⟩ | ⟨k, hr⟩ | ⟨k, hr⟩ | ⟨k, hr⟩ <;> simp [hf, hr]

theorem Filing.guardServed_not_opens {f : Filing} {p : RecordPlace} (h : ¬ (p.first = true ∧ RecordId.guardable p.record)) :
    f.guardServed p = if p.last = true ∧ f.isGuarded p.record = true then f.closeGuard else f := by
  obtain ⟨r, a, b⟩ := p
  unfold Filing.guardServed
  cases a
  · simp
  · cases r with
    | document k => exact absurd ⟨rfl, .inl ⟨k, rfl⟩⟩ h
    | page k => exact absurd ⟨rfl, .inr (.inl ⟨k, rfl⟩)⟩ h
    | mailbox k => exact absurd ⟨rfl, .inr (.inr (.inl ⟨k, rfl⟩))⟩ h
    | channel k => exact absurd ⟨rfl, .inr (.inr (.inr ⟨k, rfl⟩))⟩ h
    | layoutHeader | status | route | policy | block => simp

/-- The service of a guarding read touches the guard alone. -/
theorem Filing.guardServed_frame (f : Filing) (p : RecordPlace) :
    ∃ g, f.guardServed p = { f with mirror := { f.mirror with guarded := g } } := by
  by_cases h : p.first = true ∧ RecordId.guardable p.record
  · exact ⟨_, Filing.guardServed_opens h.1 h.2⟩
  · rw [Filing.guardServed_not_opens h]
    split_ifs
    · exact ⟨none, rfl⟩
    · exact ⟨f.mirror.guarded, rfl⟩

/-- The mirrored record that a control window read acts on: of master 0 alone. -/
def HeldRead.place (h : HeldRead) (blocks z : Nat) : Option RecordPlace :=
  if h.master = 0 then recordAt blocks z else none

theorem Filing.readServed_control {f : Filing} {h : HeldRead} {z : Nat} (hc : h.cls = .control z) (hn : h.noted = none)
    (hr : f.running = true) : f.readServed h = match HeldRead.place h f.blockCount z with
      | some p => f.guardServed p
      | none => f := by
  unfold HeldRead.place
  simp only [Filing.readServed, hc, hr, and_true, hn]
  split_ifs <;> rfl

theorem Filing.readServed_control_frame (f : Filing) {h : HeldRead} {z : Nat} (hc : h.cls = .control z)
    (hn : h.noted = none) (hr : f.running = true) :
    ∃ g, f.readServed h = { f with mirror := { f.mirror with guarded := g } } := by
  rw [Filing.readServed_control hc hn hr]
  cases HeldRead.place h f.blockCount z with
  | none => exact ⟨f.mirror.guarded, rfl⟩
  | some p => exact f.guardServed_frame p

/-! ## The fault word's service (R57, R175) -/

theorem Filing.mark_dirty_of_dirty {f : Filing} {r q : RecordId} (h : f.dirty r = true) : (f.mark q).dirty r = true := by
  by_cases hr : r = q
  · subst hr; exact f.mark_dirty r
  · rw [Filing.mark_dirty_ne f hr, h, Bool.true_or]

theorem channelNumbers_nodup : channelNumbers.Nodup := by decide

theorem mem_channelNumbers (c : Nat) : c ∈ channelNumbers ↔ 1 ≤ c ∧ c ≤ 24 := by
  simp only [channelNumbers, numbers, Config.channelCount, List.mem_map, List.mem_range]
  constructor
  · rintro ⟨i, hi, rfl⟩; omega
  · exact fun h => ⟨c - 1, by omega, by omega⟩

/-- One channel of the unlocking. -/
def Filing.unlock (f : Filing) (c : Nat) : Filing :=
  if (f.chan c).state = .locked then (f.setChan c { f.chan c with state := .idle, timer := none }).mark (.channel c) else f

theorem Filing.unlockAll_eq (f : Filing) : f.unlockAll = channelNumbers.foldl Filing.unlock f := rfl

theorem Filing.unlock_dir (f : Filing) (c : Nat) : (f.unlock c).dir = f.dir := by
  unfold Filing.unlock; split_ifs <;> simp
theorem Filing.unlock_monitors (f : Filing) (c : Nat) : (f.unlock c).monitors = f.monitors := by
  unfold Filing.unlock; split_ifs <;> simp
theorem Filing.unlock_ring (f : Filing) (c : Nat) : (f.unlock c).ring = f.ring := by
  unfold Filing.unlock; split_ifs <;> simp

theorem Filing.unlock_dirty {f : Filing} {r : RecordId} (c : Nat) (h : f.dirty r = true) : (f.unlock c).dirty r = true := by
  unfold Filing.unlock
  split_ifs
  · exact Filing.mark_dirty_of_dirty h
  · exact h

theorem Filing.unlock_chan (f : Filing) (c e : Nat) : (f.unlock c).chan e =
    if e = c ∧ (f.chan e).state = .locked then { f.chan e with state := .idle, timer := none } else f.chan e := by
  unfold Filing.unlock
  by_cases he : e = c
  · subst he; split_ifs <;> simp_all
  · split_ifs <;> simp_all [Filing.chan_setChan_ne]

/-- Each channel is unlocked once, the others stay (R57). -/
theorem Filing.foldl_unlock_chan (cs : List Nat) (f : Filing) (e : Nat) : (cs.foldl Filing.unlock f).chan e =
    if e ∈ cs ∧ (f.chan e).state = .locked then { f.chan e with state := .idle, timer := none } else f.chan e := by
  induction cs generalizing f with
  | nil => simp
  | cons c cs ih =>
    rw [List.foldl_cons, ih, f.unlock_chan]
    by_cases he : e = c <;> by_cases hl : (f.chan e).state = .locked <;> simp [he, hl]
    all_goals simp_all

theorem Filing.foldl_unlock_dirty (cs : List Nat) {f : Filing} {r : RecordId} (h : f.dirty r = true) :
    (cs.foldl Filing.unlock f).dirty r = true := by
  induction cs generalizing f with
  | nil => exact h
  | cons c cs ih => exact ih (Filing.unlock_dirty c h)

/-- The clearing at the service (R175): the latches noted, but a LOW whose condition is present. -/
theorem Filing.clearLatches_latches (f : Filing) (set : BitVec 10) (full : Bool) {i : Nat} (hi : i < 10) :
    (f.clearLatches set full).monitors.latches.getLsbD i =
      (f.monitors.latches.getLsbD i && (!set.getLsbD i || (i == 4 && f.lowPresent))) := by
  have hlow : (latchBit .low).getLsbD i = (i == 4) := by
    interval_cases i <;> rfl
  have hkeep : (if f.lowPresent then latchBit .low else 0).getLsbD i = (i == 4 && f.lowPresent) := by
    cases f.lowPresent <;> simp [hlow]
  simp only [Filing.clearLatches, Filing.mark_monitors, BitVec.getLsbD_and, BitVec.getLsbD_not, hi, decide_true,
    Bool.true_and, hkeep, Bool.not_and, Bool.not_or, Bool.not_not]

/-- What the clearing and the unlocking leave (R57, R175). -/
theorem Filing.readServed_faultWord {f : Filing} {h : HeldRead} {z : Nat} {set : BitVec 10} {full : Bool}
    (hm : h.master = 0) (hc : h.cls = .control z) (hn : h.noted = some (set, full)) (hr : f.running = true) :
    f.readServed h = (f.clearLatches set full).unlockAll := by
  simp only [Filing.readServed, hc, hm, hr, hn, and_self, if_true]

section
variable (f : Filing) (set : BitVec 10) (full : Bool)

theorem Filing.unlockAll_monitors : f.unlockAll.monitors = f.monitors :=
  foldl_keeps Filing.monitors _ _ _ Filing.unlock_monitors
theorem Filing.unlockAll_dir : f.unlockAll.dir = f.dir := foldl_keeps Filing.dir _ _ _ Filing.unlock_dir
theorem Filing.unlockAll_ring : f.unlockAll.ring = f.ring := foldl_keeps Filing.ring _ _ _ Filing.unlock_ring

theorem Filing.unlockAll_chan (e : Nat) : f.unlockAll.chan e =
    if (1 ≤ e ∧ e ≤ 24) ∧ (f.chan e).state = .locked then { f.chan e with state := .idle, timer := none }
    else f.chan e := by
  rw [Filing.unlockAll_eq, Filing.foldl_unlock_chan]
  simp only [mem_channelNumbers]

/-- The service of a fault word read, in the terms of R57 and R175. -/
structure Filing.faultWordServed (f g : Filing) (full : Bool) : Prop where
  policy : g.monitors.policy = f.monitors.policy
  unlocked : ∀ c, 1 ≤ c → c ≤ 24 → (f.chan c).state = .locked → g.chan c = { f.chan c with state := .idle, timer := none }
  others : ∀ c, (f.chan c).state ≠ .locked → g.chan c = f.chan c
  dirty : g.dirty .status = true
  dir : g.dir = f.dir
  ring : g.ring = f.ring
  capture : g.monitors.capture = if full then none else f.monitors.capture

theorem Filing.clearLatches_unlockAll_served : f.faultWordServed (f.clearLatches set full).unlockAll full where
  policy := by rw [Filing.unlockAll_monitors]; rfl
  unlocked c h1 h2 hl := by rw [Filing.unlockAll_chan, Filing.clearLatches_chan, if_pos ⟨⟨h1, h2⟩, hl⟩]
  others c hl := by rw [Filing.unlockAll_chan, Filing.clearLatches_chan, if_neg (fun h => hl h.2)]
  dirty := Filing.foldl_unlock_dirty _ (Filing.mark_dirty ..)
  dir := by rw [Filing.unlockAll_dir]; rfl
  ring := by rw [Filing.unlockAll_ring]; rfl
  capture := by rw [Filing.unlockAll_monitors]; rfl

theorem Filing.clearLatches_unlockAll_latches {i : Nat} (hi : i < 10) :
    (f.clearLatches set full).unlockAll.monitors.latches.getLsbD i =
      (f.monitors.latches.getLsbD i && (!set.getLsbD i || (i == 4 && f.lowPresent))) := by
  rw [Filing.unlockAll_monitors, Filing.clearLatches_latches _ _ _ hi]

end

/-- The PARITY latch among the ten. -/
theorem parityLatch_getLsbD {i : Nat} (hi : i < 10) : (0x100#10).getLsbD i = (i == 8) := by
  interval_cases i <;> rfl

theorem Filing.latch_lowPresent (f : Filing) (e : LatchEvent) : (f.latch e).lowPresent = f.lowPresent := by
  exact decide_eq_decide.mpr (by rw [Filing.freeCount, Filing.freeCount, Filing.latch_blocks, Filing.latch_policy])

end Sys2Proof.Machine

open Sys2Proof Sys2Proof.Machine

/-- Settles O10. -/
theorem mirrorReadsWaitForTheFlush : Obligations.MirrorReadsWaitForTheFlush := by
  refine ⟨fun s h z hg hp hc hn hb => ?_, fun s m addr w z hr hc hm hq => ⟨fun hz => ?_, ?_⟩, ?_⟩
  · obtain ⟨hh, hrun⟩ := State.running_of_grants hg
    obtain ⟨-, hs, hk⟩ := (State.grants_iff s _).mp hg
    have hx := State.access_control (State.haltedRead_of_not_halted (h := h) hh) hc
    have hserved := Filing.readServed_control hc hn hrun
    obtain ⟨g, hframe⟩ := s.filing.readServed_control_frame hc hn hrun
    refine ⟨_, exec_boardReadGrant_window hs hk hp hx hb, rfl, rfl, rfl, ?_, ?_, ?_, ?_, ?_, fun d => ?_⟩
    · show s.filing.readServed h = { s.filing with mirror :=
        { s.filing.mirror with guarded := (s.filing.readServed h).mirror.guarded } }
      rw [hframe]
    · intro p hpl ⟨hf, ho⟩
      show (s.filing.readServed h).mirror.guarded = _
      rw [hserved, HeldRead.place, hpl]
      simp only [Filing.guardServed_opens hf ho]
    · intro p hpl ho hcl
      show (s.filing.readServed h).mirror.guarded = _
      rw [hserved, HeldRead.place, hpl]
      simp only [Filing.guardServed_not_opens ho, if_pos hcl, Filing.closeGuard_guarded]
    · intro p hpl ho hcl
      show (s.filing.readServed h).mirror.guarded = _
      rw [hserved, HeldRead.place, hpl]
      simp only [Filing.guardServed_not_opens ho, if_neg hcl]
    · intro hpl
      show (s.filing.readServed h).mirror.guarded = _
      rw [hserved, HeldRead.place, hpl]
    · have hrun' : (s.filing.latch (windowError h.master)).running = true := by simp [hrun]
      obtain ⟨g, hframe⟩ := (s.filing.latch (windowError h.master)).readServed_control_frame hc hn hrun'
      refine ⟨_, exec_boardReadGrant_window (err := some d) hs hk hp hx hb, rfl, rfl, ?_⟩
      simp only [Option.isSome_some, if_true, hframe]
      exact ⟨Filing.latch_dir .., Filing.latch_windowError_latches .., Filing.latch_windowError_capture ..⟩
  · obtain ⟨hh, -⟩ := State.running_of_reads hr
    rw [exec_mirrorRead hr hc hm (hz.imp_right And.left),
      State.holdRead_of_not_holds (Board.not_holds_of_zone rfl hq),
      State.decideRead_control_store hh rfl (hz.imp (fun h0 h1 => h0 h1.1) And.right)]
    rfl
  · intro n p hm0 hf ha hp hrec hd hgd
    obtain ⟨hh, hrun⟩ := State.running_of_reads hr
    subst hm0
    rw [exec_mirrorRead hr hc (Nat.zero_le _) (.inr hf), State.holdRead_of_not_holds (Board.not_holds_of_zone rfl hq),
      State.decideRead_control_record hh rfl rfl hrun hp, hrec, State.readRecord_of_ahead ha hd hgd]
    rfl
  · intro s m addr w r i hr hq ha hi
    obtain ⟨hh, hrun⟩ := State.running_of_reads hr
    have hexec : exec i s = .next (s.readRecord (heldRead m addr w (s.classify addr) none) r) := by
      rcases hi with ⟨rfl, rfl, z, p, hc, hf, hp, rfl⟩ | ⟨rfl, c, o, hc, ho, hm, rfl⟩
      · rw [exec_mirrorRead hr hc (Nat.zero_le _) (.inr hf), hc,
          State.holdRead_of_not_holds (Board.not_holds_of_zone rfl hq), State.decideRead_control_record hh rfl rfl hrun hp]
      · rw [exec_forwardSlotRead hr hc ho hm, hc, State.holdRead_of_not_holds (Board.not_holds_of_zone rfl hq),
          State.decideRead_forward_slot hh rfl ho]
    refine ⟨fun hd hgd => ?_, fun hd => ?_⟩
    · rw [hexec, State.readRecord_of_dirty hd hgd, Filing.demand_of_dirty hd]
      rfl
    · rw [hexec, State.readRecord_of_clean ha hd]
      rfl

/-- Settles O11. -/
theorem faultWordRead : Obligations.FaultWordRead := by
  refine ⟨fun s addr w z hr hc h1 h2 => ?_, fun s h z set full hg hp hm hc h1 h2 hn hb => ?_⟩
  · obtain ⟨hh, hrun⟩ := State.running_of_reads hr
    have hexec := exec_faultWordRead hr hc ((inFaultWord_iff z).mpr ⟨h1, h2⟩)
    obtain ⟨p, hp, hrec⟩ := Option.map_eq_some_iff.mp (recordAt_faultWord s.filing.blockCount h1 h2)
    refine ⟨fun hq => ?_, fun hq hd hgd => ?_, fun hq hd => ?_⟩
    · rw [hexec, State.holdRead_of_holds ((Board.holds_of_zone rfl).mpr hq)]
      rfl
    · rw [hexec, State.holdRead_of_not_holds (Board.not_holds_of_zone rfl hq),
        State.decideRead_control_record hh rfl rfl hrun hp, hrec, State.readRecord_of_dirty hd hgd,
        Filing.demand_of_dirty hd]
      rfl
    · rw [hexec, State.holdRead_of_not_holds (Board.not_holds_of_zone rfl hq),
        State.decideRead_control_record hh rfl rfl hrun hp, hrec,
        State.readRecord_of_clean (fun _ _ => RecordId.noConfusion) hd]
      rfl
  · obtain ⟨hh, hrun⟩ := State.running_of_grants hg
    obtain ⟨-, hs, hk⟩ := (State.grants_iff s _).mp hg
    have hx := State.access_control (State.haltedRead_of_not_halted (h := h) hh) hc
    have hbank : z + h.width.bytes ≤ s.store.bankMiB * 1048576 := by
      have := width_bytes_le h.width
      omega
    have hexec (err : Option Word) := exec_boardReadGrant_window (err := err) hs hk hp hx hbank
    rw [hm] at hexec
    refine ⟨?_, fun d => ?_⟩
    · have hv := s.filing.clearLatches_unlockAll_served set full
      have hlat := fun i => @Filing.clearLatches_unlockAll_latches s.filing set full i
      rw [← Filing.readServed_faultWord hm hc hn hrun] at hv
      simp only [← Filing.readServed_faultWord hm hc hn hrun] at hlat
      exact ⟨_, hexec none, ⟨rfl, rfl, rfl, hv.policy, hv.unlocked, hv.others, hv.dirty, hv.dir⟩, hlat, hv.capture, hv.ring⟩
    · have hrun' : (s.filing.latch (windowError 0)).running = true := by simp [hrun]
      have hv := (s.filing.latch (windowError 0)).clearLatches_unlockAll_served set full
      have hlat := fun i => @Filing.clearLatches_unlockAll_latches (s.filing.latch (windowError 0)) set full i
      rw [← Filing.readServed_faultWord hm hc hn hrun'] at hv
      simp only [← Filing.readServed_faultWord hm hc hn hrun', Filing.latch_lowPresent] at hlat
      have hch (c : Nat) : (s.filing.latch (windowError 0)).chan c = s.filing.chan c := Filing.latch_chan ..
      refine ⟨_, hexec (some d), ⟨rfl, rfl, rfl, hv.policy.trans (Filing.latch_policy ..), fun c c1 c2 hl => ?_,
        fun c hl => ?_, hv.dirty, hv.dir.trans (Filing.latch_dir ..)⟩, fun i hi => ?_, ?_⟩
      · rw [← hch c]; exact hv.unlocked c c1 c2 (by rw [hch]; exact hl)
      · rw [← hch c]; exact hv.others c (by rw [hch]; exact hl)
      · refine (hlat i hi).trans ?_
        rw [Filing.latch_windowError_latches]
        cases s.filing.monitors.policy.masks.getLsbD 8
        · simp only [Bool.false_eq_true, if_false, BitVec.getLsbD_or, parityLatch_getLsbD hi, Bool.not_false, Bool.and_true]
        · simp only [if_true, Bool.not_true, Bool.and_false, Bool.or_false]
      · refine hv.capture.trans ?_
        rw [Filing.latch_windowError_capture]
        rfl

end


section
/-! PROOFS. Drains with no behaviour of their own, the grants of kinds 2 and 3, and reads that a write or a flush lets go on
(R10 to R13, R23, R163). -/

namespace Sys2Proof.Machine

/-! ## A head that leaves the queue -/

/-- What lets a held read go on reaches the filing blocks by a demand or a confirm timer alone (R116, R163). -/
theorem State.decideRead_filing (s : State) (h : HeldRead) : (s.decideRead h).filing = s.filing ∨
    (∃ r, (s.decideRead h).filing = s.filing.demand r) ∨ ∃ c, (s.decideRead h).filing = s.filing.forwardServed c := by
  rcases s.decideRead_cases h with e | ⟨r, e⟩ | e | ⟨c, e⟩ | e <;> rw [e]
  · exact .inl rfl
  · unfold State.readRecord
    dsimp only
    split_ifs
    · exact .inr (.inl ⟨r, rfl⟩)
    · exact .inl rfl
  · exact .inl rfl
  · exact .inr (.inr ⟨c, rfl⟩)
  · exact .inl rfl

theorem State.leaveQueue_filing (s : State) : s.leaveQueue.filing = s.filing ∨
    (∃ r, s.leaveQueue.filing = s.filing.demand r) ∨ ∃ c, s.leaveQueue.filing = s.filing.forwardServed c := by
  unfold State.leaveQueue State.recheckRead
  split
  · split_ifs
    · exact State.decideRead_filing _ _
    · exact .inl rfl
  · exact .inl rfl

/-- A field of the filing blocks that a demand and a confirm timer leave alone stays as the head leaves. -/
theorem State.leaveQueue_keeps {α : Type} (p : Filing → α) (s : State) (hd : ∀ f r, p (Filing.demand r f) = p f)
    (hc : ∀ f c, p (Filing.forwardServed c f) = p f) : p s.leaveQueue.filing = p s.filing := by
  rcases s.leaveQueue_filing with e | ⟨r, e⟩ | ⟨c, e⟩ <;> rw [e]
  · exact hd _ _
  · exact hc _ _

theorem State.leaveQueue_monitors (s : State) : s.leaveQueue.filing.monitors = s.filing.monitors :=
  s.leaveQueue_keeps Filing.monitors (by simp) (by simp)
theorem State.leaveQueue_dir (s : State) : s.leaveQueue.filing.dir = s.filing.dir :=
  s.leaveQueue_keeps Filing.dir (by simp) (by simp)
theorem State.leaveQueue_blocks (s : State) : s.leaveQueue.filing.blocks = s.filing.blocks :=
  s.leaveQueue_keeps Filing.blocks (by simp) (by simp)
theorem State.leaveQueue_boxes (s : State) : s.leaveQueue.filing.boxes = s.filing.boxes :=
  s.leaveQueue_keeps Filing.boxes (by simp) (by simp)
theorem State.leaveQueue_posting (s : State) : s.leaveQueue.filing.posting = s.filing.posting :=
  s.leaveQueue_keeps Filing.posting (by simp) (by simp)

/-! ## Drains with no behaviour of their own -/

section
variable {s : State} {x : Staged}

theorem Filing.drainRow_of_general {g : Nat} (f : Filing) (h : x.cls.general = some g) : f.drainRow x = .plain := by
  cases hc : x.cls <;> simp_all [AddrClass.general, Filing.drainRow]

theorem Filing.drainRow_of_unbacked (f : Filing) (h : x.cls = .unbacked ∨ x.cls = .zoneUnbacked) :
    f.drainRow x = .plain := by
  rcases h with h | h <;> simp [Filing.drainRow, h]

theorem AddrClass.dest_of_general {c : AddrClass} {g : Nat} (h : c.general = some g) : c.dest = some (.general g) := by
  cases c <;> simp_all [AddrClass.general, AddrClass.dest]

/-- A plain write from READY onwards waits for its store write, or leaves the queue (R10, R11). -/
theorem exec_writeDrain (hd : s.drains x = true) (hr : s.filing.drainRow x = .plain) :
    exec .writeDrain s = .next (s.drained x.cls.dest none) := by
  have hrun : s.filing.running = true := by simp [Filing.running, ((State.drains_iff s x).mp hd).1]
  show execWriteDrain s = _
  rw [execWriteDrain, State.drainAs_of_drains hd hr]
  simp only [State.plainDest, hrun, Bool.not_true, Bool.and_false, Bool.false_eq_true, if_false]

theorem State.drained_some (d : Dest) : s.drained (some d) none = { s with board := s.board.await d } := rfl

/-- A write that no master check allows, from READY onwards (R7). -/
theorem exec_refusedWrite (hc : s.calm = true) (ho : s.offers x = true)
    (ha : x.cls.writeAllowed x.write.master.toNat = false) : exec .refusedWrite s =
      .next (State.leaveQueue { s with filing := s.filing.latchProtection x.write.master x.cls }) := by
  obtain ⟨hp, hs⟩ := (State.calm_iff s).mp hc
  obtain ⟨hh, q, hq⟩ := (State.offers_iff s x).mp ho
  have hrow : s.drainRow x = .refused := by
    simp [State.drainRow, ha, State.latchesRefusal, Filing.running, hp]
  show execRefusedWrite s = _
  rw [execRefusedWrite, State.drainAs_eq hs hh hq hrow]
  rfl

end

/-! ## The grants of kinds 2 and 3 -/

/-- A write-ahead or flush of a record leaves every other record's mark (R162). -/
theorem Filing.unmark_dirty_ne {f : Filing} {r q : RecordId} (h : q ≠ r) : (f.unmark r).dirty q = f.dirty q := by
  simp [Filing.dirty, Filing.unmark, h]

theorem State.wakeRead_filing (s : State) (r : RecordId) : (s.wakeRead r).filing = s.filing := by
  unfold State.wakeRead
  split
  · split_ifs <;> rfl
  · rfl

theorem State.wakeScrub_dirty (s : State) (r : RecordId) : s.wakeScrub.filing.dirty r = s.filing.dirty r := by
  unfold State.wakeScrub
  split
  · split_ifs <;> rfl
  · rfl

/-- What has been written is clean, and no other record's mark moves. -/
theorem State.recordWritten_dirty (s : State) (r q : RecordId) :
    (s.recordWritten r).filing.dirty q = (s.filing.unmark r).dirty q := by
  simp only [State.recordWritten, State.wakeScrub_dirty, State.wakeRead_filing]
  cases r <;> rfl

theorem State.exec_writeAheadWrite {s : State} {n : Nat} (hg : s.grants .ahead = true) (ha : s.board.ahead = some n) :
    exec .writeAheadWrite s = .next ((s.granted .ahead).writeAhead n) := by
  have ha' : (s.granted .ahead).board.ahead = some n := ha
  show execWriteAheadWrite s = _
  rw [execWriteAheadWrite, State.grantAs_of_grants hg]
  simp only [ha']

theorem Memory.readWord_write (m : Memory) (a : Nat) (w : Word) : (m.write a (wordsBytes [w])).readWord a = w := by
  have h := Memory.readBytes_write m a (wordsBytes [w])
  rw [wordsBytes_length, List.length_singleton] at h
  rw [Memory.readWord]
  show bytesWord ((m.write a (wordsBytes [w])).readBytes a (4 * 1)) = w
  rw [h]
  exact bytesWord_wordBytes w

theorem BoardWrite.bytes_length (w : BoardWrite) : w.bytes.length = w.width.bytes := wordBytes_take_length ..

/-- The bytes of a store write read back (R10). -/
theorem Memory.readBytes_write_boardWrite (m : Memory) (a : Nat) (w : BoardWrite) :
    (m.write a w.bytes).readBytes a w.width.bytes = (wordBytes w.data).take w.width.bytes := by
  have h := Memory.readBytes_write m a w.bytes
  rwa [BoardWrite.bytes_length] at h

/-- The head's store write at its grant, within the fitted bank. -/
theorem State.exec_headStoreWrite {s : State} {w : HeadWork} {x : Staged} {q : List Staged} (hg : s.grants .head = true)
    (hh : s.board.head = some w) (hq : s.board.queue = x :: q)
    (hb : ∀ a, w.dest.pageByte = some a → a + x.write.width.bytes ≤ s.store.bankMiB * 1048576) :
    exec .headStoreWrite s = .next ((s.granted .head).storeHead w x.write.bytes) := by
  show execHeadStoreWrite s = _
  rw [execHeadStoreWrite, State.grantAs_of_grants hg]
  simp only [State.granted_head, State.granted_queue, hh, hq, State.onBank, BoardWrite.bytes_length]
  cases ha : w.dest.pageByte with
  | none => rfl
  | some a =>
    have : (s.granted .head).store.has a x.write.width.bytes = true := decide_eq_true (hb a ha)
    simp only [this, if_true]

theorem State.storeHead_store (s : State) (w : HeadWork) (bs : List Byte) : (s.storeHead w bs).store =
    match w.dest with
    | .general a => { s.store with general := s.store.general.write a bs }
    | .page a => { s.store with page := s.store.page.write a bs } := by
  obtain ⟨d, a⟩ := w
  cases d <;> simp only [State.storeHead, State.wakeScrub_store, State.leaveQueue_store]

end Sys2Proof.Machine

open Sys2Proof Sys2Proof.Machine

/-- Settles O15. -/
theorem unownedAndRefusedWritesDrain : Obligations.UnownedAndRefusedWritesDrain := by
  refine ⟨fun s x hd => ⟨fun g hg => ?_, fun c o hc h1 h2 => ?_, fun c o hc h1 h2 => ?_, fun hu => ?_⟩,
    fun s x hc ho ha => ?_⟩
  · rw [exec_writeDrain hd (Filing.drainRow_of_general _ hg), AddrClass.dest_of_general hg, State.drained_some]
  · have hr : s.filing.drainRow x = .plain := by
      have h0 : ¬ o < Config.dataAreaBytes := by simp only [Config.dataAreaBytes]; omega
      have h3 : ¬ o < callWordAt := by simp only [callWordAt]; omega
      have h4 : ¬ o < lateSlot := by simp only [lateSlot]; omega
      have h5 : o < lastWordAt := h2
      simp only [Filing.drainRow, hc, if_neg h0, if_neg h3, if_neg h4, if_pos h5]
    have hdest : x.cls.dest = some (.page (0x4000 + 0x100 * (c - 1) + (o - 1048448))) := by rw [hc]; rfl
    rw [exec_writeDrain hd hr, hdest, State.drained_some]
  · have hr : s.filing.drainRow x = .plain := by
      have h0 : o < lastWordAt := h2
      simp only [Filing.drainRow, hc, if_pos h0]
    have hdest : x.cls.dest = some (.page (0x4000 + 0x100 * (c - 1) + (o - 1048448) + 128)) := by rw [hc]; rfl
    rw [exec_writeDrain hd hr, hdest, State.drained_some]
  · have hdest : x.cls.dest = none := by rcases hu with h | h <;> rw [h] <;> rfl
    refine ⟨s.leaveQueue, ?_, s.leaveQueue_queue, s.leaveQueue_head, s.leaveQueue_store, fun hp => ?_⟩
    · rw [exec_writeDrain hd (Filing.drainRow_of_unbacked _ hu), hdest]
      rfl
    · rw [State.leaveQueue_of_idle hp]
  · refine ⟨_, exec_refusedWrite hc ho ha, State.leaveQueue_queue _, State.leaveQueue_head _, State.leaveQueue_store _,
      State.leaveQueue_pending _, ?_, ?_, ?_, ?_, ?_, ?_, fun hp => ?_⟩
    · rw [State.leaveQueue_monitors, Filing.latchProtection_latches]
    · rw [State.leaveQueue_monitors, Filing.latchProtection_capture]
    · rw [State.leaveQueue_dir, Filing.latchProtection_dir]
    · rw [State.leaveQueue_blocks, Filing.latchProtection_blocks]
    · rw [State.leaveQueue_boxes, Filing.latchProtection_boxes]
    · rw [State.leaveQueue_posting, Filing.latchProtection_posting]
    · rw [State.leaveQueue_of_idle (by exact hp)]
      exact Filing.latchProtection_agrees ..

/-- Settles O39. -/
theorem headOfTheQueueIsWritten : Obligations.HeadOfTheQueueIsWritten := by
  refine ⟨fun s w n hg hh ha => ?_, fun s x q a hg hq => ⟨fun hh => ?_, fun hh hb => ?_⟩⟩
  · have hahead : s.board.ahead = some n := by rw [Board.ahead, hh]; exact ha
    have hstore : ((s.granted .ahead).writeAhead n).store =
        { s.store with page := s.store.page.write (0xC0000 + 4 * n) (wordsBytes [(s.filing.block n).word]) } := by
      rw [State.writeAhead, State.recordWritten_store]
      rfl
    refine ⟨_, State.exec_writeAheadWrite hg hahead, ?_, fun b hb => ?_, ?_, ?_, ?_, ?_, fun r hr => ?_⟩
    · rw [hstore, Memory.readWord_write, BlockEntry.word_eq_layout]
    · rw [hstore]
      exact Memory.read_write_out _ _ _ _ hb
    · rw [hstore]
    · rw [State.writeAhead, State.recordWritten_head]
      show Option.map _ s.board.head = _
      rw [hh]
      rfl
    · rw [State.writeAhead, State.recordWritten_queue]
      rfl
    · rw [State.writeAhead, State.recordWritten_dirty, Filing.unmark_dirty]
      exact Bool.and_false _
    · rw [State.writeAhead, State.recordWritten_dirty, Filing.unmark_dirty_ne hr]
      rfl
  · refine ⟨_, State.exec_headStoreWrite hg hh hq (fun _ h => by cases h), ?_, State.storeHead_head .., ?_, ?_,
      fun b hb => ?_⟩
    · rw [State.storeHead_queue, State.granted_queue, hq, List.tail_cons]
    · rw [State.storeHead_store]
      rfl
    · rw [State.storeHead_store]
      exact Memory.readBytes_write_boardWrite ..
    · rw [State.storeHead_store]
      exact Memory.read_write_out _ _ _ _ (by rwa [BoardWrite.bytes_length])
  · refine ⟨_, State.exec_headStoreWrite hg hh hq (fun _ h => by cases h; exact hb), ?_, State.storeHead_head .., ?_, ?_,
      fun b hb => ?_⟩
    · rw [State.storeHead_queue, State.granted_queue, hq, List.tail_cons]
    · rw [State.storeHead_store]
      rfl
    · rw [State.storeHead_store]
      exact Memory.readBytes_write_boardWrite ..
    · rw [State.storeHead_store]
      exact Memory.read_write_out _ _ _ _ (by rwa [BoardWrite.bytes_length])

end


section
/-! PROOFS. The order of the store bus grants and the starvation count (R15, R16). -/

namespace Sys2Proof.Machine

section
variable {s t : State}

/-! ## The next grant -/

/-- Below the limit the arbiter goes by the order of R15. -/
theorem State.order_of_lt (h : s.board.starve < 16) : s.order = [.read, .ahead, .head, .result, .flush, .scrub] := by
  have hl : ¬ Config.starveLimit ≤ s.board.starve := Nat.not_le.mpr h
  simp only [State.order, hl, false_and, if_false]

/-- At the limit the part's own work goes first (R16). -/
theorem State.order_of_starved (h : s.board.starve = 16) (hi : s.internalWaits = true) :
    s.order = [.result, .flush, .scrub] := by
  have hl : Config.starveLimit ≤ s.board.starve := h.ge
  simp only [State.order, hl, hi, and_self, if_true]

theorem State.internalWaits_iff : s.internalWaits = true ↔
    s.waits .result = true ∨ s.waits .flush = true ∨ s.waits .scrub = true := by
  simp only [State.internalWaits, Bool.or_eq_true, or_assoc]

theorem State.starveAfter_eq (k : Kind) : s.starveAfter k =
    if k = .read ∨ k = .ahead ∨ k = .head then
      (if s.waits .result ∨ s.waits .flush ∨ s.waits .scrub then s.board.starve + 1 else 0)
    else 0 := by
  simp only [State.starveAfter, Bool.and_eq_true, State.internalWaits_iff]
  cases k <;> simp [Kind.isBoard]

/-! ## The count after a grant -/

/-- A grant counts as R16 says where its unit leaves the count alone. -/
theorem State.grantAs_starve {k : Kind} {act : State → Answer} (hs : s.filing.settled = true) (hk : s.nextKind = some k)
    (h : s.grantAs k act = .next t)
    (ha : act (s.granted k) = .next t → t.board.starve = (s.granted k).board.starve) :
    t.board.starve = s.starveAfter k := by
  rw [State.grantAs_eq hs hk] at h
  exact ha h

theorem execBoardReadGrant_starve {e : Option Word} (hs : s.filing.settled = true) (hk : s.nextKind = some .read)
    (h : execBoardReadGrant e s = .next t) : t.board.starve = s.starveAfter .read := by
  refine State.grantAs_starve hs hk h fun ha => ?_
  split at ha
  · rw [State.onBank_next ha]
    simp [State.serveRead]
  · cases ha
    rfl

theorem execWriteAheadWrite_starve (hs : s.filing.settled = true) (hk : s.nextKind = some .ahead)
    (h : execWriteAheadWrite s = .next t) : t.board.starve = s.starveAfter .ahead := by
  refine State.grantAs_starve hs hk h fun ha => ?_
  split at ha <;> cases ha
  · simp [State.writeAhead]
  · rfl

theorem execHeadStoreWrite_starve (hs : s.filing.settled = true) (hk : s.nextKind = some .head)
    (h : execHeadStoreWrite s = .next t) : t.board.starve = s.starveAfter .head := by
  refine State.grantAs_starve hs hk h fun ha => ?_
  split at ha
  · rw [State.onBank_next ha, State.storeHead_starve]
  · cases ha
    rfl

theorem execConsumerWordReset_starve (hs : s.filing.settled = true) (hk : s.nextKind = some .result)
    (hr : s.filing.ring.resetWaits = true) (h : execConsumerWordReset s = .next t) :
    t.board.starve = s.starveAfter .result := by
  refine State.grantAs_starve hs hk h fun ha => ?_
  rw [State.granted_filing, if_pos hr] at ha
  cases ha
  rfl

/-- With no reset waiting, the result entry that the arbiter saw waiting is written. -/
theorem execResultEntryWrite_starve (hs : s.filing.settled = true) (hk : s.nextKind = some .result)
    (hr : s.filing.ring.resetWaits = false) (h : execResultEntryWrite s = .next t) :
    t.board.starve = s.starveAfter .result := by
  refine State.grantAs_starve hs hk h fun ha => ?_
  split at ha
  · cases ha
    rfl
  · next hno =>
    have hw := State.nextKind_waits hk
    simp only [State.waits, hr, Bool.false_or, Bool.not_eq_true', List.isEmpty_eq_false_iff_exists_mem] at hw
    obtain ⟨e, he⟩ := hw
    obtain ⟨e, rest, hcons⟩ := List.exists_cons_of_ne_nil (List.ne_nil_of_mem he)
    exact (hno e rest hr hcons).elim

/-- The unit of kind 5 that the arbiter saw waiting from READY onwards. -/
theorem State.flushUnit_isSome (hk : s.nextKind = some .flush) (hr : s.filing.running = true) :
    ∃ u, s.flushUnit = some u := by
  have hw := State.nextKind_waits hk
  simp only [State.waits, hr, if_true] at hw
  exact Option.isSome_iff_exists.mp hw

theorem execRecordFlush_starve (hs : s.filing.settled = true) (hk : s.nextKind = some .flush)
    (hr : s.filing.running = true) (hc : s.flushUnit ≠ some .clean) (h : execRecordFlush s = .next t) :
    t.board.starve = s.starveAfter .flush := by
  refine State.grantAs_starve hs hk h fun ha => ?_
  split at ha
  · cases ha
    simp [State.rewriteHeader, State.flushRecord_starve]
  · cases ha
    rw [State.flushRecord_starve]
  · next hrew hrec =>
    obtain ⟨u, hu⟩ := State.flushUnit_isSome hk hr
    cases u with
    | rewrite => exact (hrew hr hu).elim
    | clean => exact (hc hu).elim
    | record r => exact (hrec r hr hu).elim

theorem execCleanHeaderWrite_starve (hs : s.filing.settled = true) (hk : s.nextKind = some .flush)
    (hr : s.filing.running = true) (hc : s.flushUnit = some .clean) (h : execCleanHeaderWrite s = .next t) :
    t.board.starve = s.starveAfter .flush := by
  simp only [execCleanHeaderWrite, State.settle_of_settled s hs, hr, hk, hc, beq_self_eq_true, Bool.and_self, if_true] at h
  cases h
  simp only [State.cleanHeader, State.flushRecord_starve]
  rfl

theorem execScrubLine_starve (hs : s.filing.settled = true) (hk : s.nextKind = some .scrub)
    (h : execScrubLine s = .next t) : t.board.starve = s.starveAfter .scrub := by
  refine State.grantAs_starve hs hk h fun ha => ?_
  split at ha
  · rw [State.onBank_next ha, (State.scrubLine_frame _ _ _).1]
  · cases ha
    rfl

/-- The command of the next grant leaves the count as R16 has it. -/
theorem State.grantCommand_starve {i : Instr} {k : Kind} (hs : s.filing.settled = true)
    (hr : k = .flush → s.filing.running = true) (hk : s.nextKind = some k) (hi : s.grantCommand = some i)
    (h : exec i s = .next t) : t.board.starve = s.starveAfter k := by
  simp only [State.grantCommand, hk] at hi
  cases k with
  | read =>
    cases hi
    exact execBoardReadGrant_starve hs hk h
  | ahead =>
    cases hi
    exact execWriteAheadWrite_starve hs hk h
  | head =>
    cases hi
    exact execHeadStoreWrite_starve hs hk h
  | result =>
    dsimp only at hi
    split_ifs at hi with hw <;> cases hi
    · exact execConsumerWordReset_starve hs hk hw h
    · exact execResultEntryWrite_starve hs hk (Bool.eq_false_iff.mpr hw) h
  | flush =>
    dsimp only at hi
    split_ifs at hi with hc <;> cases hi
    · exact execCleanHeaderWrite_starve hs hk (hr rfl) hc h
    · exact execRecordFlush_starve hs hk (hr rfl) hc h
  | scrub =>
    cases hi
    exact execScrubLine_starve hs hk h

/-- A unit of the Start-up Controller is a grant of kind 5 (R15, R16). -/
theorem State.startUnit_starve {p : Phase → Bool} {act : State → State} (h : s.startUnit p act = .next t)
    (hp : p s.filing.boot.phase = true) (hk : s.nextKind = some .flush) (ha : ∀ u, (act u).board = u.board) :
    t.board.starve = 0 := by
  rw [State.startUnit_eq hp hk] at h
  obtain rfl := Host.Outcome.next.inj h
  rw [ha]
  rfl

theorem execBreset_starve (hp : s.filing.boot.phase ≠ .off) (hb : s.board.breset = false)
    (h : execBreset s = .next t) : t.board.starve = 0 := by
  rw [execBreset, if_neg (by simp [hp, hb])] at h
  obtain rfl := Host.Outcome.next.inj h
  simp [Board.abandon]

end

end Sys2Proof.Machine

open Sys2Proof Sys2Proof.Machine

/-- Settles O43. -/
theorem starvationCount : Obligations.StarvationCount := by
  refine ⟨rfl, fun s t i hle h => (exec_moves h).starve_le hle, fun s hlt => ?_, fun s t hp hb h => execBreset_starve hp hb h,
    fun s t i k hs hr hk hi h => ?_, fun s t i p errs e hst h hi => ?_, fun s h16 hw => ?_, fun s h16 hw hf => ?_,
    fun s h16 hw hf hc => ?_⟩
  · rw [State.nextKind, State.order_of_lt hlt]
  · rw [← State.starveAfter_eq]
    rcases hi with hi | ⟨e, rfl, rfl⟩
    · exact State.grantCommand_starve hs hr hk hi h
    · exact execBoardReadGrant_starve hs hk h
  · obtain ⟨hp, hk⟩ := (State.startsAt_iff s p).mp hst
    rcases hi with ⟨rfl, rfl⟩ | ⟨rfl, rfl⟩ | ⟨rfl, rfl⟩ | ⟨rfl, rfl⟩ | ⟨rfl, rfl⟩ | ⟨rfl, hp'⟩
    · exact State.startUnit_starve (show execSizingProbe e s = .next t from h)
        (by rw [hp]; rfl) hk (fun _ => rfl)
    · exact State.startUnit_starve (show execLayoutHeaderCheck e s = .next t from h)
        (by rw [hp]; rfl) hk (fun u => (State.headerCheck_frame e u).1)
    · exact State.startUnit_starve (show execFreshFormat s = .next t from h)
        (by rw [hp]; rfl) hk (fun u => u.freshFormat_frame.1)
    · exact State.startUnit_starve (show execRecoveryWalk errs s = .next t from h)
        (by rw [hp]; rfl) hk (fun _ => rfl)
    · exact State.startUnit_starve (show execRebuild s = .next t from h)
        (by rw [hp]; rfl) hk (fun u => u.rebuild_frame.1)
    · exact State.startUnit_starve (show execReady s = .next t from h)
        (by rcases hp' with hp' | hp' <;> rw [hp, hp'] <;> rfl) hk (fun u => u.ready_frame.1)
  · rw [State.nextKind, State.order_of_starved h16 (State.internalWaits_iff.mpr (.inl hw))]
    simp only [List.find?_cons, hw]
  · rw [State.nextKind, State.order_of_starved h16 (State.internalWaits_iff.mpr (.inr (.inl hf)))]
    simp only [List.find?_cons, hw, hf]
  · rw [State.nextKind, State.order_of_starved h16 (State.internalWaits_iff.mpr (.inr (.inr hc)))]
    simp only [List.find?_cons, hw, hf, hc]

end


section
/-! PROOFS. Reads that wait for staged writes or for a flush, and go on (R10, R12, R13, R114, R134, R163). -/

namespace Sys2Proof.Machine

/-! ## Reads held as the port takes them -/

/-- The set that a taken read notes (R175). -/
def State.notedBy (s : State) (m : BitVec 5) (z : Nat) : Option (BitVec 10 × Bool) :=
  if m = 0 ∧ inFaultWord z = true then some (s.filing.monitors.latches, s.filing.monitors.capture.isSome) else none

section
variable {s : State} {addr : Word} {w : Width} {m : BitVec 5}

/-- The command and the noted set of a control window read that its master may make. -/
theorem exec_controlRead {z : Nat} (h : s.reads addr w = true) (hc : s.classify addr = .control z) (hm : m.toNat ≤ 24) :
    exec (readCommand m addr w (.control z)) s = .next (s.holdRead (heldRead m addr w (.control z) (s.notedBy m z))) := by
  have h24 : ¬ 24 < m.toNat := Nat.not_lt.mpr hm
  by_cases hf : m = 0 ∧ inFaultWord z = true
  · obtain ⟨rfl, hz⟩ := hf
    simp only [readCommand, State.notedBy, if_neg h24, hz, and_self, if_true]
    exact exec_faultWordRead h hc hz
  · simp only [readCommand, State.notedBy, if_neg h24, if_neg hf]
    rw [not_and, Bool.not_eq_true] at hf
    exact exec_mirrorRead h hc hm (or_iff_not_imp_left.mpr fun hm0 => hf (not_not.mp hm0))

theorem readCommand_faultWord_iff {z : Nat} (hm : m.toNat ≤ 24) :
    readCommand m addr w (.control z) = .faultWordRead m addr w ↔ m = 0 ∧ inFaultWord z = true := by
  have h24 : ¬ 24 < m.toNat := Nat.not_lt.mpr hm
  simp only [readCommand, if_neg h24]
  split_ifs with hf
  · simp [hf]
  · exact ⟨nofun, fun h => (hf h).elim⟩

theorem exec_forwardRead {c o : Nat} (h : s.reads addr w = true) (hc : s.classify addr = .forward c o)
    (hm : m.toNat = c) : readCommand m addr w (.forward c o) ≠ .faultWordRead m addr w ∧
      exec (readCommand m addr w (.forward c o)) s = .next (s.holdRead (heldRead m addr w (.forward c o) none)) := by
  by_cases ho : o < 1048448
  · simp only [readCommand, if_neg (not_not.mpr hm), if_pos ho]
    exact ⟨nofun, exec_forwardDataRead_holdRead h hc ho hm⟩
  · simp only [readCommand, if_neg (not_not.mpr hm), if_neg ho]
    exact ⟨nofun, exec_forwardSlotRead h hc (Nat.not_lt.mp ho) hm⟩

theorem State.holdRead_of_staged {cls : AddrClass} (noted : Option (BitVec 10 × Bool)) (hg : cls.general = none)
    (hx : ∃ x ∈ s.board.queue, x.write.master = m) : s.holdRead (heldRead m addr w cls noted) =
      { s with board := s.board.holding m addr w cls .writes noted } := by
  rw [State.holdRead_of_holds ((Board.holds_of_zone hg).mpr hx)]
  rfl

end

/-! ## What a read that goes on waits for -/

section
variable {u : State} {h : HeldRead}

theorem Filing.demand_guarded (f : Filing) (r q : RecordId) : (f.demand r).isGuarded q = f.isGuarded q := by
  unfold Filing.demand
  split_ifs <;> rfl

theorem Filing.demand_dirty (f : Filing) (r q : RecordId) : (f.demand r).dirty q = f.dirty q := by
  by_cases hr : f.dirty r = true
  · rw [Filing.demand_of_dirty hr]
    by_cases hq : q = r
    · subst hq; simp only [Filing.dirty] at hr ⊢; simp [hr]
    · simp [Filing.dirty, hq]
  · rw [Filing.demand, if_neg hr]

/-- The record read, no write-ahead write being awaited: it waits for the demanded flush, or for the store bus (R163). -/
theorem State.readRecord_goesOn {r : RecordId} (ha : u.board.ahead = none) :
    let t := u.readRecord h r
    (t.filing.dirty r = true → t.filing.isGuarded r = false →
      t.board.port = .readHeld { h with phase := .flush r } ∧ t.filing.mirror.flushList.head? = some r) ∧
    (t.filing.dirty r = false ∨ t.filing.isGuarded r = true → t.board.port = .readHeld { h with phase := .store }) := by
  by_cases hd : u.filing.dirty r = true ∧ u.filing.isGuarded r = false
  · obtain ⟨hd, hg⟩ := hd
    simp only [State.readRecord_of_dirty hd hg, Filing.demand_dirty, Filing.demand_guarded, hd, hg, true_and]
    refine ⟨fun _ _ => ?_, fun hn => by simp at hn⟩
    rw [Filing.demand_of_dirty hd]
    rfl
  · have hd' : u.filing.dirty r = false ∨ u.filing.isGuarded r = true := by
      rw [not_and_or] at hd
      simpa using hd
    simp only [State.readRecord_of_clean (by simp [ha]) hd']
    exact ⟨fun h1 h2 => (hd ⟨h1, h2⟩).elim, fun _ => rfl⟩

/-- A page's block holds the offset, below its length (R114, R134). -/
def State.findsBlock (t : State) (h : HeldRead) (o : Nat) : Prop :=
  ∃ p n, t.readPageOf h = some p ∧ o < (t.filing.page p).length ∧ t.filing.blockAt p (o / 8192) = some n

theorem State.findsBlock_forward {c o x : Nat} (hc : h.cls = .forward c x) :
    u.findsBlock h o ↔ (u.filing.translateForward c o).isSome = true := by
  rw [Filing.translateForward_isSome, State.findsBlock]
  simp only [State.readPageOf, hc]
  constructor
  · rintro ⟨p, n, hp, hl, hb⟩
    split_ifs at hp with hs
    exact ⟨p, n, hs, hp, hl, hb⟩
  · rintro ⟨p, n, hs, hp, hl, hb⟩
    exact ⟨p, n, by rw [if_pos hs, hp], hl, hb⟩

theorem State.findsBlock_review {r o x : Nat} (hc : h.cls = .review r x) :
    u.findsBlock h o ↔ (u.filing.translateReview r o).isSome = true := by
  rw [Filing.translateReview_isSome, State.findsBlock]
  simp only [State.readPageOf, hc, Option.map_eq_some_iff]
  constructor
  · rintro ⟨p, n, ⟨b, hb, rfl⟩, hl, hn⟩
    exact ⟨b, n, hb, hl, hn⟩
  · rintro ⟨b, n, hb, hl, hn⟩
    exact ⟨b.page, n, ⟨b, hb, rfl⟩, hl, hn⟩

theorem Filing.pageChain_forwardServed (f : Filing) (c p : Nat) : (f.forwardServed c).pageChain p = f.pageChain p := by
  simp [Filing.pageChain]

/-- The service of zero bytes leaves what the translation looks at. -/
theorem Filing.translateForward_forwardServed (f : Filing) (c o : Nat) :
    (f.forwardServed c).translateForward c o = f.translateForward c o := by
  have hpage : (f.forwardServed c).forwardPage c = f.forwardPage c := by
    rw [Filing.forwardServed_eq]
    split_ifs <;> simp [Filing.forwardPage]
  have hblock (p j : Nat) : (f.forwardServed c).blockAt p j = f.blockAt p j := by
    simp [Filing.blockAt, Filing.pageChain_forwardServed]
  simp [Filing.translateForward, Filing.translatePage, Filing.grantPage, hpage, hblock]

/-- What the owner of a forward data read decides, told at the state after it. -/
theorem State.decideRead_forward_goesOn (hp : u.filing.boot.phase.halted = false) {c o : Nat}
    (hc : h.cls = .forward c o) (ho : o < 1048448) :
    let t := u.decideRead h
    (t.findsBlock h o → t.board.port = .readHeld { h with phase := .store }) ∧
    (¬ t.findsBlock h o → t.board.port = .idle ∧
      t.board.reply = some { master := h.master, addr := h.addr, width := h.width, data := 0 }) := by
  simp only [State.findsBlock_forward hc, State.decideRead_forward_data hp hc ho]
  split_ifs with ht
  · exact ⟨fun _ => rfl, fun hn => (hn ht).elim⟩
  · rw [State.forwardZero_eq]
    simp only [Filing.translateForward_forwardServed]
    exact ⟨fun hn => (ht hn).elim, fun _ => ⟨rfl, rfl⟩⟩

theorem State.decideRead_review_goesOn (hp : u.filing.boot.phase.halted = false) {r o : Nat}
    (hc : h.cls = .review r o) :
    let t := u.decideRead h
    (t.findsBlock h o → t.board.port = .readHeld { h with phase := .store }) ∧
    (¬ t.findsBlock h o → t.board.port = .idle ∧
      t.board.reply = some { master := h.master, addr := h.addr, width := h.width, data := 0 }) := by
  simp only [State.findsBlock_review hc, State.decideRead_review hp hc]
  split_ifs with ht
  · exact ⟨fun _ => rfl, fun hn => (hn ht).elim⟩
  · rw [State.reviewZero_eq]
    exact ⟨fun hn => (ht hn).elim, fun _ => ⟨rfl, rfl⟩⟩

/-- The record of a read stays as its owner decides. -/
theorem State.decideRead_readRecordOf : (u.decideRead h).readRecordOf h = u.readRecordOf h := by
  have hb : (u.decideRead h).filing.boot = u.filing.boot := by
    rcases u.decideRead_filing h with e | ⟨r, e⟩ | ⟨c, e⟩ <;> rw [e] <;> simp
  unfold State.readRecordOf
  simp only [Filing.blockCount, hb]

/-- A read with a record of its own is a read of that record (R163). -/
theorem State.decideRead_of_record (hp : u.filing.boot.phase.halted = false) {r : RecordId}
    (hr : u.readRecordOf h = some r) : u.decideRead h = u.readRecord h r := by
  unfold State.readRecordOf at hr
  cases hc : h.cls with
  | control z =>
    simp only [hc] at hr
    split_ifs at hr with hm
    obtain ⟨p, hpl, rfl⟩ := Option.map_eq_some_iff.mp hr
    exact State.decideRead_control_record hp hc hm.1 (by simp [Filing.running, hm.2]) hpl
  | forward c o =>
    simp only [hc] at hr
    split_ifs at hr with ho
    cases hr
    exact State.decideRead_forward_slot hp hc (Nat.not_lt.mp ho)
  | _ => simp [hc] at hr

/-- A read of no record and of no data area waits for the store bus (R12, R13). -/
theorem State.decideRead_of_plain (hp : u.filing.boot.phase.halted = false) (hr : u.readRecordOf h = none)
    (hf : ∀ c o, h.cls ≠ .forward c o) (hv : ∀ r o, h.cls ≠ .review r o) : u.decideRead h = u.readStore h := by
  cases hc : h.cls with
  | control z =>
    refine State.decideRead_control_store hp hc ?_
    simp only [State.readRecordOf, hc] at hr
    split_ifs at hr with hm
    · exact .inr (Option.map_eq_none_iff.mp hr)
    · exact .inl fun ⟨h1, h2⟩ => hm ⟨h1, by simpa [Filing.running] using h2⟩
  | forward c o => exact (hf c o hc).elim
  | review r o => exact (hv r o hc).elim
  | _ =>
    rw [State.decideRead, State.haltedRead_of_not_halted hp]
    simp [hc]

/-- A read in whose way nothing stands any more goes on (R12, R13, R114, R134, R163). -/
theorem State.decideRead_goesOn (hp : u.filing.boot.phase.halted = false) (ha : u.board.ahead = none) :
    (u.decideRead h).readGoesOn h := by
  refine ⟨fun r hr => ?_, fun c o hc ho => State.decideRead_forward_goesOn hp hc ho,
    fun r o hc => State.decideRead_review_goesOn hp hc, fun hr hf hv => ?_⟩
  · rw [State.decideRead_readRecordOf] at hr
    rw [State.decideRead_of_record hp hr]
    exact State.readRecord_goesOn ha
  · rw [State.decideRead_readRecordOf] at hr
    rw [State.decideRead_of_plain hp hr hf hv]
    rfl

/-- The Scrub Unit's waking leaves the reads. -/
theorem State.wakeScrub_cases (t : State) :
    t.wakeScrub = t ∨ ∃ x, t.wakeScrub = { t with filing := { t.filing with scrubber := x } } := by
  unfold State.wakeScrub
  split
  · split_ifs
    · exact .inr ⟨_, rfl⟩
    · exact .inl rfl
  · exact .inl rfl

theorem State.readGoesOn_wakeScrub {t : State} (hg : t.readGoesOn h) : t.wakeScrub.readGoesOn h := by
  rcases t.wakeScrub_cases with e | ⟨x, e⟩ <;> rw [e]
  · exact hg
  · exact hg

theorem State.wakeScrub_board (t : State) : t.wakeScrub.board = t.board := by
  rcases t.wakeScrub_cases with e | ⟨x, e⟩ <;> rw [e]

theorem State.recheckRead_of_writes (hport : u.board.port = .readHeld h) (hw : h.phase = .writes) :
    u.recheckRead = if u.board.holds h.master h.cls = false then u.decideRead h else u := by
  rw [State.recheckRead]
  simp only [hport, hw, true_and]

/-- What has become at t of a read that waited for staged writes, as one left the queue. -/
def State.readWentOn (t : State) (h : HeldRead) : Prop :=
  (t.board.bars h → t.board.port = .readHeld h) ∧ (¬ t.board.bars h → t.readGoesOn h)

/-- The head leaves: a read in whose way another write stands waits on, any other goes on (R10, R12, R13). -/
theorem State.leaveQueue_readWentOn (hp : u.filing.boot.phase.halted = false) (hport : u.board.port = .readHeld h)
    (hw : h.phase = .writes) : u.leaveQueue.readWentOn h := by
  have hl := State.recheckRead_of_writes (h := h)
    (u := { u with board := { u.board with queue := u.board.queue.tail, head := none } }) hport hw
  rw [State.leaveQueue, hl]
  split_ifs with hb
  · have hb' := (Bool.eq_false_iff.mp hb) ∘ (Board.holds_iff_bars h).mpr
    have hq : ∀ {v : State} {r : HeldRead}, (v.decideRead r).board.bars h ↔ v.board.bars h := by
      intro v r
      rw [← Board.holds_iff_bars, ← Board.holds_iff_bars, Board.holds, Board.holds, State.decideRead_queue]
    exact ⟨fun hn => (hb' (hq.mp hn)).elim, fun _ => State.decideRead_goesOn hp rfl⟩
  · have hb' := (Board.holds_iff_bars h).mp (Bool.not_eq_false _ ▸ hb)
    exact ⟨fun _ => hport, fun hn => (hn hb').elim⟩

theorem State.storeHead_readWentOn (w : HeadWork) (bs : List Byte) (hp : u.filing.boot.phase.halted = false)
    (hport : u.board.port = .readHeld h) (hw : h.phase = .writes) : (u.storeHead w bs).readWentOn h := by
  rw [State.storeHead, State.readWentOn, State.wakeScrub_board]
  obtain ⟨h1, h2⟩ := State.leaveQueue_readWentOn (h := h) (u := { u with store := match w.dest with
    | .general a => { u.store with general := u.store.general.write a bs }
    | .page a => { u.store with page := u.store.page.write a bs } }) hp hport hw
  exact ⟨h1, fun hb => State.readGoesOn_wakeScrub (h2 hb)⟩

end

/-! ## A flush that lets a read go on -/

theorem State.recordWritten_port {s : State} {h : HeldRead} (q : RecordId) (hport : s.board.port = .readHeld h) :
    (s.recordWritten q).board.port = .readHeld (if h.phase = .flush q then { h with phase := .store } else h) := by
  simp only [State.recordWritten, State.wakeScrub_board, State.wakeRead, hport]
  split_ifs <;> simp [State.readStore, hport]

theorem State.flushRecord_port {s : State} {h : HeldRead} (q : RecordId) (hport : s.board.port = .readHeld h) :
    (s.flushRecord q).board.port = .readHeld (if h.phase = .flush q then { h with phase := .store } else h) :=
  State.recordWritten_port q hport

theorem State.rewriteHeader_port {s : State} {h : HeldRead} (hport : s.board.port = .readHeld h) :
    s.rewriteHeader.board.port =
      .readHeld (if h.phase = .flush .layoutHeader then { h with phase := .store } else h) :=
  State.flushRecord_port _ hport

theorem State.writeAhead_port {s : State} {h : HeldRead} (n : Nat) (hport : s.board.port = .readHeld h) :
    (s.writeAhead n).board.port = .readHeld (if h.phase = .flush (.block n) then { h with phase := .store } else h) :=
  State.recordWritten_port _ hport

section
variable {s : State}

/-- A record's flush at its grant (R162). -/
theorem exec_recordFlush_record {q : RecordId} (hg : s.grants .flush = true) (hu : s.flushUnit = some (.record q)) :
    exec .recordFlush s = .next ((s.granted .flush).flushRecord q) := by
  have hu' : (s.granted .flush).flushUnit = some (.record q) := hu
  show execRecordFlush s = _
  rw [execRecordFlush, State.grantAs_of_grants hg]
  simp only [State.granted_filing, (State.running_of_grants hg).2, hu']

/-- The header write that clears the clean flag at its grant (R187). -/
theorem exec_recordFlush_rewrite (hg : s.grants .flush = true) (hr : s.filing.mirror.rewrite = true) :
    exec .recordFlush s = .next (s.granted .flush).rewriteHeader := by
  have hu : (s.granted .flush).flushUnit = some .rewrite := by rw [State.flushUnit, State.granted_filing, if_pos hr]
  show execRecordFlush s = _
  rw [execRecordFlush, State.grantAs_of_grants hg]
  simp only [State.granted_filing, (State.running_of_grants hg).2, hu]

end

end Sys2Proof.Machine

open Sys2Proof Sys2Proof.Machine

/-- Settles O14. -/
theorem heldReadsWaitAndGoOn : Obligations.HeldReadsWaitAndGoOn := by
  refine ⟨fun s m addr w i hr hx hi noted hn hcls => ?_, fun s t h x q i hc hbr hpl hport hw hq he htq => ?_,
    fun s h r hport hph => ⟨fun hg hu => ?_, fun q hg hu hne => ?_, fun hg hrw hr => ?_, fun n hr hg ha => ?_⟩⟩
  · rcases hcls with ⟨z, hc, hm⟩ | ⟨c, o, hc, hm⟩ | ⟨r, o, hc, rfl, ho⟩
    · have hn' : noted = s.notedBy m z := by
        rw [hn, hi, hc, State.notedBy]
        simp only [readCommand_faultWord_iff hm]
      rw [hi, hc, exec_controlRead hr hc hm, State.holdRead_of_staged _ rfl hx, hn']
    · obtain ⟨hne, hexec⟩ := exec_forwardRead hr hc hm
      rw [hi, hc, if_neg hne] at hn
      rw [hi, hc, hexec, State.holdRead_of_staged _ rfl hx, hn]
    · have hi' : i = .reviewDataRead 0 addr w := by rw [hi, hc]; rfl
      rw [hi', if_neg (by exact nofun)] at hn
      rw [hi', hc, exec_reviewDataRead_holdRead hr hc ho, State.holdRead_of_staged _ rfl hx, hn]
  · obtain ⟨hp, hs⟩ := (State.calm_iff s).mp hc
    have hlen : q ≠ x :: q := fun e => by simpa using congrArg List.length e
    cases exec_moves he with
    | stays eq => exact (hlen (htq.symm.trans (eq.trans hq))).elim
    | joins y _ eq =>
      rw [htq, hq] at eq
      have hlen' := congrArg List.length eq
      simp only [List.length_append, List.length_cons] at hlen'
      omega
    | drains f d a hh _ hb =>
      rw [State.settle_of_settled s hs] at hb
      cases d with
      | some d =>
        rw [State.drained_queue] at htq
        exact (hlen (by rw [← hq]; exact htq.symm)).elim
      | none => exact State.leaveQueue_readWentOn (u := { s with filing := f }) (by rw [hb, hp]; rfl) hport hw
    | writes w bs _ _ =>
      rw [State.settle_of_settled s hs]
      exact State.storeHead_readWentOn (u := s.granted .head) w bs (by rw [State.granted_filing, hp]; rfl) hport hw
    | clears hi => exact (hi.elim hbr fun ⟨n, hn⟩ => hpl n hn).elim
  · exact ⟨_, exec_recordFlush_record hg hu,
      (State.flushRecord_port (s := s.granted .flush) r hport).trans (by rw [if_pos hph])⟩
  · exact ⟨_, exec_recordFlush_record hg hu, (State.flushRecord_port (s := s.granted .flush) q hport).trans
      (by rw [if_neg (by rw [hph]; exact fun e => hne (ReadPhase.flush.inj e).symm)])⟩
  · exact ⟨_, exec_recordFlush_rewrite hg hrw, (State.rewriteHeader_port (s := s.granted .flush) hport).trans
      (by rw [if_pos (by rw [hph, hr])])⟩
  · exact ⟨_, State.exec_writeAheadWrite hg ha, (State.writeAhead_port (s := s.granted .ahead) n hport).trans
      (by rw [if_pos (by rw [hph, hr])])⟩

end


section
/-! PROOFS. Board traffic between step 01h and READY, and after a halt (R179, R181). -/

namespace Sys2Proof.Machine

/-! ## The phases before READY and the halts -/

/-- From sizing up to READY. -/
def Phase.isEarly (p : Phase) : Prop :=
  p ∈ [Phase.sizing, .headerCheck, .formatting, .formatted, .walking, .rebuilding, .rebuilt]

/-- The halts E2h and E3h (R179). -/
def Phase.isHalt (p : Phase) : Prop := p = .haltShort ∨ p = .haltWrapped

theorem Phase.isEarly.startsUp {p : Phase} (h : p.isEarly) : p.startsUp = true := by
  cases p <;> simp_all [Phase.isEarly, Phase.startsUp]

theorem Phase.isEarly.not_halted {p : Phase} (h : p.isEarly) : p.halted = false := by
  cases p <;> simp_all [Phase.isEarly, Phase.halted]

theorem Phase.isEarly.ne_off {p : Phase} (h : p.isEarly) : p ≠ .off := by
  rintro rfl
  simp [Phase.isEarly] at h

theorem Phase.isHalt.halted {p : Phase} (h : p.isHalt) : p.halted = true := by
  rcases h with rfl | rfl <;> rfl

theorem Phase.clocked_of_traffic {p : Phase} (h : p.isEarly ∨ p.isHalt) : p.clocked = true := by
  cases p <;> simp_all [Phase.isEarly, Phase.isHalt, Phase.clocked]

theorem Filing.not_running_of_traffic {f : Filing} (h : f.boot.phase.isEarly ∨ f.boot.phase.isHalt) :
    f.running = false := by
  rw [Filing.running]
  cases hp : f.boot.phase <;> simp_all [Phase.isEarly, Phase.isHalt]

/-! ## Reads at the port -/

section
variable {s : State} {m : BitVec 5} {addr : Word} {w : Width}

theorem State.allOnes_eq (s : State) (m : BitVec 5) (addr : Word) (w : Width) :
    s.allOnes m addr w = { s with board := s.board.served m addr w (onesWord w) } := by
  rw [State.allOnes, Board.serveAll_ones]

/-- A refusal that latches nothing: of an aperture before READY, of any zone access after a halt (R179, R181). -/
theorem State.latchesRefusal_eq_false {cls : AddrClass} (hr : s.filing.running = false)
    (h : cls.isAperture = true ∨ s.filing.boot.phase.halted = true) : s.latchesRefusal cls = false := by
  rcases h with h | h <;> simp [State.latchesRefusal, hr, h]

theorem State.latchesRefusal_eq_true {cls : AddrClass} (ha : cls.isAperture = false)
    (hh : s.filing.boot.phase.halted = false) : s.latchesRefusal cls = true := by
  simp [State.latchesRefusal, ha, hh]

theorem readRow_control_above {z : Nat} (hm : 24 < m.toNat) : readRow m.toNat (.control z) = .refused :=
  readRow_of_refused rfl (decide_eq_false (Nat.not_le.mpr hm))

theorem readCommand_of_general {cls : AddrClass} {g : Nat} (h : cls.general = some g) :
    readCommand m addr w cls = .boardRead m addr w := by
  cases cls with
  | plain | relocated => rfl
  | _ => cases h

theorem readCommand_of_unbacked {cls : AddrClass} (h : cls = .unbacked ∨ cls = .zoneUnbacked) :
    readCommand m addr w cls = .unbackedRead m addr w := by
  rcases h with rfl | rfl <;> rfl

theorem readCommand_control_above {z : Nat} (hm : 24 < m.toNat) :
    readCommand m addr w (.control z) = .refusedRead m addr w := by
  simp only [readCommand, if_pos hm]

variable (hs : s.filing.settled = true) (ht : s.canTake = true) (ha : aligned addr w = true)
include hs ht ha

theorem execRefusedRead_eq (hrow : readRow m.toNat (s.classify addr) = .refused) : exec (.refusedRead m addr w) s =
    .next ((s.refusal m (s.classify addr)).allOnes m addr w) := by
  show execRefusedRead m addr w s = _
  rw [execRefusedRead, State.readAs_eq ha hs ht hrow]

theorem execRefusedRead_unlatched (hrow : readRow m.toNat (s.classify addr) = .refused)
    (hl : s.latchesRefusal (s.classify addr) = false) :
    exec (.refusedRead m addr w) s = .next { s with board := s.board.served m addr w (onesWord w) } := by
  rw [execRefusedRead_eq hs ht ha hrow, State.refusal, if_neg (by simp [hl]), State.allOnes_eq]

theorem execUnbackedRead_eq (hu : s.classify addr = .unbacked ∨ s.classify addr = .zoneUnbacked) :
    exec (.unbackedRead m addr w) s = .next { s with board := s.board.served m addr w (onesWord w) } := by
  show execUnbackedRead m addr w s = _
  rw [execUnbackedRead, State.readAs_eq ha hs ht (readRow_of_unbacked hu _), State.allOnes_eq]

variable (hr : s.filing.running = false)
include hr

/-- An aperture read before READY, or after a halt, is all ones at once (R179, R181). -/
theorem exec_apertureRead_unready (hap : (s.classify addr).isAperture = true) :
    exec (readCommand m addr w (s.classify addr)) s = .next { s with board := s.board.served m addr w (onesWord w) } := by
  have hrefused (hrow : readRow m.toNat (s.classify addr) = .refused) :=
    execRefusedRead_unlatched (m := m) hs ht ha hrow (State.latchesRefusal_eq_false hr (.inl hap))
  cases hc : s.classify addr with
  | plain | relocated | unbacked | zoneUnbacked | control => rw [hc] at hap; exact absurd hap Bool.false_ne_true
  | landing c o => exact hrefused (by rw [hc]; rfl)
  | forward c o =>
    by_cases hm : m.toNat = c
    · by_cases ho : o < 1048448
      · simp only [readCommand, if_neg (not_not.mpr hm), if_pos ho]
        show execForwardDataRead m addr w s = _
        rw [execForwardDataRead, State.readAs_eq ha hs ht (by rw [hc]; exact readRow_forward_data hm ho)]
        simp only [hr, Bool.false_eq_true, if_false, State.allOnes_eq]
      · simp only [readCommand, if_neg (not_not.mpr hm), if_neg ho]
        show execForwardSlotRead m addr w s = _
        rw [execForwardSlotRead,
          State.readAs_eq ha hs ht (by rw [hc]; exact readRow_forward_slot hm (Nat.not_lt.mp ho))]
        simp only [hr, Bool.false_eq_true, if_false, State.allOnes_eq]
    · simp only [readCommand, if_pos hm]
      exact hrefused (by rw [hc]; exact readRow_of_refused rfl (by simp [AddrClass.readAllowed, hm]))
  | review r o =>
    by_cases hm : m = 0
    · subst hm
      show execReviewDataRead 0 addr w s = _
      rw [execReviewDataRead, State.readAs_eq ha hs ht (by rw [hc]; rfl)]
      simp only [hr, Bool.not_false, if_true, State.allOnes_eq]
    · simp only [readCommand, ne_eq, hm, not_false_eq_true, if_true]
      have hna : (AddrClass.review r o).readAllowed m.toNat = false :=
        beq_eq_false_iff_ne.mpr fun h0 => hm (BitVec.eq_zero_of_toNat h0)
      exact hrefused (by rw [hc]; exact readRow_of_refused rfl hna)

/-- A control window read that its master may make: all ones after a halt, else held with nothing noted (R179, R181). -/
theorem exec_controlRead_unready {z : Nat} (hc : s.classify addr = .control z) (hm : m.toNat ≤ 24) :
    exec (readCommand m addr w (.control z)) s =
      .next (if s.filing.boot.phase.halted then s.allOnes m addr w else s.holdRead (heldRead m addr w (.control z) none)) := by
  have h24 : ¬ 24 < m.toNat := Nat.not_lt.mpr hm
  by_cases hf : m = 0 ∧ inFaultWord z = true
  · obtain ⟨rfl, hz⟩ := hf
    simp only [readCommand, if_neg h24, hz, and_self, if_true]
    show execFaultWordRead 0 addr w s = _
    rw [execFaultWordRead, State.readAs_eq ha hs ht (by rw [hc]; exact readRow_faultWord hz)]
    simp only [hc, Filing.readSet, hr, Bool.false_eq_true, if_false]
  · simp only [readCommand, if_neg h24, if_neg hf]
    have hz : m.toNat ≠ 0 ∨ inFaultWord z = false := by
      rw [not_and, Bool.not_eq_true] at hf
      exact or_iff_not_imp_left.mpr fun h0 => hf (BitVec.eq_zero_of_toNat (not_not.mp h0))
    show execMirrorRead m addr w s = _
    rw [execMirrorRead, State.readAs_eq ha hs ht (by rw [hc]; exact readRow_mirror hm hz)]
    simp only [hc]

/-- After a halt every zone read is all ones (R179). -/
theorem exec_zoneRead_halted (hh : s.filing.boot.phase.halted = true) (hz : (s.classify addr).isZone = true) :
    exec (readCommand m addr w (s.classify addr)) s = .next { s with board := s.board.served m addr w (onesWord w) } := by
  by_cases hap : (s.classify addr).isAperture = true
  · exact exec_apertureRead_unready hs ht ha hr hap
  · cases hc : s.classify addr with
    | control z =>
      by_cases hm : m.toNat ≤ 24
      · rw [exec_controlRead_unready hs ht ha hr hc hm, if_pos hh, State.allOnes_eq]
      · rw [readCommand_control_above (Nat.not_le.mp hm)]
        exact execRefusedRead_unlatched hs ht ha (by rw [hc]; exact readRow_control_above (Nat.not_le.mp hm))
          (State.latchesRefusal_eq_false hr (.inr hh))
    | plain | relocated | unbacked | zoneUnbacked => rw [hc] at hz; exact absurd hz Bool.false_ne_true
    | landing | forward | review => rw [hc] at hap; exact (hap rfl).elim

end

/-! ## Drains -/

section
variable {s : State} {x : Staged}

/-- Before READY no owner in the filing blocks decides a read of no aperture (R13, R181). -/
theorem State.decideRead_filing_of_unready {u : State} {h : HeldRead} (hr : u.filing.running = false)
    (hap : h.cls.isAperture = false) : (u.decideRead h).filing = u.filing := by
  unfold State.decideRead
  by_cases hh : u.haltedRead h = true
  · rw [if_pos hh]
  · rw [if_neg hh]
    cases hc : h.cls with
    | plain | relocated | unbacked | zoneUnbacked => rfl
    | control z =>
      simp only [hr, Bool.false_eq_true, and_false, if_false]
      rfl
    | landing | forward | review => rw [hc] at hap; exact absurd hap.symm Bool.false_ne_true

theorem State.leaveQueue_filing_of_unready (hr : s.filing.running = false)
    (hp : ∀ h, s.board.port = .readHeld h → h.cls.isAperture = false) : s.leaveQueue.filing = s.filing := by
  unfold State.leaveQueue State.recheckRead
  split
  · next h hport =>
    split_ifs
    · exact State.decideRead_filing_of_unready hr (hp h hport)
    · rfl
  · rfl

theorem State.plainDest_zone (hr : s.filing.running = false) (hz : x.cls.isZone = true) : s.plainDest x = none := by
  simp [State.plainDest, hz, hr]

variable (hs : s.filing.settled = true) (ho : s.offers x = true) (hr : s.filing.running = false)
include hs ho hr

/-- A write of no refusal before READY, or after a halt: stored where it is general, else discarded (R179, R181). -/
theorem exec_writeDrain_unready (h : x.cls.writeAllowed x.write.master.toNat = true ∨ s.latchesRefusal x.cls = false) :
    exec .writeDrain s = .next (s.drained (s.plainDest x) none) := by
  obtain ⟨hh, q, hq⟩ := (State.offers_iff s x).mp ho
  have hrow : s.drainRow x = .plain := by
    rcases h with h | h
    · simp [State.drainRow, h, hr]
    · simp [State.drainRow, h, hr]
  show execWriteDrain s = _
  rw [execWriteDrain, State.drainAs_eq hs hh hq hrow]

end

/-! ## Ticks -/

section
variable (f : Filing)

theorem Filing.tickChannel_frame (c : Nat) : (f.tickChannel c).clock = f.clock ∧ (f.tickChannel c).dir = f.dir ∧
    (f.tickChannel c).mirror = f.mirror ∧ (f.tickChannel c).boot = f.boot := by
  unfold Filing.tickChannel
  dsimp only
  split_ifs
  · exact ⟨rfl, rfl, rfl, rfl⟩
  · simp

/-- The channels' part of a tick (R36). -/
def Filing.tickChannels (f : Filing) : Filing := channelNumbers.foldl (fun f c => f.tickChannel c) f

theorem Filing.tickChannels_frame : f.tickChannels.clock = f.clock ∧ f.tickChannels.dir = f.dir ∧
    f.tickChannels.mirror = f.mirror ∧ f.tickChannels.boot = f.boot := by
  unfold Filing.tickChannels
  exact ⟨foldl_keeps Filing.clock _ _ _ fun f c => (f.tickChannel_frame c).1,
    foldl_keeps Filing.dir _ _ _ fun f c => (f.tickChannel_frame c).2.1,
    foldl_keeps Filing.mirror _ _ _ fun f c => (f.tickChannel_frame c).2.2.1,
    foldl_keeps Filing.boot _ _ _ fun f c => (f.tickChannel_frame c).2.2.2⟩

theorem Filing.tickGuard_flushList : f.tickGuard.mirror.flushList = f.mirror.flushList := rfl

/-- A tick before READY counts no time, and reaches neither documents nor the flush list (R139). -/
theorem Filing.tick_of_unready (hr : f.running = false) : f.tick.clock = f.clock ∧ f.tick.dir = f.dir ∧
    f.tick.mirror.flushList = f.mirror.flushList := by
  obtain ⟨hclock, hdir, hmirror, hboot⟩ := f.tickChannels_frame
  have htick : f.tick = f.tickChannels.tickGuard := by
    have hrun : ¬ f.tickChannels.running = true := by
      rw [Filing.running, hboot]
      exact Bool.eq_false_iff.mp hr
    rw [Filing.tick, ← Filing.tickChannels, Filing.tickClock, if_neg hrun]
  rw [htick, Filing.tickGuard_clock, Filing.tickGuard_dir, Filing.tickGuard_flushList, hclock, hdir, hmirror]
  exact ⟨rfl, rfl, rfl⟩

/-- A tick's command where the prescaler runs (R138). -/
theorem exec_tick {s : State} (hs : s.filing.settled = true) (hc : s.filing.boot.phase.clocked = true) :
    exec .tick s = .next s.takeTick := by
  show execTick s = _
  rw [execTick, State.settle_of_settled s hs, if_pos hc]

/-- The filing blocks with the prescaler restarted. -/
def Filing.restarted (f : Filing) : Filing := { f with clock := { f.clock with prescaler := 0 } }

theorem State.takeTick_filing (s : State) : s.takeTick.filing = s.filing.restarted.tick := by
  rw [State.takeTick, Filing.restarted]

theorem State.takeTick_of_unready {s : State} (hr : s.filing.running = false) : s.takeTick.board = s.board ∧
    s.takeTick.store = s.store ∧ s.takeTick.filing.clock = { s.filing.clock with prescaler := 0 } ∧
    s.takeTick.filing.dir = s.filing.dir ∧
    s.takeTick.filing.mirror.flushList = s.filing.mirror.flushList := by
  obtain ⟨hclock, hdir, hlist⟩ := Filing.tick_of_unready s.filing.restarted hr
  rw [State.takeTick_filing, hclock, hdir, hlist]
  exact ⟨s.takeTick_board, s.takeTick_store, rfl, rfl, rfl⟩

end

end Sys2Proof.Machine

open Sys2Proof Sys2Proof.Machine

/-- Settles O54. -/
theorem trafficBeforeReady : Obligations.TrafficBeforeReady := by
  intro s hs early halted protects
  refine ⟨fun he m addr w ht ha => ?_, fun he h hk hp hn => ?_, fun hph x ho hport => ?_, fun hph => ?_, fun he => ?_,
    fun hh m addr w ht ha hz => ?_⟩
  · have hr := Filing.not_running_of_traffic (.inl he)
    have hnh := Phase.isEarly.not_halted he
    refine ⟨fun g hg => ?_, fun hu => ?_, fun z hc hm => ?_, fun z hc hm => ?_, fun hap => ?_⟩
    · refine ⟨if s.board.holds m (s.classify addr) then .writes else .store, ?_, fun hx => ?_, fun hx => ?_⟩
      · rw [readCommand_of_general hg]
        exact execBoardRead_eq ha hs ht hg
      · rw [if_pos ((Board.holds_of_general hg).mpr hx)]
      · rw [if_neg fun hh => hx ((Board.holds_of_general hg).mp hh)]
    · rw [readCommand_of_unbacked hu]
      exact execUnbackedRead_eq hs ht ha hu
    · rw [hc, exec_controlRead_unready hs ht ha hr hc hm, if_neg (by simp [hnh])]
      refine ⟨fun hx => ?_, fun hx => ?_⟩
      · rw [State.holdRead_of_staged none rfl hx]
      · rw [State.holdRead_of_not_holds (Board.not_holds_of_zone rfl hx),
          State.decideRead_control_store hnh rfl (.inl (by simp [hr]))]
        rfl
    · have hcmd : readCommand m addr w (s.classify addr) = .refusedRead m addr w := by
        rw [hc, readCommand_control_above hm]
      have hrow : readRow m.toNat (s.classify addr) = .refused := by
        rw [hc]; exact readRow_control_above hm
      have hl : s.latchesRefusal (s.classify addr) = true := State.latchesRefusal_eq_true (by rw [hc]; rfl) hnh
      refine ⟨(s.refusal m (s.classify addr)).allOnes m addr w, ?_, ?_, ?_, ?_⟩
      · rw [hcmd, execRefusedRead_eq hs ht ha hrow]
      · rw [State.allOnes_eq, State.refusal, if_pos hl]
      · rw [State.allOnes_eq, State.refusal, if_pos hl]
      · rw [State.allOnes_eq, State.refusal, if_pos hl]
        exact ⟨Filing.latchProtection_latches .., Filing.latchProtection_agrees .., Filing.latchProtection_capture ..⟩
    · exact exec_apertureRead_unready hs ht ha hr hap
  · have hr := Filing.not_running_of_traffic (.inl he)
    have hnh := State.haltedRead_of_not_halted (h := h) (Phase.isEarly.not_halted he)
    refine ⟨fun g hg => exec_boardReadGrant_general hs hk hp hg, fun z hc hb => ?_⟩
    rw [exec_boardReadGrant_window hs hk hp (State.access_control hnh hc) hb]
    have hserved : s.filing.readServed h = s.filing := by
      simp only [Filing.readServed, hc, hr, Bool.false_eq_true, and_false, if_false]
    simp only [Option.isSome_none, Bool.false_eq_true, if_false, hserved]
    rfl
  · have hr := Filing.not_running_of_traffic hph
    have hleave : s.leaveQueue.filing = s.filing := State.leaveQueue_filing_of_unready hr hport
    have hgone (f : Filing) : (State.leaveQueue { s with filing := f }).board.queue = s.board.queue.tail ∧
        (State.leaveQueue { s with filing := f }).board.head = none ∧
        (State.leaveQueue { s with filing := f }).store = s.store :=
      ⟨State.leaveQueue_queue _, State.leaveQueue_head _, State.leaveQueue_store _⟩
    refine ⟨fun g hg => ?_, fun hx => ?_, fun z he hc ha => ?_⟩
    · have hz := AddrClass.not_isZone_of_general hg
      rw [exec_writeDrain_unready hs ho hr (.inl (AddrClass.allowed_of_not_isZone hz _).2), State.plainDest, hz,
        AddrClass.dest_of_general hg]
      rfl
    · have hdrain : (x.cls.writeAllowed x.write.master.toNat = true ∨ s.latchesRefusal x.cls = false) ∧
          s.plainDest x = none := by
        rcases hx with hx | hx | hap | ⟨hz, ha⟩
        · exact ⟨.inl (by rw [hx]; rfl), by rw [State.plainDest, hx]; rfl⟩
        · exact ⟨.inl (by rw [hx]; rfl), by rw [State.plainDest, hx]; rfl⟩
        · refine ⟨.inr (State.latchesRefusal_eq_false hr (.inl hap)), State.plainDest_zone hr ?_⟩
          cases hc : x.cls <;> simp_all [AddrClass.isZone, AddrClass.isAperture]
        · exact ⟨ha.imp_right fun hh => State.latchesRefusal_eq_false hr (.inr (Phase.isHalt.halted hh)),
            State.plainDest_zone hr hz⟩
      exact ⟨_, (exec_writeDrain_unready hs ho hr hdrain.1).trans (by rw [hdrain.2]; rfl), hgone s.filing, hleave⟩
    · obtain ⟨hh, q, hq⟩ := (State.offers_iff s x).mp ho
      have hl : s.latchesRefusal x.cls = true :=
        State.latchesRefusal_eq_true (by rw [hc]; rfl) (Phase.isEarly.not_halted he)
      have hrow : s.drainRow x = .refused := by simp [State.drainRow, ha, hl]
      have hexec : exec .refusedWrite s =
          .next (State.leaveQueue { s with filing := s.filing.latchProtection x.write.master x.cls }) := by
        show execRefusedWrite s = _
        rw [execRefusedWrite, State.drainAs_eq hs hh hq hrow]
        rfl
      have hlat : (State.leaveQueue { s with filing := s.filing.latchProtection x.write.master x.cls }).filing =
          s.filing.latchProtection x.write.master x.cls :=
        State.leaveQueue_filing_of_unready (by simpa [Filing.running] using hr) hport
      refine ⟨_, hexec, hgone _, ?_, ?_, ?_⟩ <;> rw [hlat]
      · exact Filing.latchProtection_latches ..
      · exact Filing.latchProtection_agrees ..
      · exact Filing.latchProtection_capture ..
  · exact ⟨_, exec_tick hs (Phase.clocked_of_traffic hph),
      State.takeTick_of_unready (Filing.not_running_of_traffic hph)⟩
  · have hr := Filing.not_running_of_traffic (.inl he)
    have hoff := Phase.isEarly.ne_off he
    refine ⟨?_, fun hp => ?_, fun hp => ?_, fun hb hi => ?_⟩
    · simp [State.waits, hr, Phase.isEarly.startsUp he]
    · show execPwarnAssert s = _
      rw [execPwarnAssert, if_neg (by simp [hoff, hp]), State.settle_of_settled s hs]
      simp only [hr, Bool.false_eq_true, if_false]
    · show execPwarnWithdraw s = _
      rw [execPwarnWithdraw, if_neg (by simp [hp]), State.settle_of_settled s hs]
      simp only [hr, Bool.false_eq_true, if_false]
    · show execBreset s = _
      rw [execBreset, if_neg (by simp [hoff, hb]), State.settle_of_settled s hs]
      simp only [hr, Bool.false_eq_true, if_false, State.wakeScrub, hi]
      rfl
  · exact exec_zoneRead_halted hs ht ha (Filing.not_running_of_traffic (.inr hh)) (Phase.isHalt.halted hh) hz

end


section
/-! PROOFS. What marks and notices leave of the filing blocks, and how long a told notice stays told (R156, R157). -/

namespace Sys2Proof.Machine

/-! ## Marks and notices -/

/-- g comes from f by what may mark records and raise notices while time, slots and indices stand. Entries wait behind those that
waited, and a pending notice of a key in P stays as it is. -/
structure Filing.carries (P : NoticeKey → Prop) (f g : Filing) : Prop where
  boot : g.boot = f.boot
  now : g.clock.now = f.clock.now
  posting : g.posting = f.posting
  producer : g.ring.producer = f.ring.producer
  consumer : g.ring.consumer = f.ring.consumer
  resetWaits : g.ring.resetWaits = f.ring.resetWaits
  guarded : g.mirror.guarded = f.mirror.guarded
  waiting : ∀ e ∈ f.ring.waiting, e ∈ g.ring.waiting
  lost : f.ring.lost ≤ g.ring.lost
  kept : ∀ n ∈ f.ring.pending, P n.key → n ∈ g.ring.pending
  full : 256 ≤ f.ring.pending.length →
    256 ≤ g.ring.pending.length ∧ ∀ x ∈ g.ring.pending, ∃ y ∈ f.ring.pending, y.key = x.key

section
variable {P : NoticeKey → Prop} {f g h : Filing}

theorem Filing.carries_refl (P : NoticeKey → Prop) (f : Filing) : f.carries P f :=
  ⟨rfl, rfl, rfl, rfl, rfl, rfl, rfl, fun _ h => h, le_rfl, fun _ h _ => h, fun h => ⟨h, fun x hx => ⟨x, hx, rfl⟩⟩⟩

theorem Filing.carries.trans (a : f.carries P g) (b : g.carries P h) : f.carries P h where
  boot := b.boot.trans a.boot
  now := b.now.trans a.now
  posting := b.posting.trans a.posting
  producer := b.producer.trans a.producer
  consumer := b.consumer.trans a.consumer
  resetWaits := b.resetWaits.trans a.resetWaits
  guarded := b.guarded.trans a.guarded
  waiting e he := b.waiting e (a.waiting e he)
  lost := a.lost.trans b.lost
  kept n hn hP := b.kept n (a.kept n hn hP) hP
  full hl := by
    obtain ⟨hg, hgk⟩ := a.full hl
    obtain ⟨hh, hhk⟩ := b.full hg
    refine ⟨hh, fun x hx => ?_⟩
    obtain ⟨y, hy, hyx⟩ := hhk x hx
    obtain ⟨z, hz, hzy⟩ := hgk y hy
    exact ⟨z, hz, hzy.trans hyx⟩

/-- A step that leaves the ring and the rest alone. -/
theorem Filing.carries.of_ring (a : f.carries P g) (hr : h.ring = g.ring) (hb : h.boot = g.boot)
    (hn : h.clock.now = g.clock.now) (hp : h.posting = g.posting) (hg : h.mirror.guarded = g.mirror.guarded) :
    f.carries P h :=
  a.trans
    { boot := hb, now := hn, posting := hp, producer := by rw [hr], consumer := by rw [hr], resetWaits := by rw [hr]
      guarded := hg, waiting := fun e he => by rwa [hr], lost := by rw [hr], kept := fun n hn _ => by rwa [hr]
      full := fun hl => by rw [hr]; exact ⟨hl, fun x hx => ⟨x, hx, rfl⟩⟩ }

theorem Filing.carries.mark (a : f.carries P g) (r : RecordId) : f.carries P (g.mark r) :=
  a.of_ring rfl rfl rfl rfl rfl

theorem Filing.carries.setBox (a : f.carries P g) (m : Nat) (x : Mailbox) : f.carries P (g.setBox m x) :=
  a.of_ring rfl rfl rfl rfl rfl
theorem Filing.carries.setDoc (a : f.carries P g) (s : Nat) (x : Doc) : f.carries P (g.setDoc s x) :=
  a.of_ring rfl rfl rfl rfl rfl
theorem Filing.carries.setPage (a : f.carries P g) (s : Nat) (x : Page) : f.carries P (g.setPage s x) :=
  a.of_ring rfl rfl rfl rfl rfl
theorem Filing.carries.setChan (a : f.carries P g) (c : Nat) (x : Channel) : f.carries P (g.setChan c x) :=
  a.of_ring rfl rfl rfl rfl rfl
theorem Filing.carries.removeDeadlines (a : f.carries P g) (s n : Nat) : f.carries P (g.removeDeadlines s n) :=
  a.of_ring rfl rfl rfl rfl rfl

theorem Filing.carries.foldl {α : Type} (op : Filing → α → Filing) (l : List α) (a : f.carries P g)
    (step : ∀ x i, f.carries P x → f.carries P (op x i)) : f.carries P (l.foldl op g) := by
  induction l generalizing g with
  | nil => exact a
  | cons i l ih => exact ih (step g i a)

/-! ## Notices -/

theorem Filing.carries_produceNotice (n : Notice) : f.carries P (f.produceNotice n) where
  boot := rfl
  now := rfl
  posting := rfl
  producer := rfl
  consumer := rfl
  resetWaits := rfl
  guarded := rfl
  waiting _ he := List.mem_append_left _ he
  lost := le_rfl
  kept _ hn _ := hn
  full hl := ⟨hl, fun x hx => ⟨x, hx, rfl⟩⟩

theorem mem_replaceNotice_of_key_ne {n x : Notice} {ns : List Notice} (hx : x ∈ ns) (hk : x.key ≠ n.key) :
    x ∈ replaceNotice n ns :=
  List.mem_map.mpr ⟨x, hx, if_neg hk⟩

theorem key_of_mem_replaceNotice {n x : Notice} {ns : List Notice} (hx : x ∈ replaceNotice n ns) :
    ∃ y ∈ ns, y.key = x.key := by
  obtain ⟨y, hy, rfl⟩ := List.mem_map.mp hx
  refine ⟨y, hy, ?_⟩
  split_ifs with hk
  · exact hk
  · rfl

/-- The pending set after a notice enters it: its key's notice replaced, or one more while there is room, or one more lost
(R157). -/
theorem Filing.pend_cases (f : Filing) (n : Notice) :
    (f.pend n = { f with ring := { f.ring with pending := replaceNotice n f.ring.pending } } ∧
      ∃ x ∈ f.ring.pending, x.key = n.key) ∨
    (f.pend n = { f with ring := { f.ring with pending := f.ring.pending ++ [n] } } ∧ f.ring.pending.length < 256) ∨
    (f.pend n = ({ f with ring := { f.ring with lost := f.ring.lost + 1 } } : Filing).mark .status ∧
      256 ≤ f.ring.pending.length ∧ ∀ x ∈ f.ring.pending, x.key ≠ n.key) ∨
    (f.pend n = f ∧ 256 ≤ f.ring.pending.length ∧ (∀ x ∈ f.ring.pending, x.key ≠ n.key) ∧ 65535 ≤ f.ring.lost) := by
  have hkey : (f.ring.pending.any fun x => x.key == n.key) = true ↔ ∃ x ∈ f.ring.pending, x.key = n.key := by
    simp only [List.any_eq_true, beq_iff_eq]
  unfold Filing.pend
  split_ifs with h1 h2 h3
  · exact .inl ⟨rfl, hkey.mp h1⟩
  · exact .inr (.inl ⟨rfl, h2⟩)
  · exact .inr (.inr (.inl ⟨rfl, Nat.not_lt.mp h2, fun x hx hk => h1 (hkey.mpr ⟨x, hx, hk⟩)⟩))
  · exact .inr (.inr (.inr ⟨rfl, Nat.not_lt.mp h2, fun x hx hk => h1 (hkey.mpr ⟨x, hx, hk⟩), Nat.not_lt.mp h3⟩))

theorem Filing.carries_pend {n : Notice} (hn : ¬ P n.key) : f.carries P (f.pend n) := by
  rcases f.pend_cases n with ⟨e, -⟩ | ⟨e, hl⟩ | ⟨e, -⟩ | ⟨e, -⟩ <;> rw [e]
  · refine ⟨rfl, rfl, rfl, rfl, rfl, rfl, rfl, fun _ h => h, le_rfl, fun x hx hP => ?_, fun hl => ⟨?_, fun x => ?_⟩⟩
    · exact mem_replaceNotice_of_key_ne hx fun hk => hn (hk ▸ hP)
    · simpa [replaceNotice] using hl
    · exact key_of_mem_replaceNotice
  · exact ⟨rfl, rfl, rfl, rfl, rfl, rfl, rfl, fun _ h => h, le_rfl, fun x hx _ => List.mem_append_left _ hx,
      fun hl' => absurd hl (Nat.not_lt.mpr hl')⟩
  · exact ⟨rfl, rfl, rfl, rfl, rfl, rfl, rfl, fun _ h => h, Nat.le_succ _, fun x hx _ => hx,
      fun hl => ⟨hl, fun x hx => ⟨x, hx, rfl⟩⟩⟩
  · exact Filing.carries_refl P f

theorem Filing.carries.raise {kind : NoticeKind} {doc : Option Nat} {item : KeyItem} (a : f.carries P g) (code : Nat)
    (args : List Word) (hn : ¬ P { kind := kind, doc := doc, item := item }) :
    f.carries P (g.raise kind doc item code args) := by
  refine a.trans ?_
  unfold Filing.raise
  dsimp only
  split_ifs
  · exact Filing.carries_produceNotice _
  · exact Filing.carries_pend hn

/-! ## A notice is told -/

/-- A notice just raised is told, whatever it found (R156, R157). -/
theorem Filing.tells_raise {kind : NoticeKind} {doc : Option Nat} {item : KeyItem} {code : Nat} {args : List Word}
    (hw : f.ring.waiting = []) (hn : f.now = g.now) (hl : f.ring.lost ≤ g.ring.lost) :
    f.tells (g.raise kind doc item code args) kind doc item code args := by
  unfold Filing.tells
  simp only [hw, hn, List.length_nil, List.drop_zero]
  unfold Filing.raise
  dsimp only
  split_ifs
  · refine .inl ⟨_, List.mem_append_right _ (List.mem_singleton_self _), rfl, rfl, rfl, rfl, rfl⟩
  · refine .inr ?_
    rcases g.pend_cases { key := { kind := kind, doc := doc, item := item }, code := code, args := args, time := g.now }
      with ⟨e, x, hx, hk⟩ | ⟨e, -⟩ | ⟨e, hf, hk⟩ | ⟨e, hf, hk, hmax⟩ <;> rw [e]
    · exact .inl (List.mem_map.mpr ⟨x, hx, if_pos hk⟩)
    · exact .inl (List.mem_append_right _ (List.mem_singleton_self _))
    · exact .inr ⟨hf, hk, .inl (Nat.lt_succ_of_le hl)⟩
    · exact .inr ⟨hf, hk, .inr hmax⟩

/-- A told notice stays told while no other of its key is raised. -/
theorem Filing.tells.carried {kind : NoticeKind} {doc : Option Nat} {item : KeyItem} {code : Nat} {args : List Word}
    (ht : f.tells g kind doc item code args) (hw : f.ring.waiting = []) (hc : g.carries P h)
    (hP : P { kind := kind, doc := doc, item := item }) : f.tells h kind doc item code args := by
  unfold Filing.tells at ht ⊢
  simp only [hw, List.length_nil, List.drop_zero] at ht ⊢
  rcases ht with ⟨e, he, heq⟩ | hn | ⟨hf, hk, hl⟩
  · exact .inl ⟨e, hc.waiting e he, heq⟩
  · exact .inr (.inl (hc.kept _ hn hP))
  · obtain ⟨hf', hk'⟩ := hc.full hf
    refine .inr (.inr ⟨hf', fun x hx hxk => ?_, ?_⟩)
    · obtain ⟨y, hy, hyx⟩ := hk' x hx
      exact hk y hy (hyx.trans hxk)
    · exact hl.imp (Nat.lt_of_lt_of_le · hc.lost) (le_trans · hc.lost)

end

/-! ## Owners whose notices are not in P -/

/-- P holds keys of DOC_CLOSED and RELEASED alone. -/
def ofDocuments (P : NoticeKey → Prop) : Prop := ∀ k, P k → k.kind = .docClosed ∨ k.kind = .released

section
variable {P : NoticeKey → Prop} (hP : ofDocuments P) {f g : Filing} (a : f.carries P g)
include hP a

theorem Filing.carries.raise_other {kind : NoticeKind} (doc : Option Nat) (item : KeyItem) (code : Nat)
    (args : List Word) (hk : kind ≠ .docClosed ∧ kind ≠ .released) : f.carries P (g.raise kind doc item code args) :=
  a.raise code args fun h => (hP _ h).elim hk.1 hk.2

theorem Filing.carries.raiseStoreLow : f.carries P g.raiseStoreLow := a.raise_other hP _ _ _ _ (by decide)

theorem Filing.carries.raiseFault (e : LatchEvent) : f.carries P (g.raiseFault e) :=
  Filing.carries.raise_other hP a (kind := .fault) _ _ _ _ (by decide)

theorem Filing.carries.latch (e : LatchEvent) : f.carries P (g.latch e) := by
  unfold Filing.latch
  dsimp only
  split_ifs
  · exact a
  · refine ((Filing.carries.raiseStoreLow hP ?_).raiseFault hP e).mark _
    exact a.of_ring rfl rfl rfl rfl rfl
  · refine (Filing.carries.raiseFault hP ?_ e).mark _
    exact a.of_ring rfl rfl rfl rfl rfl

theorem Filing.carries.evalOver (m : Nat) : f.carries P (g.evalOver m) := by
  unfold Filing.evalOver
  dsimp only
  split_ifs
  · exact a
  · exact ((a.setBox _ _).raise_other hP (kind := .mailboxOver) _ _ _ _ (by decide)).latch hP _
  · exact a.setBox _ _
  · exact a

theorem Filing.carries.returnUsage (m n : Nat) : f.carries P (g.returnUsage m n) := by
  unfold Filing.returnUsage Filing.setUsage
  split_ifs
  · exact a
  · exact ((a.setBox _ _).mark _).evalOver hP _

end

/-! ## The owners of documents and pages -/

theorem Filing.scrubAll_guarded (f : Filing) (ns : List Nat) : (f.scrubAll ns).mirror.guarded = f.mirror.guarded := by
  have hfold : (ns.foldl (fun f n => (f.setBlock n { state := .scrub, index := 0, next := none }).mark (.block n)) f).mirror.guarded
      = f.mirror.guarded := foldl_keeps (fun f : Filing => f.mirror.guarded) _ _ _ fun _ _ => rfl
  unfold Filing.scrubAll
  dsimp only
  split_ifs
  · exact hfold
  · exact hfold

theorem Filing.fileAll_guarded (ns : List Nat) (f : Filing) : (Filing.fileAll ns f).mirror.guarded = f.mirror.guarded := by
  induction ns generalizing f with
  | nil => rfl
  | cons n ns ih => rw [Filing.fileAll, ih]; rfl

theorem Filing.freePages_guarded (f : Filing) (s : Nat) (ps : List Nat) :
    (f.freePages s ps).mirror.guarded = f.mirror.guarded :=
  foldl_keeps (fun f : Filing => f.mirror.guarded) _ _ _ fun _ _ => rfl

theorem Filing.changeDoc_guarded (f : Filing) (s : Nat) (d : Doc) :
    (f.changeDoc s d).mirror.guarded = f.mirror.guarded := by
  unfold Filing.changeDoc
  split_ifs <;> rfl

section
variable {P : NoticeKey → Prop} {f g : Filing} (a : f.carries P g)
include a

theorem Filing.carries.scrubAll (ns : List Nat) : f.carries P (g.scrubAll ns) :=
  a.of_ring (by simp) (by simp) (by simp) (by simp) (g.scrubAll_guarded ns)

theorem Filing.carries.fileAll (ns : List Nat) : f.carries P (Filing.fileAll ns g) :=
  a.of_ring (by simp) (by simp) (by simp) (by simp) (g.fileAll_guarded ns)

theorem Filing.carries.freePages (s : Nat) (ps : List Nat) : f.carries P (g.freePages s ps) :=
  a.of_ring (by simp) (by simp) (by simp) (by simp) (g.freePages_guarded s ps)

theorem Filing.carries.setRecipient (s k : Nat) (r : Recipient) : f.carries P (g.setRecipient s k r) :=
  a.of_ring rfl rfl rfl rfl rfl

theorem Filing.carries.join (s k : Nat) (c : MailClass) : f.carries P (g.join s k c) := a.of_ring rfl rfl rfl rfl rfl

theorem Filing.carries.makeReady (s : Nat) : f.carries P (g.makeReady s) :=
  Filing.carries.foldl _ _ a fun _ _ h => (h.setRecipient _ _ _).join _ _ _

theorem Filing.carries.cancelLive (s : Nat) : f.carries P (g.cancelLive s) :=
  Filing.carries.foldl _ _ a fun _ _ h => h.setRecipient _ _ _

theorem Filing.carries.setRetention (s n : Nat) (t : Time) : f.carries P (g.setRetention s n t) := by
  unfold Filing.setRetention
  dsimp only
  split_ifs
  · exact a.of_ring (by simp) (by simp) (by simp) (by simp) (g.changeDoc_guarded ..)
  · exact a.of_ring (by simp) (by simp) (by simp [Filing.place]) (by simp) (g.changeDoc_guarded ..)

end

section
variable {P : NoticeKey → Prop} (hP : ofDocuments P) {f g : Filing} (a : f.carries P g)
include hP a

theorem Filing.carries.completePage (s p l : Nat) (x y : Bool) (n : Nat) :
    f.carries P (g.completePage s p l x y n) := by
  unfold Filing.completePage
  exact ((((((a.scrubAll _).fileAll _).returnUsage hP _ _).setPage _ _).setDoc _ _).mark _).mark _

theorem Filing.carries.releaseDoc_quiet (s : Nat) : f.carries P (g.releaseDoc true s) := by
  unfold Filing.releaseDoc
  exact ((((((a.scrubAll _).returnUsage hP _ _).mark _).freePages _ _).removeDeadlines _ _).setDoc _ _).mark _

theorem Filing.carries.releaseDoc (s : Nat) (hn : ¬ P { kind := .released, doc := some (g.docId s), item := .none }) :
    f.carries P (g.releaseDoc false s) :=
  (a.releaseDoc_quiet hP s).raise _ _ hn

theorem Filing.carries.closeOpenPage (c l : Nat) (x y : Bool) : f.carries P (g.closeOpenPage c l x y) := by
  unfold Filing.closeOpenPage
  dsimp only
  split
  · exact (((a.completePage hP _ _ _ _ _ _).setChan _ _).mark _).raise_other hP (kind := .pageClosed) _ _ _ _
      (by decide)
  · exact a

theorem Filing.carries.closeDoc {c : Nat} (hn : ∀ d, ¬ P { kind := .docClosed, doc := d, item := .channel c }) (s : Nat)
    (cl : Closure) : f.carries P (g.closeDoc c s cl) := by
  unfold Filing.closeDoc
  dsimp only
  have h0 := (a.setDoc s { g.doc s with closure := cl, closed := some g.now }).mark (.document s)
  split_ifs
  · exact ((h0.cancelLive s).raise _ _ (hn _)).releaseDoc_quiet hP s
  · exact (((h0.setDoc _ _).makeReady s).setRetention _ _ _).raise _ _ (hn _)
  · exact ((h0.setDoc _ _).setRetention _ _ _).raise _ _ (hn _)

theorem Filing.carries.endCurrent {c : Nat} (hn : ∀ d, ¬ P { kind := .docClosed, doc := d, item := .channel c })
    (cl : Closure) (x : Bool) : f.carries P (g.endCurrent c cl x) := by
  have hclose {h : Filing} (b : f.carries P h) : f.carries P (h.closeCall c cl x) := by
    unfold Filing.closeCall
    split
    · exact ((b.closeDoc hP hn _ _).setChan _ _).mark _
    · exact b
  unfold Filing.endCurrent
  split_ifs
  · exact hclose (a.closeOpenPage hP _ _ _ _)
  · exact hclose a

/-- BRESET at one channel (R58, R128). -/
theorem Filing.carries.resetChannel {c : Nat} (hn : ∀ d, ¬ P { kind := .docClosed, doc := d, item := .channel c }) :
    f.carries P (g.resetChannel c) := by
  have hcall : f.carries P (g.resetCall c) := by
    unfold Filing.resetCall
    split
    · exact a.endCurrent hP hn _ _
    · exact a.endCurrent hP hn _ _
    · split
      · exact (a.setRecipient _ _ _).join _ _ _
      · exact a
    · exact a
  unfold Filing.resetChannel
  dsimp only
  split_ifs
  · exact hcall.setChan _ _
  · exact (hcall.setChan _ _).mark _

end

/-! ## Checks of several documents (R98) -/

/-- The check of the document that identifier d names. -/
def Filing.checkOne (f : Filing) (d : Nat) : Filing :=
  match f.checkId d with
  | .inr s => f.checkRelease s
  | .inl _ => f

theorem Filing.checkReleases_eq (f : Filing) (ids : List Nat) :
    f.checkReleases ids = (distinct ids).foldl Filing.checkOne f := rfl

theorem Filing.checkId_inr {f : Filing} {d s : Nat} :
    f.checkId d = .inr s ↔ s = slotOf d ∧ d < 65536 ∧ (f.doc s).state ≠ .free ∧ (f.doc s).gen = genOf d := by
  unfold Filing.checkId
  split_ifs with h1 h2
  · simp only [false_iff]
    rintro ⟨-, h, -⟩
    omega
  · simp only [false_iff]
    rintro ⟨rfl, -, h3, h4⟩
    exact h2.elim h3 fun h => h h4
  · simp only [Sum.inr.injEq]
    push Not at h2
    constructor
    · rintro rfl
      exact ⟨rfl, by omega, h2.1, h2.2⟩
    · exact fun h => h.1.symm

/-- An identifier that names a document is that document's (R80, R89). -/
theorem Filing.docId_of_checkId {f : Filing} {d s : Nat} (h : f.checkId d = .inr s) : f.docId s = d := by
  obtain ⟨rfl, -, -, hg⟩ := Filing.checkId_inr.mp h
  rw [Filing.docId, hg, slotOf, genOf]
  omega

/-- The step releases the document named, or nothing. -/
theorem Filing.checkOne_cases (f : Filing) (d : Nat) : f.checkOne d = f ∨
    ∃ s, f.checkId d = .inr s ∧ f.releasable s = true ∧ f.checkOne d = f.releaseDoc false s := by
  unfold Filing.checkOne
  split
  · next s hs =>
    unfold Filing.checkRelease
    split_ifs with hr
    · exact .inr ⟨s, hs, hr, rfl⟩
    · exact .inl rfl
  · exact .inl rfl

theorem Filing.carries.checks {P : NoticeKey → Prop} (hP : ofDocuments P) {f g : Filing} (a : f.carries P g)
    (ids : List Nat) (hn : ∀ d ∈ ids, ¬ P { kind := .released, doc := some d, item := .none }) :
    f.carries P (ids.foldl Filing.checkOne g) := by
  induction ids generalizing g with
  | nil => exact a
  | cons d ids ih =>
    refine ih ?_ fun e he => hn e (List.mem_cons_of_mem _ he)
    rcases g.checkOne_cases d with e | ⟨s, hs, -, e⟩ <;> rw [e]
    · exact a
    · refine a.releaseDoc hP s ?_
      rw [Filing.docId_of_checkId hs]
      exact hn d List.mem_cons_self

end Sys2Proof.Machine
end


section
/-! PROOFS. What the closing and the release of other documents leave of a document, its pages and the tables (R48, R51, R91 to
R93, R98, R99). -/

namespace Sys2Proof.Machine

/-! ## Page lists (R88) -/

section
variable {t u : Tbl Page}

/-- The next link of page p. -/
def nextOf (t : Tbl Page) (p : Nat) : Option Nat := ((Tbl.find t p).getD Page.freed).next

theorem followPages_some (t : Tbl Page) (n p : Nat) :
    followPages t (n + 1) (some p) = p :: followPages t n (nextOf t p) := rfl

theorem followPages_none (t : Tbl Page) (n : Nat) : followPages t n none = [] := by
  cases n <;> rfl

/-- Where links are cut, nothing joins the list. -/
theorem followPages_shrink (h : ∀ p, nextOf u p = nextOf t p ∨ nextOf u p = none) (n : Nat) (o : Option Nat) :
    ∀ q ∈ followPages u n o, q ∈ followPages t n o := by
  induction n generalizing o with
  | zero => exact fun q hq => hq
  | succ n ih =>
    cases o with
    | none => exact fun q hq => hq
    | some p =>
      rw [followPages_some, followPages_some]
      intro q hq
      rcases List.mem_cons.mp hq with rfl | hq
      · exact List.mem_cons_self
      · refine List.mem_cons_of_mem _ ?_
        rcases h p with e | e
        · rw [e] at hq; exact ih _ q hq
        · rw [e, followPages_none] at hq; cases hq

theorem followPages_congr (n : Nat) (o : Option Nat) (h : ∀ p ∈ followPages t n o, nextOf u p = nextOf t p) :
    followPages u n o = followPages t n o := by
  induction n generalizing o with
  | zero => rfl
  | succ n ih =>
    cases o with
    | none => rfl
    | some p =>
      rw [followPages_some] at h
      rw [followPages_some, followPages_some, h p List.mem_cons_self,
        ih _ fun q hq => h q (List.mem_cons_of_mem _ hq)]

end

section
variable {f g : Filing} {k : Nat}

theorem Filing.nextOf_pages (f : Filing) (p : Nat) : nextOf f.dir.pages p = (f.page p).next := rfl

theorem Filing.docPages_of_pageCount_zero (h : (f.doc k).pageCount = 0) : f.docPages k = [] := by
  rw [Filing.docPages, h]
  rfl

/-- The document's list stays where its record and its pages stay. -/
theorem Filing.docPages_congr (hd : g.doc k = f.doc k) (hp : ∀ p ∈ f.docPages k, g.page p = f.page p) :
    g.docPages k = f.docPages k := by
  rw [Filing.docPages, hd]
  refine followPages_congr _ _ fun p hpm => ?_
  rw [Filing.nextOf_pages, Filing.nextOf_pages, hp p hpm]

theorem Filing.docPages_of_links (hc : (g.doc k).pageCount = (f.doc k).pageCount)
    (hf : (g.doc k).firstPage = (f.doc k).firstPage) (hp : ∀ p, (g.page p).next = (f.page p).next) :
    g.docPages k = f.docPages k := by
  rw [Filing.docPages, hc, hf]
  exact followPages_congr _ _ fun p _ => hp p

end

/-! ## What other documents' ends leave of slot k -/

/-- The record of slot j heads the same list, or none. -/
def Doc.headsAs (d e : Doc) : Prop := (d.pageCount = e.pageCount ∧ d.firstPage = e.firstPage) ∨ d.pageCount = 0

/-- g comes from f by what leaves the document of slot k, its deadlines and the pages in S alone, and gives no other document a
page. -/
structure Filing.spares (k : Nat) (S : List Nat) (f g : Filing) : Prop where
  doc : g.doc k = f.doc k
  deadlines : ∀ e ∈ f.clock.deadlines, e.slot = k → e ∈ g.clock.deadlines
  pages : ∀ p ∈ S, g.page p = f.page p
  lists : ∀ j, j ≠ k → ∀ p ∈ g.docPages j, p ∈ f.docPages j

section
variable {k s : Nat} {S : List Nat} {f g h : Filing}

theorem Filing.spares_refl (k : Nat) (S : List Nat) (f : Filing) : f.spares k S f :=
  ⟨rfl, fun _ h _ => h, fun _ _ => rfl, fun _ _ _ h => h⟩

theorem Filing.spares.trans (a : f.spares k S g) (b : g.spares k S h) : f.spares k S h :=
  ⟨b.doc.trans a.doc, fun e he hs => b.deadlines e (a.deadlines e he hs) hs,
    fun p hp => (b.pages p hp).trans (a.pages p hp), fun j hj p hp => a.lists j hj p (b.lists j hj p hp)⟩

/-- A step that keeps or cuts the links between pages. -/
theorem Filing.spares.step (a : f.spares k S g) (hd : h.doc k = g.doc k)
    (ht : ∀ e ∈ g.clock.deadlines, e.slot = k → e ∈ h.clock.deadlines) (hp : ∀ p ∈ S, h.page p = g.page p)
    (hj : ∀ j, j ≠ k → (h.doc j).headsAs (g.doc j)) (hn : ∀ p, (h.page p).next = (g.page p).next ∨ (h.page p).next = none) :
    f.spares k S h := by
  refine a.trans ⟨hd, ht, hp, fun j hjk p hpm => ?_⟩
  rcases hj j hjk with ⟨hc, hf⟩ | h0
  · rw [Filing.docPages, hc, hf] at hpm
    exact followPages_shrink hn _ _ p hpm
  · rw [Filing.docPages_of_pageCount_zero h0] at hpm
    cases hpm

/-- A step that leaves documents, pages and deadlines alone. -/
theorem Filing.spares.of_dir (a : f.spares k S g) (hd : h.dir = g.dir) (hc : h.clock = g.clock) : f.spares k S h := by
  have hdoc (j : Nat) : h.doc j = g.doc j := by rw [Filing.doc, hd]; rfl
  have hpage (p : Nat) : h.page p = g.page p := by rw [Filing.page, hd]; rfl
  exact a.step (hdoc k) (fun e he _ => by rwa [hc]) (fun p _ => hpage p) (fun j _ => .inl (by rw [hdoc j]; exact ⟨rfl, rfl⟩))
    fun p => .inl (by rw [hpage p])

theorem Filing.spares.mark (a : f.spares k S g) (r : RecordId) : f.spares k S (g.mark r) := a.of_dir rfl rfl

theorem Filing.spares.raise (a : f.spares k S g) (kind : NoticeKind) (doc : Option Nat) (item : KeyItem) (code : Nat)
    (args : List Word) : f.spares k S (g.raise kind doc item code args) := a.of_dir (by simp) (by simp)

theorem Filing.spares.setChan (a : f.spares k S g) (c : Nat) (x : Channel) : f.spares k S (g.setChan c x) :=
  a.of_dir rfl rfl

theorem Filing.spares.setDoc (a : f.spares k S g) (hs : s ≠ k) {x : Doc} (hx : x.headsAs (g.doc s)) :
    f.spares k S (g.setDoc s x) := by
  refine a.step (Filing.doc_setDoc_ne _ _ (Ne.symm hs)) (fun _ h _ => h) (fun p _ => by simp) (fun j _ => ?_)
    fun p => .inl (by simp)
  by_cases hjs : j = s
  · subst hjs; simpa using hx
  · rw [Filing.doc_setDoc_ne _ _ hjs]; exact .inl ⟨rfl, rfl⟩

theorem Filing.spares.changeDoc (a : f.spares k S g) (hs : s ≠ k) {x : Doc} (hx : x.headsAs (g.doc s)) :
    f.spares k S (g.changeDoc s x) := by
  unfold Filing.changeDoc
  split_ifs
  · exact a
  · exact (a.setDoc hs hx).mark _

theorem Filing.spares.setPage (a : f.spares k S g) {p : Nat} (hp : p ∉ S) {x : Page}
    (hx : x.next = (g.page p).next ∨ x.next = none) : f.spares k S (g.setPage p x) := by
  refine a.step (by simp) (fun _ h _ => h) (fun q hq => ?_) (fun j _ => .inl (by simp)) fun q => ?_
  · exact Filing.page_setPage_ne _ _ fun e => hp (e ▸ hq)
  · by_cases hq : q = p
    · subst hq; simpa using hx
    · rw [Filing.page_setPage_ne _ _ hq]; exact .inl rfl

theorem Filing.spares.setRecipient (a : f.spares k S g) (hs : s ≠ k) (i : Nat) (r : Recipient) :
    f.spares k S (g.setRecipient s i r) := by
  unfold Filing.setRecipient
  exact (a.setDoc hs (by exact .inl ⟨rfl, rfl⟩)).mark _

theorem Filing.spares.join (a : f.spares k S g) (s i : Nat) (c : MailClass) : f.spares k S (g.join s i c) := a.of_dir rfl rfl

theorem Filing.spares.foldl {α : Type} (op : Filing → α → Filing) (l : List α) (a : f.spares k S g)
    (step : ∀ x i, i ∈ l → f.spares k S x → f.spares k S (op x i)) : f.spares k S (l.foldl op g) := by
  induction l generalizing g with
  | nil => exact a
  | cons i l ih =>
    exact ih (step g i List.mem_cons_self a) fun x j hj => step x j (List.mem_cons_of_mem _ hj)

theorem Filing.spares.makeReady (a : f.spares k S g) (hs : s ≠ k) : f.spares k S (g.makeReady s) :=
  Filing.spares.foldl _ _ a fun _ _ _ b => (b.setRecipient hs _ _).join _ _ _

theorem Filing.spares.cancelLive (a : f.spares k S g) (hs : s ≠ k) : f.spares k S (g.cancelLive s) :=
  Filing.spares.foldl _ _ a fun _ _ _ b => b.setRecipient hs _ _

theorem Filing.spares.scrubAll (a : f.spares k S g) (ns : List Nat) : f.spares k S (g.scrubAll ns) :=
  a.of_dir (by simp) (by simp)
theorem Filing.spares.fileAll (a : f.spares k S g) (ns : List Nat) : f.spares k S (Filing.fileAll ns g) :=
  a.of_dir (by simp) (by simp)
theorem Filing.spares.returnUsage (a : f.spares k S g) (m n : Nat) : f.spares k S (g.returnUsage m n) :=
  a.of_dir (by simp) (by simp)

theorem mem_insertBy {α : Type} (key : α → Nat) (x y : α) (xs : List α) : y ∈ insertBy key x xs ↔ y = x ∨ y ∈ xs := by
  induction xs with
  | nil => simp [insertBy]
  | cons z zs ih =>
    rw [insertBy]
    split_ifs
    · rw [List.mem_cons, ih, List.mem_cons]; tauto
    · rw [List.mem_cons, List.mem_cons]

theorem Filing.mem_place (f : Filing) (e x : Deadline) :
    x ∈ (f.place e).clock.deadlines ↔ x = e ∨ x ∈ f.clock.deadlines :=
  mem_insertBy ..

theorem Filing.spares.place (a : f.spares k S g) (e : Deadline) : f.spares k S (g.place e) :=
  a.step rfl (fun x hx _ => (g.mem_place e x).mpr (.inr hx)) (fun _ _ => rfl) (fun _ _ => .inl ⟨rfl, rfl⟩) fun _ => .inl rfl

theorem Filing.spares.setRetention (a : f.spares k S g) (hs : s ≠ k) (n : Nat) (t : Time) :
    f.spares k S (g.setRetention s n t) := by
  unfold Filing.setRetention
  dsimp only
  split_ifs
  · exact a.changeDoc hs (.inl ⟨rfl, rfl⟩)
  · exact (a.changeDoc hs (by exact .inl ⟨rfl, rfl⟩)).place _

theorem Filing.spares.removeDeadlines (a : f.spares k S g) (hs : s ≠ k) (n : Nat) :
    f.spares k S (g.removeDeadlines s n) := by
  refine a.step rfl (fun e he hek => ?_) (fun _ _ => rfl) (fun _ _ => .inl ⟨rfl, rfl⟩) fun _ => .inl rfl
  refine List.mem_filter.mpr ⟨he, ?_⟩
  have : (e.slot == s) = false := beq_eq_false_iff_ne.mpr fun h => hs (h.symm.trans hek)
  simp [this]

theorem Filing.spares.freePages (a : f.spares k S g) {ps : List Nat} (hps : ∀ p ∈ ps, p ∉ S) (s : Nat) :
    f.spares k S (g.freePages s ps) := by
  have hfold : f.spares k S (ps.foldl (fun f p => (f.setPage p Page.freed).mark (.page p)) g) :=
    Filing.spares.foldl _ _ a fun x p hp b => (b.setPage (hps p hp) (.inr rfl)).mark _
  refine hfold.step rfl (fun _ h _ => h) (fun _ _ => rfl) (fun _ _ => .inl ⟨rfl, rfl⟩) fun _ => .inl rfl

/-- The pages of other documents are not in S. -/
def Filing.apartFrom (f : Filing) (k : Nat) (S : List Nat) : Prop := ∀ j, j ≠ k → ∀ p ∈ f.docPages j, p ∉ S

theorem Filing.spares.releaseDoc (a : f.spares k S g) (hS : f.apartFrom k S) (hs : s ≠ k) (quiet : Bool) :
    f.spares k S (g.releaseDoc quiet s) := by
  have hps : ∀ p ∈ g.docPages s, p ∉ S := fun p hp => hS s hs p (a.lists s hs p hp)
  have hpre : f.spares k S (g.releaseDoc true s) := by
    unfold Filing.releaseDoc
    exact ((((((a.scrubAll _).returnUsage _ _).mark _).freePages hps _).removeDeadlines hs _).setDoc hs
      (by exact .inr rfl)).mark _
  cases quiet with
  | true => exact hpre
  | false => exact hpre.raise ..

theorem Filing.spares.completePage (a : f.spares k S g) (hs : s ≠ k) {p : Nat} (hp : p ∉ S) (l : Nat) (x y : Bool)
    (n : Nat) : f.spares k S (g.completePage s p l x y n) := by
  unfold Filing.completePage
  exact ((((((a.scrubAll _).fileAll _).returnUsage _ _).setPage hp (by simp)).setDoc hs
    (by exact .inl ⟨rfl, rfl⟩)).mark _).mark _

theorem Filing.spares.closeDoc (a : f.spares k S g) (hS : f.apartFrom k S) (hs : s ≠ k) (c : Nat) (cl : Closure) :
    f.spares k S (g.closeDoc c s cl) := by
  unfold Filing.closeDoc
  dsimp only
  have h0 : f.spares k S ((g.setDoc s { g.doc s with closure := cl, closed := some g.now }).mark (.document s)) :=
    (a.setDoc hs (by exact .inl ⟨rfl, rfl⟩)).mark _
  split_ifs
  · exact ((h0.cancelLive hs).raise ..).releaseDoc hS hs true
  · exact (((h0.setDoc hs (by exact .inl ⟨rfl, rfl⟩)).makeReady hs).setRetention hs _ _).raise ..
  · exact ((h0.setDoc hs (by exact .inl ⟨rfl, rfl⟩)).setRetention hs _ _).raise ..

end

end Sys2Proof.Machine
end


section
/-! PROOFS. BRESET at the channels, one after the other, and the releases that follow it (R58, R98, R128, R136, R188). -/

namespace Sys2Proof.Machine

/-! ## Tables that keep or grow -/

/-- The bindings and every mailbox's terms stay, and nobody leaves the forward queue. -/
structure Filing.keepsTables (f g : Filing) : Prop where
  bindings : g.bindings = f.bindings
  urgent : ∀ x ∈ f.queue.urgent, x ∈ g.queue.urgent
  normal : ∀ x ∈ f.queue.normal, x ∈ g.queue.normal
  bulk : ∀ x ∈ f.queue.bulk, x ∈ g.queue.bulk
  strict : ∀ m, (g.mailbox m).strict = (f.mailbox m).strict
  hours : ∀ m, (g.mailbox m).hours = (f.mailbox m).hours

section
variable {f g h : Filing}

theorem Filing.keepsTables_refl (f : Filing) : f.keepsTables f :=
  ⟨rfl, fun _ h => h, fun _ h => h, fun _ h => h, fun _ => rfl, fun _ => rfl⟩

theorem Filing.keepsTables.trans (a : f.keepsTables g) (b : g.keepsTables h) : f.keepsTables h :=
  ⟨b.bindings.trans a.bindings, fun x hx => b.urgent x (a.urgent x hx), fun x hx => b.normal x (a.normal x hx),
    fun x hx => b.bulk x (a.bulk x hx), fun m => (b.strict m).trans (a.strict m), fun m => (b.hours m).trans (a.hours m)⟩

theorem Filing.keepsTables.of_eq (a : f.keepsTables g) (hb : h.bindings = g.bindings) (hq : h.queue = g.queue)
    (hm : h.boxes = g.boxes) : f.keepsTables h := by
  have hbox (m : Nat) : h.mailbox m = g.mailbox m := by rw [Filing.mailbox, hm]; rfl
  exact a.trans ⟨hb, by rw [hq]; exact fun _ h => h, by rw [hq]; exact fun _ h => h, by rw [hq]; exact fun _ h => h,
    fun m => by rw [hbox], fun m => by rw [hbox]⟩

section
variable (a : f.keepsTables g)
include a

theorem Filing.keepsTables.mark (r : RecordId) : f.keepsTables (g.mark r) := a.of_eq rfl rfl rfl
theorem Filing.keepsTables.setDoc (s : Nat) (x : Doc) : f.keepsTables (g.setDoc s x) := a.of_eq rfl rfl rfl
theorem Filing.keepsTables.setPage (p : Nat) (x : Page) : f.keepsTables (g.setPage p x) := a.of_eq rfl rfl rfl
theorem Filing.keepsTables.setChan (c : Nat) (x : Channel) : f.keepsTables (g.setChan c x) := a.of_eq rfl rfl rfl
theorem Filing.keepsTables.setRecipient (s i : Nat) (r : Recipient) : f.keepsTables (g.setRecipient s i r) :=
  a.of_eq rfl rfl rfl
theorem Filing.keepsTables.removeDeadlines (s n : Nat) : f.keepsTables (g.removeDeadlines s n) := a.of_eq rfl rfl rfl
theorem Filing.keepsTables.raise (kind : NoticeKind) (doc : Option Nat) (item : KeyItem) (code : Nat)
    (args : List Word) : f.keepsTables (g.raise kind doc item code args) := a.of_eq (by simp) (by simp) (by simp)
theorem Filing.keepsTables.scrubAll (ns : List Nat) : f.keepsTables (g.scrubAll ns) :=
  a.of_eq (by simp) (by simp) (by simp)
theorem Filing.keepsTables.fileAll (ns : List Nat) : f.keepsTables (Filing.fileAll ns g) :=
  a.of_eq (by simp) (by simp) (by simp)
theorem Filing.keepsTables.freePages (s : Nat) (ps : List Nat) : f.keepsTables (g.freePages s ps) :=
  a.of_eq (by simp) (by simp) (by simp)
theorem Filing.keepsTables.cancelLive (s : Nat) : f.keepsTables (g.cancelLive s) :=
  a.of_eq (by simp) (by simp) (by simp)
theorem Filing.keepsTables.setRetention (s n : Nat) (t : Time) : f.keepsTables (g.setRetention s n t) :=
  a.of_eq (by simp) (by simp) (by simp)

end

theorem Filing.keepsTables.setBox (a : f.keepsTables g) (m : Nat) {x : Mailbox} (hs : x.strict = (g.mailbox m).strict)
    (hh : x.hours = (g.mailbox m).hours) : f.keepsTables (g.setBox m x) := by
  refine a.trans ⟨rfl, fun _ h => h, fun _ h => h, fun _ h => h, fun n => ?_, fun n => ?_⟩
  · by_cases hn : n = m
    · subst hn; simpa using hs
    · rw [Filing.mailbox_setBox_ne _ _ hn]
  · by_cases hn : n = m
    · subst hn; simpa using hh
    · rw [Filing.mailbox_setBox_ne _ _ hn]

theorem Filing.keepsTables.evalOver (a : f.keepsTables g) (m : Nat) : f.keepsTables (g.evalOver m) := by
  unfold Filing.evalOver
  dsimp only
  split_ifs
  · exact a
  · refine Filing.keepsTables.of_eq (Filing.keepsTables.raise (Filing.keepsTables.setBox a m ?_ ?_) _ _ _ _ _)
      (Filing.latch_bindings ..) (Filing.latch_queue ..) (Filing.latch_boxes ..) <;> rfl
  · exact a.setBox m rfl rfl
  · exact a

theorem Filing.keepsTables.returnUsage (a : f.keepsTables g) (m n : Nat) : f.keepsTables (g.returnUsage m n) := by
  unfold Filing.returnUsage Filing.setUsage
  split_ifs
  · exact a
  · exact ((a.setBox m (by rfl) (by rfl)).mark _).evalOver m

theorem Filing.keepsTables.releaseDoc (a : f.keepsTables g) (quiet : Bool) (s : Nat) :
    f.keepsTables (g.releaseDoc quiet s) := by
  have hpre : f.keepsTables (g.releaseDoc true s) := by
    unfold Filing.releaseDoc
    exact ((((((a.scrubAll _).returnUsage _ _).mark _).freePages _ _).removeDeadlines _ _).setDoc _ _).mark _
  cases quiet with
  | true => exact hpre
  | false => exact hpre.raise ..

theorem Filing.keepsTables.completePage (a : f.keepsTables g) (s p l : Nat) (x y : Bool) (n : Nat) :
    f.keepsTables (g.completePage s p l x y n) := by
  unfold Filing.completePage
  exact ((((((a.scrubAll _).fileAll _).returnUsage _ _).setPage _ _).setDoc _ _).mark _).mark _

theorem Filing.keepsTables.join (a : f.keepsTables g) (s i : Nat) (c : MailClass) : f.keepsTables (g.join s i c) := by
  refine a.trans ⟨rfl, ?_, ?_, ?_, fun _ => rfl, fun _ => rfl⟩ <;> intro x hx <;> cases c <;>
    simp [Filing.join, hx]

theorem Filing.keepsTables.makeReady (a : f.keepsTables g) (s : Nat) : f.keepsTables (g.makeReady s) := by
  unfold Filing.makeReady
  generalize (g.doc s).pendingPlaces = l
  induction l generalizing g with
  | nil => exact a
  | cons i l ih => exact ih ((a.setRecipient _ _ _).join _ _ _)

theorem Filing.keepsTables.closeDoc (a : f.keepsTables g) (c s : Nat) (cl : Closure) :
    f.keepsTables (g.closeDoc c s cl) := by
  unfold Filing.closeDoc
  dsimp only
  have h0 := (a.setDoc s { g.doc s with closure := cl, closed := some g.now }).mark (.document s)
  split_ifs
  · exact ((h0.cancelLive s).raise ..).releaseDoc true s
  · exact (((h0.setDoc _ _).makeReady s).setRetention _ _ _).raise ..
  · exact ((h0.setDoc _ _).setRetention _ _ _).raise ..

theorem Filing.keepsTables.endCurrent (a : f.keepsTables g) (c : Nat) (cl : Closure) (x : Bool) :
    f.keepsTables (g.endCurrent c cl x) := by
  have hclose {h : Filing} (b : f.keepsTables h) : f.keepsTables (h.closeCall c cl x) := by
    unfold Filing.closeCall
    split
    · exact ((b.closeDoc c _ cl).setChan _ _).mark _
    · exact b
  unfold Filing.endCurrent
  split_ifs
  · refine hclose ?_
    unfold Filing.forcedClose Filing.closeOpenPage
    dsimp only
    split
    · exact (((a.completePage _ _ _ _ _ _).setChan _ _).mark _).raise ..
    · exact a
  · exact hclose a

theorem Filing.keepsTables.resetChannel (a : f.keepsTables g) (c : Nat) : f.keepsTables (g.resetChannel c) := by
  have hcall : f.keepsTables (g.resetCall c) := by
    unfold Filing.resetCall
    split
    · exact a.endCurrent c _ _
    · exact a.endCurrent c _ _
    · split
      · exact (a.setRecipient _ _ _).join _ _ _
      · exact a
    · exact a
  unfold Filing.resetChannel
  dsimp only
  split_ifs
  · exact hcall.setChan _ _
  · exact (hcall.setChan _ _).mark _

theorem Filing.keepsTables.checks (a : f.keepsTables g) (ids : List Nat) :
    f.keepsTables (ids.foldl Filing.checkOne g) := by
  induction ids generalizing g with
  | nil => exact a
  | cons d ids ih =>
    refine ih ?_
    rcases g.checkOne_cases d with e | ⟨s, -, -, e⟩ <;> rw [e]
    · exact a
    · exact a.releaseDoc false s

end

/-! ## The channels of BRESET -/

section
variable {f g : Filing} {c e k : Nat}

theorem Filing.resetCall_chan_ne (h : e ≠ c) : (f.resetCall c).chan e = f.chan e := by
  unfold Filing.resetCall
  split
  · exact Filing.endCurrent_chan_ne _ _ _ h
  · exact Filing.endCurrent_chan_ne _ _ _ h
  · split <;> simp
  · rfl

theorem Filing.resetChannel_chan_ne (h : e ≠ c) : (f.resetChannel c).chan e = f.chan e := by
  unfold Filing.resetChannel
  dsimp only
  split_ifs <;> simp [Filing.chan_setChan_ne _ _ h, Filing.resetCall_chan_ne h]

theorem Filing.resetChannel_chan : (f.resetChannel c).chan c = ((f.resetCall c).chan c).afterReset := by
  unfold Filing.resetChannel
  dsimp only
  split_ifs <;> simp

/-- What a channel's own part of BRESET does to the rest is its closing action's. -/
theorem Filing.resetChannel_dir : (f.resetChannel c).dir = (f.resetCall c).dir := by
  unfold Filing.resetChannel
  dsimp only
  split_ifs <;> rfl

theorem Filing.resetChannel_queue : (f.resetChannel c).queue = (f.resetCall c).queue := by
  unfold Filing.resetChannel
  dsimp only
  split_ifs <;> rfl

theorem Filing.resetChannel_clock : (f.resetChannel c).clock = (f.resetCall c).clock := by
  unfold Filing.resetChannel
  dsimp only
  split_ifs <;> rfl

theorem Filing.closeOpenPage_chan_doc (l : Nat) (x y : Bool) : ((f.closeOpenPage c l x y).chan c).doc = (f.chan c).doc := by
  unfold Filing.closeOpenPage
  dsimp only
  split <;> simp

/-- The end of another document's call. -/
theorem Filing.spares.endCurrent {S : List Nat} (a : f.spares k S g) (hS : f.apartFrom k S)
    (hd : ∀ d, (g.chan c).doc = some d → slotOf d ≠ k) (hp : ∀ p, (g.chan c).openPage = some p → p ∉ S) (cl : Closure)
    (x : Bool) : f.spares k S (g.endCurrent c cl x) := by
  have hclose {h : Filing} (b : f.spares k S h) (hd : ∀ d, (h.chan c).doc = some d → slotOf d ≠ k) :
      f.spares k S (h.closeCall c cl x) := by
    unfold Filing.closeCall
    split
    · next d hdoc => exact ((b.closeDoc hS (hd d hdoc) c cl).setChan _ _).mark _
    · exact b
  unfold Filing.endCurrent
  split_ifs
  · refine hclose ?_ (by rw [Filing.forcedClose, Filing.closeOpenPage_chan_doc]; exact hd)
    unfold Filing.forcedClose Filing.closeOpenPage
    dsimp only
    split
    · next p d hop hdoc => exact (((a.completePage (hd d hdoc) (hp p hop) _ _ _ _).setChan _ _).mark _).raise ..
    · exact a
  · exact hclose a hd

/-- BRESET at a channel that has nothing to do with slot k (R58, R128). -/
theorem Filing.spares.resetChannel {S : List Nat} (a : f.spares k S g) (hS : f.apartFrom k S)
    (hd : ∀ d, (g.chan c).doc = some d → slotOf d ≠ k) (hb : ∀ i, (g.chan c).bound ≠ some (k, i))
    (hp : ∀ p, (g.chan c).openPage = some p → p ∉ S) : f.spares k S (g.resetChannel c) := by
  have hcall : f.spares k S (g.resetCall c) := by
    unfold Filing.resetCall
    split
    · exact a.endCurrent hS hd hp _ _
    · exact a.endCurrent hS hd hp _ _
    · split
      · next s i hbound =>
        exact (a.setRecipient (fun hs : s = k => hb i (hs ▸ hbound)) _ _).join _ _ _
      · exact a
    · exact a
  exact hcall.of_dir Filing.resetChannel_dir Filing.resetChannel_clock

theorem Filing.apartFrom_nil (f : Filing) (k : Nat) : f.apartFrom k [] := fun _ _ _ _ h => nomatch h

/-- A recipient that the channel has no attempt on stays as it is. -/
theorem Filing.resetChannel_recipient {i : Nat} (hd : ∀ d, (g.chan c).doc = some d → slotOf d ≠ k)
    (hb : (g.chan c).bound ≠ some (k, i)) : ((g.resetChannel c).doc k).recipient i = (g.doc k).recipient i := by
  have hdoc : (g.resetChannel c).doc k = (g.resetCall c).doc k := by
    rw [Filing.doc, Filing.resetChannel_dir]; rfl
  have hend (cl : Closure) (x : Bool) : (g.endCurrent c cl x).doc k = g.doc k :=
    ((Filing.spares_refl k [] g).endCurrent (g.apartFrom_nil k) hd (fun _ _ h => nomatch h) cl x).doc
  rw [hdoc]
  unfold Filing.resetCall
  split
  · rw [hend]
  · rw [hend]
  · split
    · next s j hbound =>
      rw [Filing.join_doc]
      by_cases hs : k = s
      · subst hs
        have hji : i ≠ j := fun h => hb (h ▸ hbound)
        simp [Filing.setRecipient, Doc.recipient_setRecipient_ne _ _ hji]
      · rw [Filing.doc_setRecipient_ne _ _ hs]
    · rfl
  · rfl

/-! ## One channel among the others -/

theorem Filing.foldl_resetChannel_chan_ne {l : List Nat} (h : e ∉ l) :
    (l.foldl (fun f c => f.resetChannel c) f).chan e = f.chan e := by
  induction l generalizing f with
  | nil => rfl
  | cons c l ih =>
    rw [List.foldl_cons, ih fun hm => h (List.mem_cons_of_mem _ hm),
      Filing.resetChannel_chan_ne (List.ne_of_not_mem_cons h)]

/-- What every channel of a list keeps, each found as it was before any of them, all of them keep. -/
theorem Filing.foldl_resetChannel {R : Filing → Prop} {l : List Nat} (hl : l.Nodup) (h0 : R f)
    (step : ∀ h e, e ∈ l → h.chan e = f.chan e → R h → R (h.resetChannel e)) :
    R (l.foldl (fun f c => f.resetChannel c) f) := by
  induction l generalizing f with
  | nil => exact h0
  | cons c l ih =>
    obtain ⟨hc, hl⟩ := List.nodup_cons.mp hl
    refine ih hl (step f c List.mem_cons_self rfl h0) fun h e he hch => step h e (List.mem_cons_of_mem _ he) ?_
    rw [hch, Filing.resetChannel_chan_ne (ne_of_mem_of_not_mem he hc)]

/-- Every channel is done, and shows it. -/
theorem Filing.resetChannels_chan (hc : c ∈ channelNumbers) : ∃ ch : Channel, f.resetChannels.chan c = ch.afterReset := by
  obtain ⟨l1, l2, hsplit⟩ := List.append_of_mem hc
  have hnd := channelNumbers_nodup
  rw [hsplit] at hnd
  have hc2 : c ∉ l2 := (List.nodup_cons.mp (List.nodup_append.mp hnd).2.1).1
  rw [Filing.resetChannels, hsplit, List.foldl_append, List.foldl_cons, Filing.foldl_resetChannel_chan_ne hc2,
    Filing.resetChannel_chan]
  exact ⟨_, rfl⟩

/-- BRESET at channel c, with the other channels before it and behind it. -/
theorem Filing.resetChannels_around (hc : c ∈ channelNumbers) {R : Filing → Prop} (h0 : R f)
    (step : ∀ h e, e ≠ c → h.chan e = f.chan e → R h → R (h.resetChannel e)) :
    ∃ m, R m ∧ m.chan c = f.chan c ∧ ∀ Q : Filing → Prop, Q (m.resetChannel c) →
      (∀ h e, e ≠ c → h.chan e = f.chan e → Q h → Q (h.resetChannel e)) → Q f.resetChannels := by
  obtain ⟨l1, l2, hsplit⟩ := List.append_of_mem hc
  have hnd := channelNumbers_nodup
  rw [hsplit] at hnd
  obtain ⟨hn1, hn2, hdis⟩ := List.nodup_append.mp hnd
  obtain ⟨hc2, hn2⟩ := List.nodup_cons.mp hn2
  have hc1 : c ∉ l1 := fun h => hdis c h c List.mem_cons_self rfl
  refine ⟨l1.foldl (fun f c => f.resetChannel c) f, ?_, Filing.foldl_resetChannel_chan_ne hc1, fun Q hQ hstep => ?_⟩
  · exact Filing.foldl_resetChannel hn1 h0 fun h e he => step h e fun h => hc1 (h ▸ he)
  · rw [Filing.resetChannels, hsplit, List.foldl_append, List.foldl_cons]
    refine Filing.foldl_resetChannel hn2 hQ fun h e he hch => hstep h e (fun h => hc2 (h ▸ he)) ?_
    have he1 : e ∉ l1 := fun h => hdis e h e (List.mem_cons_of_mem _ he) rfl
    rw [hch, Filing.resetChannel_chan_ne (ne_of_mem_of_not_mem he hc2), Filing.foldl_resetChannel_chan_ne he1]

end

end Sys2Proof.Machine
end


section
/-! PROOFS. The Posting Unit's part of BRESET, a send that it ends, and the documents it releases (R98, R99, R128, R136, R160). -/

namespace Sys2Proof.Machine

/-! ## Posting Unit, Result Writer and guard (R160, R165) -/

/-- With nothing deferred the filling moves the ring alone, and neither its indices nor the lost count (R158). -/
theorem Filing.fillSteps_ring (n : Nat) (f : Filing) (hd : f.posting.deferred = []) :
    ∃ r : Ring, Filing.fillSteps n f = { f with ring := r } ∧ r.producer = f.ring.producer ∧
      r.consumer = f.ring.consumer ∧ r.resetWaits = f.ring.resetWaits ∧ r.lost = f.ring.lost := by
  induction n generalizing f with
  | zero => exact ⟨f.ring, rfl, rfl, rfl, rfl, rfl⟩
  | succ n ih =>
    unfold Filing.fillSteps
    split_ifs
    · exact ⟨f.ring, rfl, rfl, rfl, rfl, rfl⟩
    · have hone : ∃ r : Ring, f.fillOne = { f with ring := r } ∧ r.producer = f.ring.producer ∧
          r.consumer = f.ring.consumer ∧ r.resetWaits = f.ring.resetWaits ∧ r.lost = f.ring.lost := by
        unfold Filing.fillOne
        split
        · exact ⟨_, rfl, rfl, rfl, rfl, rfl⟩
        · simp only [Filing.fillDeferred, hd]
          exact ⟨f.ring, rfl, rfl, rfl, rfl, rfl⟩
      obtain ⟨r, hr, h1, h2, h3, h4⟩ := hone
      obtain ⟨q, hq, i1, i2, i3, i4⟩ := ih f.fillOne (by rw [hr]; exact hd)
      rw [hr] at hq i1 i2 i3 i4
      rw [hr]
      exact ⟨q, hq, i1.trans h1, i2.trans h2, i3.trans h3, i4.trans h4⟩

/-- g is f with the Posting Unit, the indices and the guard as BRESET leaves them, before any channel (R160, R165). -/
structure Filing.boardIdle (f g : Filing) : Prop where
  boot : g.boot = f.boot
  clock : g.clock = f.clock
  dir : g.dir = f.dir
  channels : g.channels = f.channels
  boxes : g.boxes = f.boxes
  queue : g.queue = f.queue
  bindings : g.bindings = f.bindings
  posting : g.posting = { slots := [], deferred := [] }
  producer : g.ring.producer = 0
  consumer : g.ring.consumer = 0
  resetWaits : g.ring.resetWaits = true
  lost : g.ring.lost = f.ring.lost
  guarded : g.mirror.guarded = none

theorem Filing.resetPosting_boardIdle (f : Filing) : f.boardIdle f.resetPosting.closeGuard := by
  unfold Filing.resetPosting Filing.fill
  dsimp only
  split_ifs
  · obtain ⟨r, hr, h1, h2, h3, h4⟩ := Filing.fillSteps_ring 256 { f with
      posting := { slots := [], deferred := [] }
      ring := { f.ring with production := 0, producer := 0, consumer := 0, waiting := [], resetWaits := true } } rfl
    rw [hr]
    exact ⟨rfl, rfl, rfl, rfl, rfl, rfl, rfl, rfl, h1, h2, h3, h4, rfl⟩
  · obtain ⟨r, hr, h1, h2, h3, h4⟩ := Filing.fillSteps_ring 256 (({ f with
      posting := { slots := [], deferred := [] }
      ring := { f.ring with production := 0, producer := 0, consumer := 0, waiting := [],
                            resetWaits := true } } : Filing).mark .status) rfl
    rw [hr]
    exact ⟨rfl, rfl, rfl, rfl, rfl, rfl, rfl, rfl, h1, h2, h3, h4, rfl⟩

theorem Filing.keepAhead_cases (ahead : Option Nat) (f : Filing) :
    f.keepAhead ahead = f ∨ ∃ n, f.keepAhead ahead = f.mark (.block n) := by
  cases ahead with
  | none => exact .inl rfl
  | some n => exact .inr ⟨n, rfl⟩

theorem Filing.keepAhead_boardIdle (ahead : Option Nat) (f : Filing) :
    f.boardIdle (f.keepAhead ahead).resetPosting.closeGuard := by
  rcases f.keepAhead_cases ahead with e | ⟨n, e⟩ <;> rw [e]
  · exact f.resetPosting_boardIdle
  · obtain ⟨h1, h2, h3, h4, h5, h6, h7, h8, h9, h10, h11, h12, h13⟩ := (f.mark (.block n)).resetPosting_boardIdle
    exact ⟨h1, h2, h3, h4, h5, h6, h7, h8, h9, h10, h11, h12, h13⟩

section
variable {f g : Filing} (a : f.boardIdle g)
include a

theorem Filing.boardIdle.doc (k : Nat) : g.doc k = f.doc k := by rw [Filing.doc, a.dir]; rfl
theorem Filing.boardIdle.page (p : Nat) : g.page p = f.page p := by rw [Filing.page, a.dir]; rfl
theorem Filing.boardIdle.chan (c : Nat) : g.chan c = f.chan c := by rw [Filing.chan, a.channels]; rfl
theorem Filing.boardIdle.mailbox (m : Nat) : g.mailbox m = f.mailbox m := by rw [Filing.mailbox, a.boxes]; rfl
theorem Filing.boardIdle.docId (k : Nat) : g.docId k = f.docId k := by rw [Filing.docId, a.doc]; rfl
theorem Filing.boardIdle.now : g.now = f.now := by rw [Filing.now, a.clock]; rfl
theorem Filing.boardIdle.binding (r : Nat) : g.binding r = f.binding r := by rw [Filing.binding, a.bindings]; rfl
theorem Filing.boardIdle.docPages (k : Nat) : g.docPages k = f.docPages k :=
  Filing.docPages_congr (a.doc k) fun p _ => a.page p

end

/-! ## A send that ends (R128) -/

/-- The recipient of a channel in SEND returns to READY at its class. -/
theorem Filing.resetChannel_send {g : Filing} {c k i : Nat} (hs : (g.chan c).state = .send)
    (hb : (g.chan c).bound = some (k, i)) :
    let r := (g.doc k).recipient i
    ((g.resetChannel c).doc k).recipient i = { r with state := .ready, channel := none } ∧
      (r.cls = .urgent → (k, i) ∈ (g.resetChannel c).queue.urgent) ∧
      (r.cls = .normal → (k, i) ∈ (g.resetChannel c).queue.normal) ∧
      (r.cls = .bulk → (k, i) ∈ (g.resetChannel c).queue.bulk) := by
  intro r
  have hcall : g.resetCall c = (g.setRecipient k i { r with state := .ready, channel := none }).join k i r.cls := by
    unfold Filing.resetCall
    simp only [hs, hb]
    rfl
  have hdoc : (g.resetChannel c).doc k = (g.resetCall c).doc k := by
    rw [Filing.doc, Filing.resetChannel_dir]; rfl
  rw [hdoc, Filing.resetChannel_queue, hcall]
  refine ⟨?_, fun hc => ?_, fun hc => ?_, fun hc => ?_⟩
  · rw [Filing.join_doc, Filing.setRecipient, Filing.mark_doc, Filing.doc_setDoc, Doc.recipient_setRecipient]
  all_goals simp [Filing.join, hc]

/-! ## Release (R98, R99) -/

/-- Nothing but a binding holds the document (R98). -/
def Doc.loose (d : Doc) : Prop :=
  (d.state = .filed ∨ d.state = .review) ∧ d.hold = false ∧ d.expired = true ∧ d.anyLive = false

theorem Doc.anyLive_iff (d : Doc) : d.anyLive = true ↔ ∃ i, i < 4 ∧ (d.recipient i).state.live = true := by
  have hp (i : Nat) : i ∈ places ↔ i < 4 := by simp [places]; omega
  simp only [Doc.anyLive, List.any_eq_true, hp]

theorem Doc.freed_not_loose (n : Nat) : ¬ (Doc.freed n).loose := by
  rintro ⟨h | h, -⟩ <;> cases h

section
variable {f g : Filing} {k s : Nat} {S : List Nat}

theorem Filing.releasable_iff : f.releasable s = true ↔ (f.doc s).loose ∧ f.bound (f.docId s) = false := by
  simp only [Filing.releasable, Doc.loose, Bool.and_eq_true, Bool.or_eq_true, beq_iff_eq, Bool.not_eq_true', and_assoc]

/-- Checks of documents that do not release that of slot k. -/
theorem Filing.spares.checks (a : f.spares k S g) (hS : f.apartFrom k S) {ids : List Nat}
    (hk : f.docId k ∈ ids → ¬ (f.doc k).loose) : f.spares k S (ids.foldl Filing.checkOne g) := by
  induction ids generalizing g with
  | nil => exact a
  | cons d ids ih =>
    refine ih ?_ fun h => hk (List.mem_cons_of_mem _ h)
    rcases g.checkOne_cases d with e | ⟨s, hs, hr, e⟩ <;> rw [e]
    · exact a
    · refine a.releaseDoc hS (fun hsk => ?_) false
      subst hsk
      have hid : f.docId s = d := by
        rw [← Filing.docId_of_checkId hs, Filing.docId, Filing.docId, a.doc]
      exact hk (hid ▸ List.mem_cons_self) (a.doc ▸ (Filing.releasable_iff.mp hr).1)

theorem Filing.releaseDoc_doc (quiet : Bool) : (f.releaseDoc quiet k).doc k = Doc.freed (((f.doc k).gen + 1) % 64) := by
  unfold Filing.releaseDoc
  dsimp only
  split_ifs <;> simp

theorem ofDocuments_none : ofDocuments fun _ => False := fun _ h => h.elim

theorem ofDocuments_released (d : Option Nat) (i : KeyItem) :
    ofDocuments (· = { kind := .released, doc := d, item := i }) := by
  rintro _ rfl
  exact .inr rfl

theorem ofDocuments_docClosed (d : Option Nat) (i : KeyItem) :
    ofDocuments (· = { kind := .docClosed, doc := d, item := i }) := by
  rintro _ rfl
  exact .inl rfl

/-- Among the documents checked, one that nothing holds any more is released, and RELEASED is told (R98, R99). -/
theorem Filing.checks_release {base : Filing} {ids : List Nat} (hk : k < 1024) (hg : (f.doc k).gen < 64)
    (hl : (f.doc k).loose) (hb : f.bindings = []) (hn : ids.Nodup) (hm : f.docId k ∈ ids)
    (hw : base.ring.waiting = []) (hnow : base.now = f.now) (hlost : base.ring.lost ≤ f.ring.lost) :
    let g := ids.foldl Filing.checkOne f
    g.doc k = Doc.freed (((f.doc k).gen + 1) % 64) ∧ base.tells g .released (some (f.docId k)) .none 0
      [argNat (f.docId k), argNat (f.doc k).mailbox, argNat (f.doc k).pageCount, argNat (f.doc k).blockTotal] := by
  obtain ⟨l1, l2, rfl⟩ := List.append_of_mem hm
  obtain ⟨-, hn2, hdis⟩ := List.nodup_append.mp hn
  have h2 : f.docId k ∉ l2 := (List.nodup_cons.mp hn2).1
  have h1 : f.docId k ∉ l1 := fun h => hdis _ h _ List.mem_cons_self rfl
  rw [List.foldl_append, List.foldl_cons]
  set m := l1.foldl Filing.checkOne f with hmdef
  have hspare : f.spares k [] m :=
    (Filing.spares_refl k [] f).checks (f.apartFrom_nil k) fun h => (h1 h).elim
  have hcarry := (Filing.carries_refl (fun _ => False) f).checks ofDocuments_none l1 fun _ _ h => h
  have htab := f.keepsTables_refl.checks l1
  have hid : m.docId k = f.docId k := by rw [Filing.docId, hspare.doc]; rfl
  have hbound : m.bound (f.docId k) = false := by rw [Filing.bound, htab.bindings, hb]; rfl
  have hrel : m.releasable k = true :=
    Filing.releasable_iff.mpr ⟨hspare.doc.symm ▸ hl, by rw [hid]; exact hbound⟩
  have hcheck : m.checkId (f.docId k) = .inr k := by
    refine Filing.checkId_inr.mpr ⟨?_, ?_, ?_, ?_⟩
    · rw [slotOf, Filing.docId]; omega
    · rw [Filing.docId]; omega
    · rw [hspare.doc]; rcases hl.1 with e | e <;> rw [e] <;> nofun
    · rw [hspare.doc, genOf, Filing.docId]; omega
  have hone : m.checkOne (f.docId k) = m.releaseDoc false k := by
    unfold Filing.checkOne Filing.checkRelease
    simp only [hcheck, hrel, if_true]
  rw [hone]
  refine ⟨?_, ?_⟩
  · have hfreed := Filing.releaseDoc_doc (f := m) (k := k) false
    have hlast := ((Filing.spares_refl k [] (m.releaseDoc false k)).checks (Filing.apartFrom_nil _ k) (ids := l2)
      fun _ => by rw [hfreed]; exact Doc.freed_not_loose _).doc
    rw [hlast, hfreed, hspare.doc]
  · have htold : base.tells (m.releaseDoc false k) .released (some (f.docId k)) .none 0
        [argNat (f.docId k), argNat (f.doc k).mailbox, argNat (f.doc k).pageCount, argNat (f.doc k).blockTotal] := by
      rw [← hid, ← hspare.doc]
      have hq := (hcarry.releaseDoc_quiet ofDocuments_none k)
      exact Filing.tells_raise (g := m.releaseDoc true k) hw (hnow.trans hq.now.symm) (hlost.trans hq.lost)
    refine htold.carried hw ((Filing.carries_refl _ _).checks (ofDocuments_released _ _) l2 fun d hd e => ?_) rfl
    injection e with _ e _
    exact h2 (Option.some.inj e ▸ hd)

end

/-! ## The documents that the apertures showed (R136) -/

theorem mem_distinct {α : Type} [DecidableEq α] (xs : List α) (x : α) : x ∈ distinct xs ↔ x ∈ xs := by
  have h (acc : List α) : x ∈ xs.foldl (fun acc x => if x ∈ acc then acc else acc ++ [x]) acc ↔ x ∈ acc ∨ x ∈ xs := by
    induction xs generalizing acc with
    | nil => simp
    | cons y ys ih =>
      rw [List.foldl_cons, ih, List.mem_cons]
      split_ifs with hy
      · constructor
        · exact fun h => h.imp_right .inr
        · rintro (h | rfl | h)
          · exact .inl h
          · exact .inl hy
          · exact .inr h
      · rw [List.mem_append, List.mem_singleton, or_assoc]
  exact (h []).trans (by simp)

theorem distinct_nodup {α : Type} [DecidableEq α] (xs : List α) : (distinct xs).Nodup := by
  have h (acc : List α) (ha : acc.Nodup) :
      (xs.foldl (fun acc x => if x ∈ acc then acc else acc ++ [x]) acc).Nodup := by
    induction xs generalizing acc with
    | nil => exact ha
    | cons y ys ih =>
      refine ih _ ?_
      dsimp only
      split_ifs with hy
      · exact ha
      · exact List.nodup_append.mpr ⟨ha, List.nodup_singleton y, fun a ha b hb =>
          List.mem_singleton.mp hb ▸ fun h => hy (h ▸ ha)⟩
  exact h [] List.nodup_nil

theorem Filing.mem_boundDocs (f : Filing) (d : Nat) :
    d ∈ f.boundDocs (fun _ => true) ↔ ∃ r b, r < 8 ∧ f.binding r = some b ∧ b.doc = d := by
  have hr (r : Nat) : r ∈ apertures ↔ r < 8 := by
    simp only [apertures, numbers, List.mem_map, List.mem_range, Config.apertureCount]
    constructor
    · rintro ⟨i, hi, rfl⟩; omega
    · exact fun h => ⟨r, h, by omega⟩
  simp only [Filing.boundDocs, List.mem_filterMap, hr, if_true]
  constructor
  · rintro ⟨r, h8, h⟩
    cases hb : f.binding r with
    | none => rw [hb] at h; cases h
    | some b => rw [hb] at h; exact ⟨r, b, h8, hb, Option.some.inj h⟩
  · rintro ⟨r, b, h8, hb, rfl⟩
    exact ⟨r, h8, by rw [hb]⟩

/-- The document in slot k is one that an aperture shows. -/
def Filing.shows (f : Filing) (k : Nat) : Prop := ∃ r b, r < 8 ∧ f.binding r = some b ∧ b.doc = f.docId k

end Sys2Proof.Machine
end


section
/-! PROOFS. The close of a document whose call BRESET ends (R48, R50, R91 to R94). -/

namespace Sys2Proof.Machine

/-! ## Recipients made READY (R92, R94) -/

/-- One recipient made READY. -/
def Filing.readyOne (k : Nat) (f : Filing) (i : Nat) : Filing :=
  (f.setRecipient k i { (f.doc k).recipient i with state := .ready }).join k i ((f.doc k).recipient i).cls

theorem Filing.makeReady_eq (f : Filing) (k : Nat) :
    f.makeReady k = (f.doc k).pendingPlaces.foldl (Filing.readyOne k) f := rfl

theorem Doc.mem_pendingPlaces (d : Doc) (i : Nat) : i ∈ d.pendingPlaces ↔ i < 4 ∧ (d.recipient i).state = .pending := by
  have hp : i ∈ places ↔ i < 4 := by simp [places]; omega
  rw [Doc.pendingPlaces, List.mem_filter, hp, beq_iff_eq]

section
variable {f g h : Filing} {k : Nat}

theorem Filing.keepsTables.queued (a : f.keepsTables g) {x : Nat × Nat} (hx : x ∈ f.queue.all) : x ∈ g.queue.all := by
  simp only [ForwardQueue.all, List.mem_append] at hx ⊢
  exact hx.imp (Or.imp (a.urgent x) (a.normal x)) (a.bulk x)

theorem Filing.readyOne_doc (i : Nat) :
    (f.readyOne k i).doc k = (f.doc k).setRecipient i { (f.doc k).recipient i with state := .ready } := by
  rw [Filing.readyOne, Filing.join_doc, Filing.doc_setRecipient]

theorem Filing.mem_readyOne (i : Nat) : (k, i) ∈ (f.readyOne k i).queue.all := by
  unfold Filing.readyOne Filing.join ForwardQueue.all
  cases ((f.doc k).recipient i).cls <;> simp

theorem Filing.keepsTables.readyAll (a : f.keepsTables g) (l : List Nat) :
    f.keepsTables (l.foldl (Filing.readyOne k) g) := by
  induction l generalizing g with
  | nil => exact a
  | cons i l ih => exact ih ((a.setRecipient k i _).join _ _ _)

/-- Of the document's record its recipients alone change. -/
theorem Filing.readyAll_doc (l : List Nat) (f : Filing) : (l.foldl (Filing.readyOne k) f).doc k =
    { f.doc k with recipients := ((l.foldl (Filing.readyOne k) f).doc k).recipients } := by
  induction l generalizing f with
  | nil => rfl
  | cons i l ih =>
    rw [List.foldl_cons]
    refine (ih _).trans ?_
    rw [Filing.readyOne_doc]
    rfl

theorem Filing.readyAll_recipient (l : List Nat) (f : Filing) (i : Nat) :
    ((l.foldl (Filing.readyOne k) f).doc k).recipient i =
      if i ∈ l then { (f.doc k).recipient i with state := .ready } else (f.doc k).recipient i := by
  induction l generalizing f with
  | nil => rfl
  | cons j l ih =>
    rw [List.foldl_cons, ih, Filing.readyOne_doc]
    by_cases hj : i = j
    · subst hj
      rw [Doc.recipient_setRecipient]
      simp
    · rw [Doc.recipient_setRecipient_ne _ _ hj]
      simp [hj]

theorem Filing.readyAll_queued (l : List Nat) (f : Filing) {i : Nat} (hi : i ∈ l) :
    (k, i) ∈ (l.foldl (Filing.readyOne k) f).queue.all := by
  obtain ⟨l1, l2, rfl⟩ := List.append_of_mem hi
  rw [List.foldl_append, List.foldl_cons]
  exact ((Filing.keepsTables_refl _).readyAll l2).queued (Filing.mem_readyOne i)

/-! ## Retention (R93) -/

theorem Filing.changeDoc_doc (x : Doc) : (f.changeDoc k x).doc k = x := by
  unfold Filing.changeDoc
  split_ifs with h
  · exact h.symm
  · simp

theorem Filing.setRetention_doc (n : Nat) (t : Time) : (f.setRetention k n t).doc k =
    { f.doc k with retention := if n = 0 then none else some (t + ticks (n * Config.ticksPerHour)) } := by
  unfold Filing.setRetention
  dsimp only
  split_ifs
  · rw [Filing.changeDoc_doc]
  · rw [Filing.place_doc, Filing.changeDoc_doc]

theorem Filing.setRetention_page (n : Nat) (t : Time) (p : Nat) : (f.setRetention k n t).page p = f.page p := by
  have hc (x : Doc) : (f.changeDoc k x).page p = f.page p := by
    unfold Filing.changeDoc
    split_ifs <;> rfl
  unfold Filing.setRetention
  dsimp only
  split_ifs
  · exact hc _
  · exact hc _

theorem Filing.mem_setRetention {n : Nat} (hn : n ≠ 0) (t : Time) :
    { kind := .retain, slot := k, gen := (f.doc k).gen, due := t + ticks (n * Config.ticksPerHour) } ∈
      (f.setRetention k n t).clock.deadlines := by
  unfold Filing.setRetention
  dsimp only
  rw [if_neg hn]
  exact (Filing.mem_place _ _ _).mpr (.inl rfl)

/-! ## The close (R91 to R93) -/

/-- From f to g the document of slot k closes CALL_ENDED, as BRESET has it close. -/
structure Filing.endsDoc (k : Nat) (st : DocState) (f g : Filing) : Prop where
  record : g.doc k = { f.doc k with
    state := st, closure := .callEnded, closed := some f.now
    damaged := (f.doc k).damaged || (f.docPages k).any (fun p => (g.page p).damaged)
    retention := if (f.mailbox (f.doc k).mailbox).hours = 0 then none
      else some (f.now + ticks ((f.mailbox (f.doc k).mailbox).hours * Config.ticksPerHour))
    blockTotal := (g.doc k).blockTotal, recipients := (g.doc k).recipients }
  recipient : ∀ i, i < 4 → (g.doc k).recipient i =
    if st = .filed ∧ ((f.doc k).recipient i).state = .pending then { (f.doc k).recipient i with state := .ready }
    else (f.doc k).recipient i
  queued : ∀ i, i < 4 → st = .filed → ((f.doc k).recipient i).state = .pending → (k, i) ∈ g.queue.all
  retain : (f.mailbox (f.doc k).mailbox).hours ≠ 0 →
    { kind := .retain, slot := k, gen := (f.doc k).gen
      due := f.now + ticks ((f.mailbox (f.doc k).mailbox).hours * Config.ticksPerHour) } ∈ g.clock.deadlines

/-- The state that a call's document with pages takes at BRESET (R92). -/
def Mailbox.endState (b : Mailbox) : DocState := if b.strict then .review else .filed

theorem closedState_callEnded (b : Mailbox) (x : Bool) : closedState b.strict .callEnded x = b.endState := by
  unfold closedState Mailbox.endState
  cases b.strict <;> rfl

/-- The document with its final state, before its recipients and its retention. -/
def Filing.closedAs (k : Nat) (st : DocState) (f : Filing) : Filing :=
  ((f.setDoc k { f.doc k with closure := .callEnded, closed := some f.now }).mark (.document k)).setDoc k
    { f.doc k with closure := .callEnded, closed := some f.now, state := st
                   damaged := (f.doc k).damaged || (f.docPages k).any (fun p => (f.page p).damaged) }

/-- The document with its recipients made READY where it is FILED. -/
def Filing.filedAs (k : Nat) (st : DocState) (f : Filing) : Filing :=
  if st = .filed then (f.closedAs k st).makeReady k else f.closedAs k st

theorem Filing.closeDoc_of_pages (h : (f.doc k).pageCount ≠ 0) (c : Nat) : f.closeDoc c k .callEnded =
    ((f.filedAs k (f.mailbox (f.doc k).mailbox).endState).setRetention k (f.mailbox (f.doc k).mailbox).hours f.now).raiseDocClosed
      c k (outcomeCode (f.mailbox (f.doc k).mailbox).endState) := by
  have h0 (x : Doc) : ((f.setDoc k x).mark (.document k)).doc k = x := by simp
  unfold Filing.closeDoc Filing.filedAs Filing.closedAs
  simp only [if_neg h, closedState_callEnded, h0]

theorem Filing.closedAs_doc (st : DocState) : (f.closedAs k st).doc k =
    { f.doc k with closure := .callEnded, closed := some f.now, state := st
                   damaged := (f.doc k).damaged || (f.docPages k).any (fun p => (f.page p).damaged) } := by
  simp [Filing.closedAs]

theorem Filing.filedAs_page (st : DocState) (p : Nat) : (f.filedAs k st).page p = f.page p := by
  unfold Filing.filedAs
  split_ifs
  · unfold Filing.makeReady
    exact foldl_keeps (fun f : Filing => f.page p) _ _ _ fun _ _ => by simp [Filing.setRecipient]
  · rfl

theorem Filing.filedAs_ring (st : DocState) : (f.filedAs k st).ring = f.ring := by
  unfold Filing.filedAs
  split_ifs
  · exact Filing.makeReady_ring ..
  · rfl

theorem Filing.filedAs_now (st : DocState) : (f.filedAs k st).now = f.now := by
  unfold Filing.filedAs
  split_ifs
  · exact Filing.makeReady_now ..
  · rfl

theorem Filing.filedAs_doc (st : DocState) : (f.filedAs k st).doc k =
    { (f.closedAs k st).doc k with recipients := ((f.filedAs k st).doc k).recipients } := by
  unfold Filing.filedAs
  split_ifs
  · exact Filing.readyAll_doc _ _
  · rfl

theorem Filing.filedAs_recipient {st : DocState} {i : Nat} (hi : i < 4) : ((f.filedAs k st).doc k).recipient i =
    if st = .filed ∧ ((f.doc k).recipient i).state = .pending then { (f.doc k).recipient i with state := .ready }
    else (f.doc k).recipient i := by
  have hrec : ((f.closedAs k st).doc k).recipient i = (f.doc k).recipient i := by rw [Filing.closedAs_doc]; rfl
  unfold Filing.filedAs
  by_cases hst : st = .filed
  · subst hst
    rw [if_pos rfl, Filing.makeReady_eq, Filing.readyAll_recipient]
    simp only [Doc.mem_pendingPlaces, hrec, hi, true_and]
  · rw [if_neg hst, hrec, if_neg fun h => hst h.1]

theorem Filing.filedAs_queued {st : DocState} {i : Nat} (hi : i < 4) (hst : st = .filed)
    (hp : ((f.doc k).recipient i).state = .pending) : (k, i) ∈ (f.filedAs k st).queue.all := by
  rw [Filing.filedAs, if_pos hst, Filing.makeReady_eq]
  refine Filing.readyAll_queued _ _ ((Doc.mem_pendingPlaces _ _).mpr ⟨hi, ?_⟩)
  rw [Filing.closedAs_doc]
  exact hp

/-- The close with its parts named. -/
theorem Filing.closeDoc_endsDoc (h : (f.doc k).pageCount ≠ 0) (c : Nat) :
    f.endsDoc k (f.mailbox (f.doc k).mailbox).endState (f.closeDoc c k .callEnded) := by
  rw [Filing.closeDoc_of_pages h]
  generalize (f.mailbox (f.doc k).mailbox).endState = st
  have hgen : ((f.filedAs k st).doc k).gen = (f.doc k).gen := by rw [Filing.filedAs_doc, Filing.closedAs_doc]
  have hdoc : (((f.filedAs k st).setRetention k (f.mailbox (f.doc k).mailbox).hours f.now).raiseDocClosed c k
      (outcomeCode st)).doc k = ((f.filedAs k st).setRetention k (f.mailbox (f.doc k).mailbox).hours f.now).doc k :=
    Filing.raise_doc ..
  refine ⟨?_, fun i hi => ?_, fun i hi hst hp => ?_, fun hn => ?_⟩
  · rw [hdoc, Filing.setRetention_doc, Filing.filedAs_doc, Filing.closedAs_doc]
    simp only [Filing.raiseDocClosed, Filing.raise_page, Filing.setRetention_page, Filing.filedAs_page]
  · rw [hdoc, Filing.setRetention_doc]
    exact Filing.filedAs_recipient hi
  · rw [Filing.raiseDocClosed, Filing.raise_queue, Filing.setRetention_queue]
    exact Filing.filedAs_queued hi hst hp
  · rw [← hgen, Filing.raiseDocClosed, Filing.raise_clock]
    exact Filing.mem_setRetention hn f.now

/-- DOC_CLOSED (R93). -/
theorem Filing.closeDoc_told {base : Filing} (h : (f.doc k).pageCount ≠ 0) (c : Nat) (hw : base.ring.waiting = [])
    (hnow : base.now = f.now) (hlost : base.ring.lost ≤ f.ring.lost) :
    let g := f.closeDoc c k .callEnded
    base.tells g .docClosed (some (f.docId k)) (.channel c)
      (if (f.mailbox (f.doc k).mailbox).endState = .filed then 1 else 2)
      [argNat (f.docId k), packWord [(0, 8, c), (8, 8, (f.doc k).mailbox), (16, 8, 2), (31, 1, flag (g.doc k).damaged)],
       argNat (f.doc k).pageCount, argNat (g.doc k).blockTotal] := by
  intro g
  have hcode : outcomeCode (f.mailbox (f.doc k).mailbox).endState =
      if (f.mailbox (f.doc k).mailbox).endState = .filed then 1 else 2 := by
    unfold Mailbox.endState
    cases (f.mailbox (f.doc k).mailbox).strict <;> rfl
  have hg : g = _ := Filing.closeDoc_of_pages h c
  rw [hg]
  generalize (f.mailbox (f.doc k).mailbox).endState = st at hcode ⊢
  generalize (f.mailbox (f.doc k).mailbox).hours = n
  have hdoc : ((f.filedAs k st).setRetention k n f.now).doc k = _ := Filing.setRetention_doc ..
  rw [Filing.filedAs_doc, Filing.closedAs_doc] at hdoc
  have hring : ((f.filedAs k st).setRetention k n f.now).ring = f.ring := by
    rw [Filing.setRetention_ring, Filing.filedAs_ring]
  have hnow3 : ((f.filedAs k st).setRetention k n f.now).now = f.now :=
    ((Filing.carries_refl (fun _ => False) (f.filedAs k st)).setRetention k n f.now).now.trans (Filing.filedAs_now st)
  rw [← hcode]
  generalize (f.filedAs k st).setRetention k n f.now = f3 at hdoc hring hnow3 ⊢
  have htold := Filing.tells_raise (g := f3) (kind := .docClosed) (doc := some (f3.docId k)) (item := .channel c)
    (code := outcomeCode st) (args := [argNat (f3.docId k), packWord [(0, 8, c), (8, 8, (f3.doc k).mailbox),
      (16, 8, (f3.doc k).closure.code), (31, 1, flag (f3.doc k).damaged)], argNat (f3.doc k).pageCount,
      argNat (f3.doc k).blockTotal]) hw (hnow.trans hnow3.symm) (hring ▸ hlost)
  have hid : f3.docId k = f.docId k := by rw [Filing.docId, hdoc]; rfl
  have hbox : (f3.doc k).mailbox = (f.doc k).mailbox := by rw [hdoc]
  have hcount : (f3.doc k).pageCount = (f.doc k).pageCount := by rw [hdoc]
  have hclosure : (f3.doc k).closure.code = 2 := by rw [hdoc]; rfl
  have hsame : (f3.raiseDocClosed c k (outcomeCode st)).doc k = f3.doc k := Filing.raise_doc ..
  rw [hid, hbox, hcount, hclosure] at htold
  rw [hsame]
  unfold Filing.raiseDocClosed
  dsimp only
  rw [hid, hbox, hcount, hclosure]
  exact htold

end

end Sys2Proof.Machine
end


section
/-! PROOFS. The call that BRESET ends, among the other channels (R48, R50, R58, R91 to R93, R188). -/

namespace Sys2Proof.Machine

/-! ## The open page (R48, R50) -/

section
variable {f g h : Filing} {c k p l n : Nat}

theorem Filing.completePage_doc (x y : Bool) : (f.completePage k p l x y n).doc k =
    { f.doc k with blockTotal := ((f.completePage k p l x y n).doc k).blockTotal } := by
  simp [Filing.completePage]

/-- Page b is page a, closed forced at time t with an estimated length l (R50). -/
def Page.forcedFrom (a b : Page) (l : Nat) (t : Time) : Prop :=
  b = { a with state := .closed, length := l, first := b.first, count := b.count, holes := b.holes, truncated := true
               estimated := true, closed := some t }

theorem Filing.completePage_forced :
    (f.page p).forcedFrom ((f.completePage k p l true true n).page p) l f.now := by
  simp [Page.forcedFrom, Filing.completePage]

theorem Page.forcedFrom.next {a b : Page} {t : Time} (h : a.forcedFrom b l t) : b.next = a.next := by rw [h]

theorem Filing.completePage_page_ne {q : Nat} (h : q ≠ p) (x y : Bool) :
    (f.completePage k p l x y n).page q = f.page q := by
  simp [Filing.completePage, Filing.page_setPage_ne _ _ h]

/-- g is f with the document of slot k before its close, its open page closed by now. -/
structure Filing.readyToEnd (k : Nat) (f g : Filing) : Prop where
  doc : g.doc k = { f.doc k with blockTotal := (g.doc k).blockTotal }
  list : g.docPages k = f.docPages k
  now : g.now = f.now
  tables : f.keepsTables g
  carries : f.carries (fun _ => False) g

theorem Filing.readyToEnd.trans (a : f.readyToEnd k g) (b : g.readyToEnd k h) : f.readyToEnd k h where
  doc := b.doc.trans (by rw [a.doc])
  list := b.list.trans a.list
  now := b.now.trans a.now
  tables := a.tables.trans b.tables
  carries := a.carries.trans b.carries

theorem Filing.readyToEnd.endsDoc {st : DocState} (a : f.readyToEnd k g) (b : g.endsDoc k st h) : f.endsDoc k st h := by
  obtain ⟨hrec, hr, hq, ht⟩ := b
  rw [a.list, a.now, a.doc, a.tables.hours] at hrec
  rw [a.now, a.doc, a.tables.hours] at ht
  rw [a.doc] at hr hq
  exact ⟨hrec, hr, hq, ht⟩

theorem Filing.readyToEnd_refl (k : Nat) (f : Filing) : f.readyToEnd k f :=
  ⟨rfl, rfl, rfl, f.keepsTables_refl, Filing.carries_refl _ f⟩

theorem Filing.readyToEnd.of_dir (a : f.readyToEnd k g) (hd : h.dir = g.dir) (ht : g.keepsTables h)
    (hc : g.carries (fun _ => False) h) : f.readyToEnd k h := by
  have hdoc (j : Nat) : h.doc j = g.doc j := by rw [Filing.doc, hd]; rfl
  have hpage (p : Nat) : h.page p = g.page p := by rw [Filing.page, hd]; rfl
  exact a.trans ⟨by rw [hdoc], Filing.docPages_congr (hdoc k) fun p _ => hpage p, hc.now, ht, hc⟩

theorem Filing.readyToEnd.pageClosed (a : f.readyToEnd k g) (c e s p : Nat) (ch : Channel) :
    f.readyToEnd k (((g.setChan c ch).mark (.channel e)).raisePageClosed e s p) := by
  refine a.of_dir ?_ ?_ ?_
  · rw [Filing.raisePageClosed_dir]; rfl
  · exact (((Filing.keepsTables_refl _).setChan _ _).mark _).raise ..
  · exact (((Filing.carries_refl _ _).setChan _ _).mark _).raise _ _ fun h => h

theorem Filing.readyToEnd_completePage (p l n : Nat) : f.readyToEnd k (f.completePage k p l true true n) where
  doc := Filing.completePage_doc true true
  list := by
    refine Filing.docPages_of_links (by rw [Filing.completePage_doc]) (by rw [Filing.completePage_doc]) fun q => ?_
    by_cases hq : q = p
    · subst hq; exact Filing.completePage_forced.next
    · rw [Filing.completePage_page_ne hq]
  now := by simp
  tables := f.keepsTables_refl.completePage ..
  carries := (Filing.carries_refl _ f).completePage ofDocuments_none ..

theorem Filing.forcedClose_of_open {d : Nat} (hd : (f.chan c).doc = some d) (hp : (f.chan c).openPage = some p) :
    f.forcedClose c = (((f.completePage (slotOf d) p (f.chan c).estimate true true (mapHoles (f.chan c).map
      (keepCount (f.chan c).estimate))).setChan c { f.chan c with map := [], mark := none, openPage := none }).mark
        (.channel c)).raisePageClosed c (slotOf d) p := by
  unfold Filing.forcedClose Filing.closeOpenPage
  simp only [hd, hp]

theorem Filing.forcedClose_of_none (hp : (f.chan c).openPage = none) : f.forcedClose c = f := by
  unfold Filing.forcedClose Filing.closeOpenPage
  simp only [hp]

/-- The forced close of the open page leaves its document ready for its own close. -/
theorem Filing.forcedClose_readyToEnd {d : Nat} (hd : (f.chan c).doc = some d) :
    f.readyToEnd (slotOf d) (f.forcedClose c) := by
  cases hp : (f.chan c).openPage with
  | none => rw [Filing.forcedClose_of_none hp]; exact f.readyToEnd_refl _
  | some p =>
    rw [Filing.forcedClose_of_open hd hp]
    exact (Filing.readyToEnd_completePage p _ _).pageClosed c c (slotOf d) p _

theorem Filing.forcedClose_page {d : Nat} (hd : (f.chan c).doc = some d) (hp : (f.chan c).openPage = some p) :
    (f.page p).forcedFrom ((f.forcedClose c).page p) (f.chan c).estimate f.now := by
  have hpage (g : Filing) (ch : Channel) :
      (((g.setChan c ch).mark (.channel c)).raisePageClosed c (slotOf d) p).page p = g.page p := by
    rw [Filing.raisePageClosed_page]; rfl
  rw [Filing.forcedClose_of_open hd hp, hpage]
  exact Filing.completePage_forced

/-! ## The call -/

/-- g is f, but for channels and marks. -/
structure Filing.chanOnly (f g : Filing) : Prop where
  boot : g.boot = f.boot
  dir : g.dir = f.dir
  clock : g.clock = f.clock
  queue : g.queue = f.queue
  ring : g.ring = f.ring
  posting : g.posting = f.posting
  bindings : g.bindings = f.bindings
  boxes : g.boxes = f.boxes
  guarded : g.mirror.guarded = f.mirror.guarded

theorem Filing.chanOnly_set_mark (f : Filing) (c : Nat) (x : Channel) :
    f.chanOnly ((f.setChan c x).mark (.channel c)) := ⟨rfl, rfl, rfl, rfl, rfl, rfl, rfl, rfl, rfl⟩

theorem Filing.resetChannel_chanOnly (f : Filing) (c : Nat) : (f.resetCall c).chanOnly (f.resetChannel c) := by
  unfold Filing.resetChannel
  dsimp only
  split_ifs
  · exact ⟨rfl, rfl, rfl, rfl, rfl, rfl, rfl, rfl, rfl⟩
  · exact Filing.chanOnly_set_mark ..

theorem Filing.chanOnly.trans (a : f.chanOnly g) (b : g.chanOnly h) : f.chanOnly h :=
  ⟨b.boot.trans a.boot, b.dir.trans a.dir, b.clock.trans a.clock, b.queue.trans a.queue, b.ring.trans a.ring,
    b.posting.trans a.posting, b.bindings.trans a.bindings, b.boxes.trans a.boxes, b.guarded.trans a.guarded⟩

theorem Filing.chanOnly.spares (a : f.chanOnly g) (k : Nat) (S : List Nat) : f.spares k S g :=
  (Filing.spares_refl k S f).of_dir a.dir a.clock

theorem Filing.chanOnly.carries (a : f.chanOnly g) (P : NoticeKey → Prop) : f.carries P g :=
  (Filing.carries_refl P f).of_ring a.ring a.boot (by rw [a.clock]) a.posting a.guarded

theorem Filing.chanOnly.keepsTables (a : f.chanOnly g) : f.keepsTables g :=
  f.keepsTables_refl.of_eq a.bindings a.queue a.boxes

/-- A call in GAP or PAGE ends: its page closed, its document closed, and the channel alone after that. -/
theorem Filing.resetChannel_call {d : Nat} (hst : (f.chan c).state = .gap ∨ (f.chan c).state = .page)
    (hd : (f.chan c).doc = some d) : ∃ g, f.readyToEnd (slotOf d) g ∧
      (∀ p, (f.chan c).state = .page → (f.chan c).openPage = some p →
        (f.page p).forcedFrom (g.page p) (f.chan c).estimate f.now) ∧
      (g.closeDoc c (slotOf d) .callEnded).chanOnly (f.resetChannel c) := by
  have hend {x : Filing} (hx : (x.chan c).doc = some d) (he : f.resetCall c = x.closeCall c .callEnded false) :
      (x.closeDoc c (slotOf d) .callEnded).chanOnly (f.resetChannel c) := by
    refine Filing.chanOnly.trans ?_ (f.resetChannel_chanOnly c)
    rw [he, Filing.closeCall]
    simp only [hx]
    exact Filing.chanOnly_set_mark ..
  rcases hst with hst | hst
  · refine ⟨f, f.readyToEnd_refl _, fun p hp => ?_, hend hd ?_⟩
    · rw [hst] at hp; cases hp
    · unfold Filing.resetCall Filing.endCurrent
      simp [hst]
  · refine ⟨f.forcedClose c, Filing.forcedClose_readyToEnd hd, fun p _ hp => Filing.forcedClose_page hd hp, hend ?_ ?_⟩
    · rw [Filing.forcedClose, Filing.closeOpenPage_chan_doc, hd]
    · unfold Filing.resetCall Filing.endCurrent
      simp [hst]

/-! ## The close afterwards -/

section
variable {st : DocState} (a : f.endsDoc k st g)
include a

theorem Filing.endsDoc.later (b : g.spares k (f.docPages k) h) (t : g.keepsTables h) : f.endsDoc k st h where
  record := by
    have hany : (f.docPages k).any (fun p => (h.page p).damaged) = (f.docPages k).any (fun p => (g.page p).damaged) := by
      rw [Bool.eq_iff_iff, List.any_eq_true, List.any_eq_true]
      exact exists_congr fun p => and_congr_right fun hp => by rw [b.pages p hp]
    rw [b.doc, hany]
    exact a.record
  recipient i hi := by rw [b.doc]; exact a.recipient i hi
  queued i hi hst hp := t.queued (a.queued i hi hst hp)
  retain hn := b.deadlines _ (a.retain hn) rfl

theorem Filing.endsDoc.anyLive : (g.doc k).anyLive = (f.doc k).anyLive := by
  rw [Bool.eq_iff_iff, Doc.anyLive_iff, Doc.anyLive_iff]
  refine exists_congr fun i => and_congr_right fun hi => ?_
  rw [a.recipient i hi]
  split_ifs with h
  · rw [h.2]; rfl
  · rfl

theorem Filing.endsDoc.loose_iff (hst : st = .filed ∨ st = .review) : (g.doc k).loose ↔
    (f.doc k).hold = false ∧ (f.doc k).expired = true ∧ (f.doc k).anyLive = false := by
  have hhold : (g.doc k).hold = (f.doc k).hold := by rw [a.record]
  have hexp : (g.doc k).expired = (f.doc k).expired := by rw [a.record]
  have hstate : (g.doc k).state = st := by rw [a.record]
  rw [Doc.loose, hhold, hexp, hstate, a.anyLive]
  exact and_iff_right hst

theorem Filing.endsDoc.docId : g.docId k = f.docId k := by
  rw [Filing.docId, a.record]; rfl

end

/-- A document without a page closes by leaving its slot FREE (R91). -/
theorem Filing.closeDoc_of_empty (hz : (f.doc k).pageCount = 0) (cl : Closure) :
    (f.closeDoc c k cl).doc k = Doc.freed (((f.doc k).gen + 1) % 64) := by
  have hgen (x : Filing) : ((x.cancelLive k).doc k).gen = (x.doc k).gen :=
    foldl_keeps (fun f : Filing => (f.doc k).gen) _ _ _ fun x i => by
      dsimp only
      rw [Filing.doc_setRecipient]; rfl
  unfold Filing.closeDoc
  dsimp only
  rw [if_pos hz, Filing.releaseDoc_doc, Filing.raiseDocClosed, Filing.raise_doc, hgen]
  simp

/-! ## The page lists at a channel -/

/-- Some slot is neither j nor one that the channel names. -/
theorem Channel.exists_other_slot (x : Channel) (j : Nat) :
    ∃ i, j ≠ i ∧ (∀ d, x.doc = some d → slotOf d ≠ i) ∧ ∀ n, x.bound ≠ some (i, n) := by
  refine ⟨j + slotOf (x.doc.getD 0) + (x.bound.getD (0, 0)).1 + 1, by omega, fun d hd => ?_, fun n hn => ?_⟩
  · rw [hd, Option.getD_some]; omega
  · have := congrArg (fun b => (b.getD (0, 0)).1) hn
    simp only [Option.getD_some] at this
    omega

/-- No page joins a list at BRESET. -/
theorem Filing.resetChannel_lists (f : Filing) (c j p : Nat) (hp : p ∈ (f.resetChannel c).docPages j) :
    p ∈ f.docPages j := by
  obtain ⟨i, hji, hd, hb⟩ := (f.chan c).exists_other_slot j
  exact ((Filing.spares_refl i [] f).resetChannel (f.apartFrom_nil i) hd hb fun _ _ h => nomatch h).lists j hji p hp

end

end Sys2Proof.Machine
end


section
/-! PROOFS. BRESET at the filing blocks: the calls it ends, the sends it ends and the documents it releases (R58, R98, R128, R136,
R188). -/

namespace Sys2Proof.Machine

/-! ## The apertures are unbound (R136) -/

section
variable {f g base : Filing} {c k : Nat}

theorem Filing.resetBindings_eq (f : Filing) : f.resetBindings =
    (distinct (f.boundDocs fun _ => true)).foldl Filing.checkOne { f with bindings := [] } := by
  rw [Filing.resetBindings, Filing.checkReleases_eq]

theorem Filing.shows_iff (f : Filing) (k : Nat) : f.shows k ↔ f.docId k ∈ distinct (f.boundDocs fun _ => true) := by
  rw [mem_distinct, Filing.mem_boundDocs]; rfl

theorem Filing.keepsTables.shows (a : f.keepsTables g) (hd : g.docId k = f.docId k) : g.shows k ↔ f.shows k := by
  have hb (r : Nat) : g.binding r = f.binding r := by rw [Filing.binding, a.bindings]; rfl
  simp only [Filing.shows, hb, hd]

/-- A document that no aperture showed, or that something else holds, stays. -/
theorem Filing.resetBindings_spares {S : List Nat} (hS : f.apartFrom k S) (hk : f.shows k → ¬ (f.doc k).loose) :
    f.spares k S f.resetBindings := by
  have h0 : f.spares k S { f with bindings := [] } := (Filing.spares_refl k S f).of_dir rfl rfl
  rw [Filing.resetBindings_eq]
  exact h0.checks hS fun h => hk ((f.shows_iff k).mpr h)

theorem Filing.resetBindings_carries {P : NoticeKey → Prop} (hP : ofDocuments P)
    (hn : ∀ d, ¬ P { kind := .released, doc := d, item := .none }) : f.carries P f.resetBindings := by
  have h0 : f.carries P { f with bindings := [] } := (Filing.carries_refl P f).of_ring rfl rfl rfl rfl rfl
  rw [Filing.resetBindings_eq]
  exact h0.checks hP _ fun d _ => hn (some d)

theorem Filing.resetBindings_queue {x : Nat × Nat} :
    (x ∈ f.queue.urgent → x ∈ f.resetBindings.queue.urgent) ∧ (x ∈ f.queue.normal → x ∈ f.resetBindings.queue.normal) ∧
      (x ∈ f.queue.bulk → x ∈ f.resetBindings.queue.bulk) := by
  rw [Filing.resetBindings_eq]
  have h := (Filing.keepsTables_refl { f with bindings := [] }).checks (distinct (f.boundDocs fun _ => true))
  exact ⟨h.urgent x, h.normal x, h.bulk x⟩

/-- A document that nothing but its aperture held is released (R98, R99). -/
theorem Filing.resetBindings_release (hk : k < 1024) (hg : (f.doc k).gen < 64) (hl : (f.doc k).loose) (hs : f.shows k)
    (hw : base.ring.waiting = []) (hnow : base.now = f.now) (hlost : base.ring.lost ≤ f.ring.lost) :
    f.resetBindings.doc k = Doc.freed (((f.doc k).gen + 1) % 64) ∧
      base.tells f.resetBindings .released (some (f.docId k)) .none 0
        [argNat (f.docId k), argNat (f.doc k).mailbox, argNat (f.doc k).pageCount, argNat (f.doc k).blockTotal] := by
  rw [Filing.resetBindings_eq]
  exact Filing.checks_release (f := { f with bindings := [] }) hk hg hl rfl (distinct_nodup _) ((f.shows_iff k).mp hs)
    hw hnow hlost

/-! ## The channels -/

/-- Channel e neither receives nor sends the document of slot k. -/
def Filing.awayFrom (f : Filing) (e k : Nat) : Prop :=
  (∀ d, (f.chan e).doc = some d → slotOf d ≠ k) ∧ ∀ i, (f.chan e).bound ≠ some (k, i)

theorem Filing.resetChannels_carries {P : NoticeKey → Prop} (hP : ofDocuments P)
    (hn : ∀ d e, ¬ P { kind := .docClosed, doc := d, item := .channel e }) : f.carries P f.resetChannels :=
  Filing.foldl_resetChannel channelNumbers_nodup (Filing.carries_refl P f) fun _ e _ _ a =>
    a.resetChannel hP fun d => hn d e

theorem Filing.resetChannels_keepsTables (f : Filing) : f.keepsTables f.resetChannels :=
  Filing.foldl_resetChannel channelNumbers_nodup f.keepsTables_refl fun _ e _ _ a => a.resetChannel e

theorem Filing.resetChannels_lists (f : Filing) : ∀ j, ∀ p ∈ f.resetChannels.docPages j, p ∈ f.docPages j :=
  Filing.foldl_resetChannel (R := fun h => ∀ j, ∀ p ∈ h.docPages j, p ∈ f.docPages j) channelNumbers_nodup
    (fun _ _ h => h) fun h e _ _ a j p hp => a j p (h.resetChannel_lists e j p hp)

theorem Filing.resetChannels_spares (h : ∀ e, f.awayFrom e k) : f.spares k [] f.resetChannels :=
  Filing.foldl_resetChannel channelNumbers_nodup (Filing.spares_refl k [] f) fun m e _ hch a =>
    a.resetChannel (f.apartFrom_nil k) (by rw [hch]; exact (h e).1) (by rw [hch]; exact (h e).2) fun _ _ h => nomatch h

/-! ## Documents that no channel has (R98, R99, R136) -/

theorem Filing.reset_keeps (h : ∀ e, f.awayFrom e k) (hk : f.shows k → ¬ (f.doc k).loose) :
    f.resetChannels.resetBindings.doc k = f.doc k := by
  have hdoc := (Filing.resetChannels_spares h).doc
  have hid : f.resetChannels.docId k = f.docId k := by rw [Filing.docId, hdoc]; rfl
  refine (Filing.resetBindings_spares (Filing.apartFrom_nil _ k) fun hs => ?_).doc.trans hdoc
  rw [hdoc]
  exact hk ((f.resetChannels_keepsTables.shows hid).mp hs)

theorem Filing.reset_releases (h : ∀ e, f.awayFrom e k) (hk : k < 1024) (hg : (f.doc k).gen < 64)
    (hl : (f.doc k).loose) (hs : f.shows k) (hw : base.ring.waiting = []) (hnow : base.now = f.now)
    (hlost : base.ring.lost ≤ f.ring.lost) :
    f.resetChannels.resetBindings.doc k = Doc.freed (((f.doc k).gen + 1) % 64) ∧
      base.tells f.resetChannels.resetBindings .released (some (f.docId k)) .none 0
        [argNat (f.docId k), argNat (f.doc k).mailbox, argNat (f.doc k).pageCount, argNat (f.doc k).blockTotal] := by
  have hdoc := (Filing.resetChannels_spares h).doc
  have hid : f.resetChannels.docId k = f.docId k := by rw [Filing.docId, hdoc]; rfl
  have hcar := f.resetChannels_carries ofDocuments_none fun _ _ h => h
  have hrel := Filing.resetBindings_release (f := f.resetChannels) (k := k) (base := base) hk (by rw [hdoc]; exact hg)
    (by rw [hdoc]; exact hl) ((f.resetChannels_keepsTables.shows hid).mpr hs) hw (hnow.trans hcar.now.symm)
    (hlost.trans hcar.lost)
  rw [hdoc, hid] at hrel
  exact hrel

/-! ## Sends (R128) -/

theorem Filing.reset_send {i : Nat} (hc : c ∈ channelNumbers) (hi : i < 4) (hst : (f.chan c).state = .send)
    (hb : (f.chan c).bound = some (k, i)) (hother : ∀ e, e ≠ c → (f.chan e).bound ≠ some (k, i))
    (hcall : ∀ e d, (f.chan e).doc = some d → slotOf d ≠ k) :
    let r := (f.doc k).recipient i
    (f.resetChannels.resetBindings.doc k).recipient i = { r with state := .ready, channel := none } ∧
      (r.cls = .urgent → (k, i) ∈ f.resetChannels.resetBindings.queue.urgent) ∧
      (r.cls = .normal → (k, i) ∈ f.resetChannels.resetBindings.queue.normal) ∧
      (r.cls = .bulk → (k, i) ∈ f.resetChannels.resetBindings.queue.bulk) := by
  intro r
  obtain ⟨m, hm, hmc, hQ⟩ := f.resetChannels_around hc (R := fun h => (h.doc k).recipient i = r) rfl
    fun h e he hch hR => (Filing.resetChannel_recipient (by rw [hch]; exact hcall e) (by rw [hch]; exact hother e he)).trans hR
  have hsend := Filing.resetChannel_send (g := m) (hmc ▸ hst) (hmc ▸ hb)
  rw [hm] at hsend
  obtain ⟨hrec, hq⟩ := hsend
  have hrec' : (f.resetChannels.doc k).recipient i = { r with state := .ready, channel := none } :=
    hQ (fun h => (h.doc k).recipient i = { r with state := .ready, channel := none }) hrec fun h e he hch hR =>
      (Filing.resetChannel_recipient (by rw [hch]; exact hcall e) (by rw [hch]; exact hother e he)).trans hR
  have htab : (m.resetChannel c).keepsTables f.resetChannels :=
    hQ _ (Filing.keepsTables_refl _) fun h e _ _ a => a.resetChannel e
  have hlive : (f.resetChannels.doc k).anyLive = true :=
    (Doc.anyLive_iff _).mpr ⟨i, hi, by rw [hrec']; rfl⟩
  have hdoc : f.resetChannels.resetBindings.doc k = f.resetChannels.doc k :=
    (Filing.resetBindings_spares (Filing.apartFrom_nil _ k) fun _ hl => by
      obtain ⟨-, -, -, hnone⟩ := hl
      rw [hlive] at hnone
      cases hnone).doc
  obtain ⟨hu, hn, hb⟩ := Filing.resetBindings_queue (f := f.resetChannels) (x := (k, i))
  obtain ⟨qu, qn, qb⟩ := hq
  refine ⟨?_, fun h => hu (htab.urgent _ (qu h)), fun h => hn (htab.normal _ (qn h)), fun h => hb (htab.bulk _ (qb h))⟩
  rw [hdoc]
  exact hrec'

/-! ## Calls (R50, R58, R91 to R93) -/

theorem Filing.closeDoc_page (h : (f.doc k).pageCount ≠ 0) (c p : Nat) :
    (f.closeDoc c k .callEnded).page p = f.page p := by
  rw [Filing.closeDoc_of_pages h, Filing.raiseDocClosed, Filing.raise_page, Filing.setRetention_page,
    Filing.filedAs_page]

/-- What the other channels and their documents leave of a call: its document closes as if alone. -/
structure Filing.callAlone (c k : Nat) (f x g : Filing) : Prop where
  ready : f.readyToEnd k x
  page : ∀ p, (f.chan c).state = .page → (f.chan c).openPage = some p →
    (f.page p).forcedFrom (x.page p) (f.chan c).estimate f.now
  spares : (x.closeDoc c k .callEnded).spares k (f.docPages k) g
  carries : ∀ d, (x.closeDoc c k .callEnded).carries (· = { kind := .docClosed, doc := d, item := .channel c }) g
  tables : (x.closeDoc c k .callEnded).keepsTables g
  apart : g.apartFrom k (f.docPages k)

/-- Channel c receives document d, and no other channel or document has to do with it or its pages. -/
structure Filing.soleCall (c d : Nat) (f : Filing) : Prop where
  state : (f.chan c).state = .gap ∨ (f.chan c).state = .page
  doc : (f.chan c).doc = some d
  others : ∀ e, e ≠ c → f.awayFrom e (slotOf d) ∧ ∀ p, (f.chan e).openPage = some p → p ∉ f.docPages (slotOf d)
  apart : f.apartFrom (slotOf d) (f.docPages (slotOf d))
  own : ∀ p, (f.chan c).openPage = some p → p ∈ f.docPages (slotOf d)

theorem Filing.soleCall.alone {d : Nat} (a : f.soleCall c d) (hc : c ∈ channelNumbers) :
    ∃ x, f.callAlone c (slotOf d) x f.resetChannels := by
  obtain ⟨hst, hd, hother, hdis, hown⟩ := a
  set k := slotOf d with hkdef
  have step {b h : Filing} {e : Nat} (he : e ≠ c) (hch : h.chan e = f.chan e) (hS : b.apartFrom k (f.docPages k))
      (a : b.spares k (f.docPages k) h) : b.spares k (f.docPages k) (h.resetChannel e) := by
    obtain ⟨⟨hdoc, hbound⟩, hpage⟩ := hother e he
    exact a.resetChannel hS (by rw [hch]; exact hdoc) (by rw [hch]; exact hbound) (by rw [hch]; exact hpage)
  obtain ⟨m, ⟨hsp, hca, hta⟩, hmc, hQ⟩ := f.resetChannels_around hc
    (R := fun h => f.spares k (f.docPages k) h ∧ f.carries (fun _ => False) h ∧ f.keepsTables h)
    ⟨Filing.spares_refl .., Filing.carries_refl .., f.keepsTables_refl⟩
    fun h e he hch ⟨hsp, hca, hta⟩ =>
      ⟨step he hch hdis hsp, hca.resetChannel ofDocuments_none fun _ h => h, hta.resetChannel e⟩
  have hm : f.readyToEnd k m :=
    ⟨by rw [hsp.doc], Filing.docPages_congr hsp.doc hsp.pages, hca.now, hta, hca⟩
  obtain ⟨x, hx, hxp, hclose⟩ := Filing.resetChannel_call (f := m) (hmc ▸ hst) (hmc ▸ hd)
  have hapart : (m.resetChannel c).apartFrom k (f.docPages k) := fun j hj p hp =>
    hdis j hj p (hsp.lists j hj p (m.resetChannel_lists c j p hp))
  refine ⟨x, hm.trans hx, fun p hpg hop => ?_, ?_, fun n => ?_, ?_, ?_⟩
  · have := hxp p (hmc ▸ hpg) (hmc ▸ hop)
    rw [hmc, hm.now, hsp.pages p (hown p hop)] at this
    exact this
  · exact (hclose.spares k _).trans (hQ _ (Filing.spares_refl ..) fun h e he hch => step he hch hapart)
  · exact (hclose.carries _).trans (hQ _ (Filing.carries_refl ..) fun h e he _ a =>
      a.resetChannel (ofDocuments_docClosed _ _) fun _ hk => he (by injection hk with _ _ hk; injection hk))
  · exact hclose.keepsTables.trans (hQ _ (Filing.keepsTables_refl _) fun h e _ _ a => a.resetChannel e)
  · exact fun j hj p hp => hdis j hj p (f.resetChannels_lists j p hp)

/-- Only the aperture that shows it holds the call's document. -/
def Filing.callGoes (f : Filing) (k : Nat) : Prop :=
  f.shows k ∧ (f.doc k).hold = false ∧ (f.doc k).expired = true ∧ (f.doc k).anyLive = false

section
variable {x : Filing} (a : f.callAlone c k x g)
include a

theorem Filing.callAlone.empty (hz : (f.doc k).pageCount = 0) :
    g.resetBindings.doc k = Doc.freed (((f.doc k).gen + 1) % 64) := by
  have hx : (x.doc k).pageCount = 0 := by rw [a.ready.doc]; exact hz
  have hg : g.doc k = Doc.freed (((f.doc k).gen + 1) % 64) := by
    rw [a.spares.doc, Filing.closeDoc_of_empty hx, a.ready.doc]
  refine (Filing.resetBindings_spares (Filing.apartFrom_nil _ k) fun _ => ?_).doc.trans hg
  rw [hg]
  exact Doc.freed_not_loose _

theorem Filing.callAlone.endsDoc (hz : (f.doc k).pageCount ≠ 0) :
    f.endsDoc k (f.mailbox (f.doc k).mailbox).endState g := by
  have hx : (x.doc k).pageCount ≠ 0 := by rw [a.ready.doc]; exact hz
  have hbox : (x.mailbox (x.doc k).mailbox).endState = (f.mailbox (f.doc k).mailbox).endState := by
    rw [a.ready.doc, Mailbox.endState, a.ready.tables.strict]; rfl
  exact (a.ready.endsDoc (hbox ▸ Filing.closeDoc_endsDoc hx c)).later a.spares a.tables

theorem Filing.callAlone.loose_iff (hz : (f.doc k).pageCount ≠ 0) : (g.doc k).loose ↔
    (f.doc k).hold = false ∧ (f.doc k).expired = true ∧ (f.doc k).anyLive = false := by
  refine (a.endsDoc hz).loose_iff ?_
  unfold Mailbox.endState
  split_ifs
  · exact .inr rfl
  · exact .inl rfl

theorem Filing.callAlone.shows (hz : (f.doc k).pageCount ≠ 0) : g.shows k ↔ f.shows k :=
  (a.ready.tables.trans (((Filing.keepsTables_refl x).closeDoc c k .callEnded).trans a.tables)).shows (a.endsDoc hz).docId

/-- The call's document leaves as it closes (R98, R99). -/
theorem Filing.callAlone.released (hz : (f.doc k).pageCount ≠ 0) (hk : k < 1024) (hgen : (f.doc k).gen < 64)
    (hgo : f.callGoes k) : g.resetBindings.doc k = Doc.freed (((f.doc k).gen + 1) % 64) := by
  obtain ⟨hs, hl⟩ := hgo
  have hg : (g.doc k).gen = (f.doc k).gen := by rw [(a.endsDoc hz).record]
  rw [← hg]
  exact (Filing.resetBindings_release (base := { g with ring := { g.ring with waiting := [] } }) hk (hg ▸ hgen)
    ((a.loose_iff hz).mpr hl) ((a.shows hz).mpr hs) rfl rfl le_rfl).1

theorem Filing.callAlone.stays (hz : (f.doc k).pageCount ≠ 0) (hgo : ¬ f.callGoes k) :
    g.spares k (f.docPages k) g.resetBindings :=
  Filing.resetBindings_spares a.apart fun hs hl => hgo ⟨(a.shows hz).mp hs, (a.loose_iff hz).mp hl⟩

theorem Filing.callAlone.closed (hz : (f.doc k).pageCount ≠ 0) (hgo : ¬ f.callGoes k) :
    f.endsDoc k (f.mailbox (f.doc k).mailbox).endState g.resetBindings := by
  obtain ⟨hrec, hr, hq, ht⟩ := a.endsDoc hz
  have hset : f.endsDoc k (f.mailbox (f.doc k).mailbox).endState { g with bindings := [] } := ⟨hrec, hr, hq, ht⟩
  have hback : Filing.spares k (f.docPages k) { g with bindings := [] } g := (Filing.spares_refl ..).of_dir rfl rfl
  exact hset.later (hback.trans (a.stays hz hgo)) ((Filing.keepsTables_refl _).checks _)

theorem Filing.callAlone.page_closed (hz : (f.doc k).pageCount ≠ 0) (hgo : ¬ f.callGoes k) {p : Nat}
    (hst : (f.chan c).state = .page) (hop : (f.chan c).openPage = some p) (hown : p ∈ f.docPages k) :
    (f.page p).forcedFrom (g.resetBindings.page p) (f.chan c).estimate f.now := by
  have hx : (x.doc k).pageCount ≠ 0 := by rw [a.ready.doc]; exact hz
  rw [(a.stays hz hgo).pages p hown, a.spares.pages p hown, Filing.closeDoc_page hx]
  exact a.page p hst hop

/-- DOC_CLOSED is told of the call's document (R93). -/
theorem Filing.callAlone.told (hz : (f.doc k).pageCount ≠ 0) (hgo : ¬ f.callGoes k) (hw : base.ring.waiting = [])
    (hnow : base.now = f.now) (hlost : base.ring.lost ≤ f.ring.lost) :
    base.tells g.resetBindings .docClosed (some (f.docId k)) (.channel c)
      (if (f.mailbox (f.doc k).mailbox).endState = .filed then 1 else 2)
      [argNat (f.docId k), packWord [(0, 8, c), (8, 8, (f.doc k).mailbox), (16, 8, 2),
        (31, 1, flag (g.resetBindings.doc k).damaged)], argNat (f.doc k).pageCount,
       argNat (g.resetBindings.doc k).blockTotal] := by
  have hx : (x.doc k).pageCount ≠ 0 := by rw [a.ready.doc]; exact hz
  have hbox : (x.doc k).mailbox = (f.doc k).mailbox := by rw [a.ready.doc]
  have hcount : (x.doc k).pageCount = (f.doc k).pageCount := by rw [a.ready.doc]
  have hid : x.docId k = f.docId k := by rw [Filing.docId, a.ready.doc]; rfl
  have hstate : (x.mailbox (f.doc k).mailbox).endState = (f.mailbox (f.doc k).mailbox).endState := by
    rw [Mailbox.endState, a.ready.tables.strict]; rfl
  have htold := Filing.closeDoc_told (base := base) hx c hw (hnow.trans a.ready.now.symm)
    (hlost.trans a.ready.carries.lost)
  dsimp only at htold
  rw [hid, hbox, hcount, hstate, ← a.spares.doc, ← (a.stays hz hgo).doc] at htold
  exact htold.carried hw ((a.carries _).trans (Filing.resetBindings_carries (ofDocuments_docClosed _ _)
    fun _ h => by injection h with h; cases h)) rfl

end

end

end Sys2Proof.Machine
end


section
/-! PROOFS. BRESET as a step (R17, R58, R136, R160, R165, R188). -/

namespace Sys2Proof.Machine

section
variable {f g b : Filing} {c d k : Nat}

/-! ## Before the channels -/

/-- BRESET at the filing blocks is what its channels and apertures do once the Posting Unit and the guard are idle. -/
theorem Filing.boardReset_parts (f : Filing) (ahead : Option Nat) :
    ∃ b, f.boardIdle b ∧ f.boardReset ahead = b.resetChannels.resetBindings :=
  ⟨_, Filing.keepAhead_boardIdle ahead f, rfl⟩

section
variable (i : f.boardIdle b)
include i

theorem Filing.boardIdle.shows (k : Nat) : b.shows k ↔ f.shows k := by
  simp only [Filing.shows, i.binding, i.docId]

theorem Filing.boardIdle.awayFrom {e : Nat} (h : f.awayFrom e k) : b.awayFrom e k := by
  unfold Filing.awayFrom
  rw [i.chan]
  exact h

theorem Filing.boardIdle.soleCall (a : f.soleCall c d) : b.soleCall c d where
  state := by rw [i.chan]; exact a.state
  doc := by rw [i.chan]; exact a.doc
  others e he := by
    obtain ⟨haway, hpages⟩ := a.others e he
    rw [i.chan, i.docPages]
    exact ⟨i.awayFrom haway, hpages⟩
  apart j hj p hp := by
    rw [i.docPages] at hp ⊢
    exact a.apart j hj p hp
  own := by rw [i.chan, i.docPages]; exact a.own

theorem Filing.boardIdle.callGoes : b.callGoes k ↔ f.callGoes k := by
  unfold Filing.callGoes
  rw [i.shows, i.doc]

theorem Filing.boardIdle.endsDoc {st : DocState} (a : b.endsDoc k st g) : f.endsDoc k st g := by
  obtain ⟨hrec, hr, hq, ht⟩ := a
  rw [i.doc, i.docPages, i.now, i.mailbox] at hrec
  rw [i.doc] at hr hq
  rw [i.doc, i.now, i.mailbox] at ht
  exact ⟨hrec, hr, hq, ht⟩

end

/-! ## After the channels -/

theorem Filing.reset_carries (b : Filing) : b.carries (fun _ => False) b.resetChannels.resetBindings :=
  (b.resetChannels_carries ofDocuments_none fun _ _ h => h).trans
    (Filing.resetBindings_carries ofDocuments_none fun _ h => h)

theorem Filing.resetBindings_bindings (f : Filing) : f.resetBindings.bindings = [] := by
  rw [Filing.resetBindings, Filing.checkReleases_bindings]

theorem Filing.resetBindings_chan (f : Filing) (c : Nat) : f.resetBindings.chan c = f.chan c := by
  rw [Filing.resetBindings, Filing.checkReleases_chan]; rfl

/-- The filing blocks that BRESET leaves idle (R58, R136, R160, R165). -/
theorem Filing.boardReset_idle (f : Filing) (ahead : Option Nat) : let g := f.boardReset ahead
    (∀ x, g.slot x = Slot.fresh) ∧ g.posting.deferred = [] ∧ g.ring.producer = 0 ∧ g.ring.consumer = 0 ∧
      g.ring.resetWaits = true ∧ g.mirror.guarded = none ∧ (∀ r, g.binding r = none) ∧ g.now = f.now := by
  obtain ⟨b, i, hg⟩ := f.boardReset_parts ahead
  have hc := b.reset_carries
  have hbind := b.resetChannels.resetBindings_bindings
  rw [← hg] at hc hbind
  generalize f.boardReset ahead = g at hc hbind ⊢
  refine ⟨fun x => ?_, ?_, hc.producer.trans i.producer, hc.consumer.trans i.consumer, hc.resetWaits.trans i.resetWaits,
    hc.guarded.trans i.guarded, fun r => ?_, hc.now.trans i.now⟩
  · rw [Filing.slot, hc.posting, i.posting]; rfl
  · rw [hc.posting, i.posting]
  · rw [Filing.binding, hbind]; rfl

theorem Filing.boardReset_chan (f : Filing) (ahead : Option Nat) (hc : c ∈ channelNumbers) :
    ∃ ch : Channel, (f.boardReset ahead).chan c = ch.afterReset := by
  obtain ⟨b, -, hg⟩ := f.boardReset_parts ahead
  obtain ⟨ch, hch⟩ := b.resetChannels_chan hc
  rw [hg, Filing.resetBindings_chan]
  exact ⟨ch, hch⟩

/-! ## Calls, sends and the other documents -/

section
variable (ahead : Option Nat)

theorem Filing.soleCall.boardReset_freed (a : f.soleCall c d) (hc : c ∈ channelNumbers) (hk : slotOf d < 1024)
    (hgen : (f.doc (slotOf d)).gen < 64) (hgo : (f.doc (slotOf d)).pageCount = 0 ∨ f.callGoes (slotOf d)) :
    (f.boardReset ahead).doc (slotOf d) = Doc.freed (((f.doc (slotOf d)).gen + 1) % 64) := by
  obtain ⟨b, i, hg⟩ := f.boardReset_parts ahead
  obtain ⟨x, hx⟩ := (i.soleCall a).alone hc
  rw [hg, ← i.doc]
  by_cases hz : (f.doc (slotOf d)).pageCount = 0
  · exact hx.empty (by rw [i.doc]; exact hz)
  · exact hx.released (by rw [i.doc]; exact hz) hk (by rw [i.doc]; exact hgen) (i.callGoes.mpr (hgo.resolve_left hz))

/-- A call's document with pages that is not released closes CALL_ENDED, as DOC_CLOSED tells. -/
theorem Filing.soleCall.boardReset_closed {base : Filing} (a : f.soleCall c d) (hc : c ∈ channelNumbers)
    (hz : (f.doc (slotOf d)).pageCount ≠ 0) (hgo : ¬ f.callGoes (slotOf d)) (hw : base.ring.waiting = [])
    (hnow : base.now = f.now) (hlost : base.ring.lost ≤ f.ring.lost) : let k := slotOf d
    let st := (f.mailbox (f.doc k).mailbox).endState
    let g := f.boardReset ahead
    f.endsDoc k st g ∧ base.tells g .docClosed (some (f.docId k)) (.channel c) (if st = .filed then 1 else 2)
      [argNat (f.docId k), packWord [(0, 8, c), (8, 8, (f.doc k).mailbox), (16, 8, 2), (31, 1, flag (g.doc k).damaged)],
        argNat (f.doc k).pageCount, argNat (g.doc k).blockTotal] := by
  obtain ⟨b, i, hg⟩ := f.boardReset_parts ahead
  obtain ⟨x, hx⟩ := (i.soleCall a).alone hc
  have hz' : (b.doc (slotOf d)).pageCount ≠ 0 := by rw [i.doc]; exact hz
  have hgo' := mt i.callGoes.mp hgo
  have hend := i.endsDoc (hx.closed hz' hgo')
  have htold := hx.told hz' hgo' hw (hnow.trans i.now.symm) (hlost.trans i.lost.ge)
  rw [i.docId, i.mailbox, i.doc] at htold
  rw [i.mailbox, i.doc] at hend
  rw [← hg] at htold hend
  exact ⟨hend, htold⟩

theorem Filing.soleCall.boardReset_page (a : f.soleCall c d) (hc : c ∈ channelNumbers)
    (hgo : ¬ f.callGoes (slotOf d)) {p : Nat} (hst : (f.chan c).state = .page) (hop : (f.chan c).openPage = some p) :
    (f.page p).forcedFrom ((f.boardReset ahead).page p) (f.chan c).estimate f.now := by
  obtain ⟨b, i, hg⟩ := f.boardReset_parts ahead
  obtain ⟨x, hx⟩ := (i.soleCall a).alone hc
  have hown := a.own p hop
  have hz : (b.doc (slotOf d)).pageCount ≠ 0 := by
    rw [i.doc]
    intro hz
    rw [Filing.docPages_of_pageCount_zero hz] at hown
    cases hown
  have hpage := hx.page_closed hz (mt i.callGoes.mp hgo) (i.chan c ▸ hst) (i.chan c ▸ hop) (i.docPages _ ▸ hown)
  rw [i.page, i.chan, i.now] at hpage
  rw [hg]
  exact hpage

theorem Filing.boardReset_send {n : Nat} (hc : c ∈ channelNumbers) (hn : n < 4) (hst : (f.chan c).state = .send)
    (hb : (f.chan c).bound = some (k, n)) (hother : ∀ e, e ≠ c → (f.chan e).bound ≠ some (k, n))
    (hcall : ∀ e d, (f.chan e).doc = some d → slotOf d ≠ k) :
    let r := (f.doc k).recipient n
    ((f.boardReset ahead).doc k).recipient n = { r with state := .ready, channel := none } ∧
      (r.cls = .urgent → (k, n) ∈ (f.boardReset ahead).queue.urgent) ∧
      (r.cls = .normal → (k, n) ∈ (f.boardReset ahead).queue.normal) ∧
      (r.cls = .bulk → (k, n) ∈ (f.boardReset ahead).queue.bulk) := by
  obtain ⟨b, i, hg⟩ := f.boardReset_parts ahead
  have hchan := i.chan
  have h := Filing.reset_send (f := b) hc hn (by rw [hchan]; exact hst) (by rw [hchan]; exact hb)
    (fun e => by rw [hchan]; exact hother e) (fun e => by rw [hchan]; exact hcall e)
  rw [i.doc, ← hg] at h
  exact h

theorem Filing.boardReset_keeps (h : ∀ e, f.awayFrom e k) (hk : ¬ (f.shows k ∧ (f.doc k).loose)) :
    (f.boardReset ahead).doc k = f.doc k := by
  obtain ⟨b, i, hg⟩ := f.boardReset_parts ahead
  rw [hg, Filing.reset_keeps (fun e => i.awayFrom (h e)), i.doc]
  rw [i.shows, i.doc]
  exact fun hs hl => hk ⟨hs, hl⟩

theorem Filing.boardReset_releases {base : Filing} (h : ∀ e, f.awayFrom e k) (hk : k < 1024) (hgen : (f.doc k).gen < 64)
    (hl : (f.doc k).loose) (hs : f.shows k) (hw : base.ring.waiting = []) (hnow : base.now = f.now)
    (hlost : base.ring.lost ≤ f.ring.lost) :
    (f.boardReset ahead).doc k = Doc.freed (((f.doc k).gen + 1) % 64) ∧
      base.tells (f.boardReset ahead) .released (some (f.docId k)) .none 0
        [argNat (f.docId k), argNat (f.doc k).mailbox, argNat (f.doc k).pageCount, argNat (f.doc k).blockTotal] := by
  obtain ⟨b, i, hg⟩ := f.boardReset_parts ahead
  have h := Filing.reset_releases (f := b) (base := base) (fun e => i.awayFrom (h e)) hk (by rw [i.doc]; exact hgen)
    (by rw [i.doc]; exact hl) ((i.shows k).mpr hs) hw (hnow.trans i.now.symm) (hlost.trans i.lost.ge)
  rw [i.doc, i.docId, ← hg] at h
  exact h

end

end

/-- BRESET from READY onwards, but for the scrubber that it may wake. -/
theorem exec_breset {s : State} (hs : s.calm = true) (hb : s.board.breset = false) :
    ∃ t x, exec .breset s = .next t ∧ t.store = s.store ∧ t.pending = s.pending ∧ t.board = s.board.abandon ∧
      t.filing = { s.filing.boardReset s.board.ahead with scrubber := x } := by
  obtain ⟨hph, hset⟩ := (State.calm_iff s).mp hs
  have hrun : s.filing.running = true := by rw [Filing.running, hph]; rfl
  have hexec : exec .breset s = .next (State.wakeScrub { s with
      board := s.board.abandon, filing := s.filing.boardReset s.board.ahead }) := by
    show execBreset s = _
    rw [execBreset, if_neg (by simp [hph, hb]), State.settle_of_settled s hset]
    simp only [hrun, if_true]
  generalize s.filing.boardReset s.board.ahead = g at hexec ⊢
  rcases State.wakeScrub_cases { s with board := s.board.abandon, filing := g } with e | ⟨x, e⟩ <;> rw [e] at hexec
  · exact ⟨_, g.scrubber, hexec, rfl, rfl, rfl, rfl⟩
  · exact ⟨_, x, hexec, rfl, rfl, rfl, rfl⟩

end Sys2Proof.Machine

open Sys2Proof Sys2Proof.Machine

/-- Settles O56: the Posting Unit and the guard first, the channels one after the other, the apertures last; a document is
followed through what the other channels and the checks spare of it. -/
theorem bresetClearsTheBoardSide : Obligations.BresetClearsTheBoardSide := by
  refine ⟨fun s hs hb => ?_, fun _ => rfl⟩
  obtain ⟨t, x, hexec, hstore, hpending, hboard, hfiling⟩ := exec_breset hs hb
  obtain ⟨hslot, hdef, hprod, hcons, hwaits, hguard, hbind, hnow⟩ := s.filing.boardReset_idle s.board.ahead
  have hchan (c : Nat) (h1 : 1 ≤ c) (h24 : c ≤ 24) :=
    s.filing.boardReset_chan s.board.ahead ((mem_channelNumbers c).mpr ⟨h1, h24⟩)
  have hfreed (c d : Nat) := Filing.soleCall.boardReset_freed (f := s.filing) (c := c) (d := d) s.board.ahead
  have hclosed (c d : Nat) := Filing.soleCall.boardReset_closed (f := s.filing) (c := c) (d := d) s.board.ahead
    (base := { s.filing with ring := { s.filing.ring with waiting := [] } })
  have hpage (c d p : Nat) := Filing.soleCall.boardReset_page (f := s.filing) (c := c) (d := d) s.board.ahead (p := p)
  have hsend (c k n : Nat) := Filing.boardReset_send (f := s.filing) (c := c) (k := k) s.board.ahead (n := n)
  have hkeeps (k : Nat) := Filing.boardReset_keeps (f := s.filing) (k := k) s.board.ahead
  have hrel (k : Nat) := Filing.boardReset_releases (f := s.filing) (k := k) s.board.ahead
    (base := { s.filing with ring := { s.filing.ring with waiting := [] } })
  generalize s.filing.boardReset s.board.ahead = g at *
  refine ⟨t, hexec, hstore, hpending, hboard, ?_⟩
  rw [State.attn, hfiling]
  have haway {e k : Nat} (h : (¬ ∃ d, (s.filing.chan e).doc = some d ∧ slotOf d = k) ∧
      ¬ ∃ i, (s.filing.chan e).bound = some (k, i)) : s.filing.awayFrom e k :=
    ⟨fun d hd hk => h.1 ⟨d, hd, hk⟩, fun i hi => h.2 ⟨i, hi⟩⟩
  refine ⟨fun y => ?_, hdef, hprod, hcons, hwaits, ?_, hguard, fun c h1 h24 => ?_, hbind, hnow, ?_, ?_, ?_⟩
  · have h : g.slot y = Slot.fresh := hslot y
    exact ⟨congrArg Slot.state h, congrArg Slot.words h, congrArg Slot.written h⟩
  · show (g.ring.producer != g.ring.consumer) = false
    rw [hprod, hcons]; rfl
  · obtain ⟨ch, hch⟩ := hchan c h1 h24
    have h : Filing.chan { g with scrubber := x } c = ch.afterReset := hch
    rw [h]
    exact ⟨rfl, rfl, rfl, rfl, rfl, rfl, rfl⟩
  · intro c d h1 h24 hst hd k dd b damaged st dueAt hother hk hgen hdis hown goes
    have hc := (mem_channelNumbers c).mpr ⟨h1, h24⟩
    have hsole : s.filing.soleCall c d :=
      ⟨hst, hd, fun e he => ⟨haway ⟨(hother e he).1, (hother e he).2.1⟩, (hother e he).2.2⟩, hdis, hown⟩
    refine ⟨fun p hgo hpg hop => hpage c d p hsole hc hgo hpg hop,
      fun hz => hfreed c d hsole hc hk hgen (.inl hz), fun _ hgo => hfreed c d hsole hc hk hgen (.inr hgo),
      fun hz hgo => ?_⟩
    obtain ⟨⟨hrec, hr, hq, ht⟩, htold⟩ := hclosed c d hsole hc hz hgo rfl rfl le_rfl
    exact ⟨htold, hrec, hr, hq, ht⟩
  · intro c k i h1 h24 hi hst hbound hother hcall r
    exact hsend c k i ((mem_channelNumbers c).mpr ⟨h1, h24⟩) hi hst hbound hother
      fun e d hd hk => hcall e ⟨d, hd, hk⟩
  · intro k hk hgen hnone
    have hfar (e : Nat) : s.filing.awayFrom e k := haway (hnone e)
    exact ⟨fun hs hl => hrel k hfar hk hgen hl hs rfl rfl le_rfl, fun h => hkeeps k hfar h⟩

end

section
/-! PROOFS. The Scrub Unit: when it begins a block, when one that waits goes on, and what a line does (R29, R30). -/

namespace Sys2Proof.Machine

section
variable {s : State} {n : Nat}

/-- The condition of R29, spelled out. -/
theorem State.scrubReady_iff (s : State) (n : Nat) : s.scrubReady n = true ↔
    s.filing.dirty (.block n) = false ∧ s.board.ahead ≠ some n ∧ s.board.headBlock ≠ some n := by
  simp [State.scrubReady, and_assoc]

/-- What R29 makes of the Scrub Unit at block `n`. -/
def State.scrubStart (s : State) (n : Nat) : ScrubUnit :=
  if s.filing.dirty (.block n) = false ∧ s.board.ahead ≠ some n ∧ s.board.headBlock ≠ some n then .scrubbing n 0
  else .waiting n

/-- The unit takes the scrub chain's head by R29. -/
theorem State.beginScrub_of_cons {rest : List Nat} (h : s.filing.blocks.scrub = n :: rest) :
    s.beginScrub = { s with filing := { s.filing with scrubber := s.scrubStart n } } := by
  simp only [State.beginScrub, h, s.scrubReady_iff, State.scrubStart]

theorem State.beginScrub_of_nil (h : s.filing.blocks.scrub = []) :
    s.beginScrub = { s with filing := { s.filing with scrubber := .idle } } := by
  simp only [State.beginScrub, h]

/-- A unit that waits goes on once nothing stands in its way (R29). -/
theorem State.wakeScrub_scrubber (h : s.filing.scrubber = .waiting n) : s.wakeScrub.filing.scrubber = s.scrubStart n := by
  unfold State.wakeScrub State.scrubStart
  simp only [h, s.scrubReady_iff]
  split_ifs
  · rfl
  · exact h

theorem State.recordWritten_block (s : State) (n : Nat) :
    s.recordWritten (.block n) = (State.wakeRead (.block n) { s with filing := s.filing.unmark (.block n) }).wakeScrub := rfl

theorem Board.headBlock_congr {b c : Board} (h : b.head = c.head) : b.headBlock = c.headBlock := by
  simp only [Board.headBlock, h]

theorem Board.ahead_congr {b c : Board} (h : b.head = c.head) : b.ahead = c.ahead := by
  simp only [Board.ahead, h]

/-- The flush of the block's entry lets the unit go on, unless the head's store write lands in the block. -/
theorem State.flushRecord_scrubber (hw : s.filing.scrubber = .waiting n) (ha : s.board.ahead ≠ some n) :
    (s.flushRecord (.block n)).filing.scrubber =
      if s.board.headBlock = some n then .waiting n else .scrubbing n 0 := by
  rw [State.flushRecord, State.recordWritten_block]
  set u : State := State.wakeRead (.block n) { s.writeRecord (.block n) with filing := s.filing.unmark (.block n) } with hu
  have hhead : u.board.head = s.board.head := State.wakeRead_head ..
  have hfiling : u.filing = s.filing.unmark (.block n) := State.wakeRead_filing ..
  have hclean : u.filing.dirty (.block n) = false := by
    rw [hfiling, Filing.unmark_dirty]; exact Bool.and_false _
  refine (State.wakeScrub_scrubber (s := u) (by rw [hfiling]; exact hw)).trans ?_
  rw [State.scrubStart, hclean, Board.ahead_congr hhead, Board.headBlock_congr hhead]
  by_cases hb : s.board.headBlock = some n <;> simp [hb, ha]

/-- The head's leaving lets the unit go on, unless the block's entry is dirty. -/
theorem State.leaveQueue_wakeScrub (hw : s.filing.scrubber = .waiting n) :
    s.leaveQueue.wakeScrub.filing.scrubber =
      if s.filing.dirty (.block n) = true then .waiting n else .scrubbing n 0 := by
  have hhead : s.leaveQueue.board.head = none := State.leaveQueue_head _
  have hscrub : s.leaveQueue.filing.scrubber = .waiting n :=
    (State.leaveQueue_keeps Filing.scrubber s (by simp) (by simp)).trans hw
  have hdirty : s.leaveQueue.filing.dirty (.block n) = s.filing.dirty (.block n) :=
    State.leaveQueue_keeps (fun f => f.dirty (.block n)) s (fun f r => f.demand_dirty r _)
      fun f c => by simp [Filing.dirty]
  have hahead : s.leaveQueue.board.ahead = none := by rw [Board.ahead, hhead]; rfl
  have hblock : s.leaveQueue.board.headBlock = none := by rw [Board.headBlock, hhead]
  rw [State.wakeScrub_scrubber hscrub, State.scrubStart, hdirty, hahead, hblock]
  by_cases hd : s.filing.dirty (.block n) = true <;> simp [hd]

/-- The store write into the block lets the unit go on, unless the block's entry is dirty. -/
theorem State.storeHead_scrubber (w : HeadWork) (bs : List Byte) (hw : s.filing.scrubber = .waiting n) :
    (s.storeHead w bs).filing.scrubber = if s.filing.dirty (.block n) = true then .waiting n else .scrubbing n 0 := by
  obtain ⟨_ | _, _⟩ := w <;> exact State.leaveQueue_wakeScrub hw

/-- A flush of a block's entry is due only where the draining head does not wait for it (R15). -/
theorem State.ahead_ne_of_flushUnit (h : s.flushUnit = some (.record (.block n))) : s.board.ahead ≠ some n := by
  unfold State.flushUnit at h
  intro ha
  split_ifs at h
  · cases h
  · cases h
  obtain ⟨r, hr, hrn⟩ := Option.map_eq_some_iff.mp h
  cases hrn
  have hmay := List.find?_some hr
  simp [State.mayFlush, ha] at hmay

/-- An idle unit takes the scrub chain's head. -/
theorem exec_scrubBegin (hset : s.filing.settled = true) (hi : s.filing.scrubber = .idle)
    (hrun : s.filing.running = true) : exec .scrubBegin s = .next s.beginScrub := by
  show execScrubBegin s = _
  unfold execScrubBegin
  rw [State.settle_of_settled s hset]
  dsimp only
  rw [hi]
  dsimp only
  rw [if_pos]
  exact hrun

/-- One line of a scrub (R30). -/
theorem exec_scrubLine {i : Nat} (hg : s.grants .scrub = true) (hs : s.filing.scrubber = .scrubbing n i)
    (hb : n * 8192 + 32 * i + 32 ≤ s.store.bankMiB * 1048576) :
    exec .scrubLine s = .next ((s.granted .scrub).scrubLine n i) := by
  show execScrubLine s = _
  rw [execScrubLine, State.grantAs_of_grants hg]
  have hhas : (s.granted .scrub).store.has (n * Config.blockBytes + 32 * i) 32 = true := decide_eq_true hb
  simp only [State.granted_filing, hs, State.onBank, hhas, if_true]

theorem State.scrubLine_store (s : State) (n i : Nat) : (s.scrubLine n i).store =
    { s.store with page := s.store.page.write (n * 8192 + 32 * i) (List.replicate 32 0) } := by
  unfold State.scrubLine
  dsimp only
  split_ifs <;> rfl

theorem State.scrubLine_of_lt {i : Nat} (h : i < 255) :
    (s.scrubLine n i).filing = { s.filing with scrubber := .scrubbing n (i + 1) } := by
  have : i + 1 < Config.linesPerBlock := by simp only [Config.linesPerBlock]; omega
  simp only [State.scrubLine, this, if_true]

theorem State.scrubLine_of_last {i : Nat} (h : 255 ≤ i) : (s.scrubLine n i).filing =
    (State.beginScrub { s with filing := s.filing.scrubComplete n }).filing := by
  have : ¬ i + 1 < Config.linesPerBlock := by simp only [Config.linesPerBlock]; omega
  simp only [State.scrubLine, this, if_false]
  rfl

end

end Sys2Proof.Machine

open Sys2Proof Sys2Proof.Machine

/-- Settles O42: each clause is one of the rules above, of the begin, the wake-up and the line. -/
theorem scrubZeroesTheBlock : Obligations.ScrubZeroesTheBlock := by
  refine fun s n => ⟨fun rest hc hi hs => ?_, fun hw hg hu => ?_, fun a x q hw hg hq hh _ hb => ?_,
    fun i hg hs hb => ⟨_, exec_scrubLine hg hs hb, fun a h1 h2 => ?_, fun a ha => ?_, fun hi => ?_, fun hi => ?_⟩⟩
  · obtain ⟨hp, hset⟩ := (State.calm_iff s).mp hc
    have hrun : s.filing.running = true := by rw [Filing.running, hp]; rfl
    exact (exec_scrubBegin hset hi hrun).trans (congrArg Host.Outcome.next (State.beginScrub_of_cons hs))
  · exact ⟨_, exec_recordFlush_record hg hu,
      State.flushRecord_scrubber (s := s.granted .flush) hw (State.ahead_ne_of_flushUnit hu)⟩
  · refine ⟨_, State.exec_headStoreWrite hg hh hq ?_, State.storeHead_scrubber (s := s.granted .head) _ _ hw⟩
    rintro b ⟨⟩
    exact hb
  · rw [State.scrubLine_store]
    refine (Memory.read_write_in _ _ _ _ h1 (by simpa using h2)).trans ?_
    have : a - (n * 8192 + 32 * i) < 32 := by omega
    rw [List.getD_eq_getElem?_getD, List.getElem?_replicate, if_pos this, Option.getD_some]
  · rw [State.scrubLine_store]
    exact Memory.read_write_out _ _ _ _ (by simpa using ha)
  · exact State.scrubLine_of_lt hi
  · rw [State.scrubLine_of_last hi]
    set u : State := { s.granted .scrub with filing := s.filing.scrubComplete n } with hu
    have hscrub : u.filing.blocks.scrub = s.filing.blocks.scrub.tail := rfl
    refine ⟨rfl, rfl, Filing.block_setBlock .., Filing.mark_dirty ..,
      Filing.mark_dirty_of_dirty (Filing.mark_dirty _ _), fun h => ?_, fun m rest h => ?_⟩
    · exact congrArg (fun t : State => t.filing.scrubber) (State.beginScrub_of_nil (hscrub.trans h))
    · exact congrArg (fun t : State => t.filing.scrubber) (State.beginScrub_of_cons (hscrub.trans h))

end

section
/-! PROOFS. The fresh format builds every table empty and writes the layout header last (R183). -/

namespace Sys2Proof.Machine

theorem mem_numbers {a n i : Nat} : i ∈ numbers a n ↔ a ≤ i ∧ i < a + n := by
  simp only [numbers, List.mem_map, List.mem_range]
  exact ⟨fun ⟨j, hj, hi⟩ => by omega, fun h => ⟨i - a, by omega, by omega⟩⟩

/-- A table with one record for each number of a list. -/
theorem Tbl.find_map_mk {α : Type} (g : Nat → α) (l : List Nat) (i : Nat) :
    Tbl.find (l.map fun n => (n, g n)) i = if i ∈ l then some (g i) else none := by
  induction l with
  | nil => rfl
  | cons n l ih =>
    by_cases h : n = i
    · subst h; simp [Tbl.find]
    · simp [Tbl.find, h, ih, Ne.symm h]

theorem mem_usableBlocks {N n : Nat} : n ∈ usableBlocks N ↔ 128 ≤ n ∧ n < N := by
  rw [usableBlocks, mem_numbers]
  simp only [Config.reservedBlocks]
  omega

/-- The run of words written last reads back. -/
theorem Store.writeSegments_readWords_last (st : Store) (segs : List (Nat × List Word)) (a : Nat) (ws : List Word) :
    (st.writeSegments (segs ++ [(a, ws)])).page.readWords a ws.length = ws := by
  rw [Store.writeSegments, List.foldl_append]
  exact Memory.readWords_write _ _ _

theorem State.freshFormat_filing (s : State) : s.freshFormat.filing = s.filing.formatTables := rfl

theorem State.freshFormat_store (s : State) : s.freshFormat.store = s.store.writeSegments
    (s.filing.formatTables.tableSegments ++ s.filing.formatTables.segments .status ++
      [(0, s.filing.formatTables.headerWords)]) := rfl

theorem Filing.formatTables_blocks (f : Filing) : f.formatTables.blocks =
    { entries := (usableBlocks f.blockCount).map fun n => (n, BlockEntry.scrubbed), free := [],
      scrub := usableBlocks f.blockCount } := rfl

theorem Filing.formatTables_block_of_usable {f : Filing} {n : Nat} (h : n ∈ usableBlocks f.blockCount) :
    f.formatTables.block n = BlockEntry.scrubbed := by
  rw [Filing.block, Filing.formatTables_blocks, Tbl.find_map_mk, if_pos h, Option.getD_some]

theorem Filing.formatTables_block_of_not {f : Filing} {n : Nat} (h : n ∉ usableBlocks f.blockCount) :
    f.formatTables.block n = BlockEntry.reserved := by
  rw [Filing.block, Filing.formatTables_blocks, Tbl.find_map_mk, if_neg h, Option.getD_none]

end Sys2Proof.Machine

open Sys2Proof Sys2Proof.Machine

/-- Settles O47: the tables are read off `formatTables`, and the header is the run of words written last. -/
theorem formatBuildsEmptyTables : Obligations.FormatBuildsEmptyTables := by
  intro s h
  obtain ⟨hp, hk⟩ := (State.startsAt_iff s _).mp h
  have hrun : exec .freshFormat s = .next (s.granted .flush).freshFormat :=
    State.startUnit_eq (p := fun p => p == .formatting) (by rw [hp]; rfl) hk
  refine ⟨_, hrun, ?_⟩
  rw [State.freshFormat_filing, State.freshFormat_store]
  refine ⟨rfl, rfl, ?_, fun n h1 h2 => ?_, fun n hn => ?_, fun k => rfl, fun p => rfl, ?_, fun m => rfl, fun e => rfl,
    rfl, rfl, rfl, ?_, Store.writeSegments_general _ _⟩
  · simp only [Filing.formatTables_blocks, usableBlocks, numbers, Config.reservedBlocks, State.granted_filing]
  · exact Filing.formatTables_block_of_usable (mem_usableBlocks.mpr ⟨h1, h2⟩)
  · rw [Filing.formatTables_block_of_not fun h => absurd (mem_usableBlocks.mp h).1 (by omega)]
    rfl
  · simp only [Filing.formatTables, numbers, Config.pageRecords, Nat.zero_add, List.map_id']
  · exact Store.writeSegments_readWords_last _ _ 0 _

end

section
/-! PROOFS. What an owner does to marks and notices: marks records, raises notices, and leaves the rest of mirror and ring
alone. Said once for every operation that an expiry, a close, a release or an allocation is made of (R156, R157, R161, R187). -/

namespace Sys2Proof.Machine

/-! ## The relation -/

/-- g comes from f by marking records, raising notices of keys in K, and changing tables. -/
inductive Filing.acts (K : NoticeKey → Prop) (f : Filing) : Filing → Prop where
  | refl : f.acts K f
  | mark {g : Filing} (a : f.acts K g) (r : RecordId) : f.acts K (g.mark r)
  | raise {g : Filing} {kind : NoticeKind} {doc : Option Nat} {item : KeyItem} (a : f.acts K g)
      (hk : K { kind := kind, doc := doc, item := item }) (code : Nat) (args : List Word) :
      f.acts K (g.raise kind doc item code args)
  | tables {g h : Filing} (a : f.acts K g) (hring : h.ring = g.ring) (hmirror : h.mirror = g.mirror)
      (hboot : h.boot = g.boot) (hnow : h.clock.now = g.clock.now) (hpolicy : h.monitors.policy = g.monitors.policy) :
      f.acts K h

/-- A notice raised is produced, the ring alone changing, or enters the pending set. -/
theorem Filing.raise_cases (f : Filing) (kind : NoticeKind) (doc : Option Nat) (item : KeyItem) (code : Nat)
    (args : List Word) :
    let n : Notice := { key := { kind := kind, doc := doc, item := item }, code := code, args := args, time := f.now }
    f.raise kind doc item code args = f.produceNotice n ∨ f.raise kind doc item code args = f.pend n := by
  intro n
  by_cases h : (f.running && !f.ring.isFull && f.ring.pending.isEmpty) = true
  · exact .inl (if_pos h)
  · exact .inr (if_neg h)

/-- Raising a notice leaves the mirror alone, or marks the status record for one that is lost. -/
theorem Filing.raise_mirror (f : Filing) (kind : NoticeKind) (doc : Option Nat) (item : KeyItem) (code : Nat)
    (args : List Word) : (f.raise kind doc item code args).mirror = f.mirror ∨
      (f.raise kind doc item code args).mirror = (f.mark .status).mirror := by
  rcases f.raise_cases kind doc item code args with e | e <;> rw [e]
  · exact .inl rfl
  · rcases f.pend_cases { key := { kind := kind, doc := doc, item := item }, code := code, args := args, time := f.now }
      with ⟨e, -⟩ | ⟨e, -⟩ | ⟨e, -⟩ | ⟨e, -⟩ <;> rw [e]
    · exact .inl rfl
    · exact .inl rfl
    · exact .inr rfl
    · exact .inl rfl

/-- A mirror on which nothing was marked, or on which a mark has cleared the clean flag, its header write waiting (R187). -/
def Mirror.sameOrCleared (m n : Mirror) : Prop := n = m ∨ (n.clean = false ∧ n.rewrite = (m.rewrite || m.clean))

section
variable {K : NoticeKey → Prop} {f g h : Filing}

theorem Filing.acts.trans (a : f.acts K g) (b : g.acts K h) : f.acts K h := by
  induction b with
  | refl => exact a
  | mark _ r ih => exact ih.mark r
  | raise _ hk code args ih => exact ih.raise hk code args
  | tables _ h1 h2 h3 h4 h5 ih => exact ih.tables h1 h2 h3 h4 h5

theorem Filing.acts.boot (a : f.acts K g) : g.boot = f.boot := by
  induction a with
  | refl => rfl
  | mark _ _ ih => exact ih
  | raise _ _ _ _ ih => rw [Filing.raise_boot, ih]
  | tables _ _ _ hb _ _ ih => rw [hb, ih]

theorem Filing.acts.now (a : f.acts K g) : g.now = f.now := by
  induction a with
  | refl => rfl
  | mark _ _ ih => exact ih
  | raise _ _ _ _ ih => rw [Filing.raise_now, ih]
  | tables _ _ _ _ hn _ ih => exact hn.trans ih

theorem Filing.acts.policy (a : f.acts K g) : g.monitors.policy = f.monitors.policy := by
  induction a with
  | refl => rfl
  | mark _ _ ih => exact ih
  | raise _ _ _ _ ih => rw [Filing.raise_monitors, ih]
  | tables _ _ _ _ _ hp ih => rw [hp, ih]

theorem Filing.mark_sameOrCleared {m : Mirror} (r : RecordId) (a : m.sameOrCleared g.mirror) :
    m.sameOrCleared (g.mark r).mirror := by
  refine .inr ⟨rfl, ?_⟩
  show (g.mirror.rewrite || g.mirror.clean) = _
  rcases a with e | ⟨hc, hr⟩
  · rw [e]
  · rw [hc, hr, Bool.or_false]

theorem Filing.acts.mirror (a : f.acts K g) : f.mirror.sameOrCleared g.mirror := by
  induction a with
  | refl => exact .inl rfl
  | mark _ r ih => exact Filing.mark_sameOrCleared r ih
  | @raise g kind doc item _ _ code args ih =>
    rcases g.raise_mirror kind doc item code args with e | e <;> rw [e]
    · exact ih
    · exact Filing.mark_sameOrCleared _ ih
  | tables _ _ hm _ _ _ ih => rwa [hm]

theorem Filing.dirty_congr (e : g.mirror = f.mirror) (r : RecordId) : g.dirty r = f.dirty r := by
  rw [Filing.dirty, e, Filing.dirty]

/-- A record stays dirty. -/
theorem Filing.acts.dirty {r : RecordId} (a : f.acts K g) (hr : f.dirty r = true) : g.dirty r = true := by
  induction a with
  | refl => exact hr
  | mark _ x ih => exact Filing.mark_dirty_of_dirty ih
  | @raise g kind doc item _ _ code args ih =>
    rcases g.raise_mirror kind doc item code args with e | e
    · exact (Filing.dirty_congr e r).trans ih
    · exact (Filing.dirty_congr e r).trans (Filing.mark_dirty_of_dirty ih)
  | tables _ _ hm _ _ _ ih => exact (Filing.dirty_congr hm r).trans ih

/-! ## Notices -/

/-- Entries wait behind those that waited, and the lost count only rises. -/
theorem Filing.acts.ring_le (a : f.acts K g) :
    f.ring.waiting.length ≤ g.ring.waiting.length ∧ f.ring.lost ≤ g.ring.lost := by
  have key (x : Filing) (kind : NoticeKind) (doc : Option Nat) (item : KeyItem) (code : Nat) (args : List Word) :
      x.ring.waiting.length ≤ (x.raise kind doc item code args).ring.waiting.length ∧
        x.ring.lost ≤ (x.raise kind doc item code args).ring.lost := by
    rcases x.raise_cases kind doc item code args with e | e <;> rw [e]
    · exact ⟨by simp [Filing.produceNotice, Filing.produce], le_rfl⟩
    · rcases x.pend_cases { key := { kind := kind, doc := doc, item := item }, code := code, args := args, time := x.now }
        with ⟨e, -⟩ | ⟨e, -⟩ | ⟨e, -⟩ | ⟨e, -⟩ <;> rw [e]
      · exact ⟨le_rfl, le_rfl⟩
      · exact ⟨le_rfl, le_rfl⟩
      · exact ⟨le_rfl, Nat.le_succ _⟩
      · exact ⟨le_rfl, le_rfl⟩
  induction a with
  | refl => exact ⟨le_rfl, le_rfl⟩
  | mark _ _ ih => exact ih
  | raise _ _ code args ih => exact ⟨ih.1.trans (key ..).1, ih.2.trans (key ..).2⟩
  | tables _ hr _ _ _ _ ih => rwa [hr]

variable {kind : NoticeKind} {doc : Option Nat} {item : KeyItem} {code : Nat} {args : List Word}

/-- `tells` reads the ring of its second state alone. -/
theorem Filing.tells_congr (e : h.ring = g.ring) (ht : f.tells g kind doc item code args) :
    f.tells h kind doc item code args := by
  unfold Filing.tells
  rwa [e]

theorem Filing.tells_mono {x : Filing} (hn : x.now = f.now) (hw : x.ring.waiting.length ≤ f.ring.waiting.length)
    (hl : x.ring.lost ≤ f.ring.lost) (ht : f.tells g kind doc item code args) : x.tells g kind doc item code args := by
  unfold Filing.tells at ht ⊢
  rw [hn]
  refine ht.imp (fun ⟨e, he, hrest⟩ => ⟨e, ?_, hrest⟩) (Or.imp id fun ⟨h1, h2, h3⟩ =>
    ⟨h1, h2, h3.imp (Nat.lt_of_le_of_lt hl) id⟩)
  have hsplit : f.ring.waiting.length = x.ring.waiting.length + (f.ring.waiting.length - x.ring.waiting.length) := by omega
  rw [hsplit, ← List.drop_drop] at he
  exact List.mem_of_mem_drop he

/-- A notice just raised is told, whatever it found (R156, R157). -/
theorem Filing.tells_raise_self (g : Filing) (kind : NoticeKind) (doc : Option Nat) (item : KeyItem) (code : Nat)
    (args : List Word) : g.tells (g.raise kind doc item code args) kind doc item code args := by
  unfold Filing.tells
  rcases g.raise_cases kind doc item code args with e | e <;> rw [e]
  · refine .inl ?_
    rw [Filing.produceNotice, Filing.produce]
    dsimp only
    rw [List.drop_left]
    exact ⟨_, List.mem_singleton_self _, rfl, rfl, rfl, rfl, rfl⟩
  · refine .inr ?_
    rcases g.pend_cases { key := { kind := kind, doc := doc, item := item }, code := code, args := args, time := g.now }
      with ⟨e, x, hx, hk⟩ | ⟨e, -⟩ | ⟨e, hf, hk⟩ | ⟨e, hf, hk, hmax⟩ <;> rw [e]
    · exact .inl (List.mem_map.mpr ⟨x, hx, if_pos hk⟩)
    · exact .inl (List.mem_append_right _ (List.mem_singleton_self _))
    · exact .inr ⟨hf, hk, .inl (Nat.lt_succ_self _)⟩
    · exact .inr ⟨hf, hk, .inr hmax⟩

/-- A notice raised later is told of the state before. -/
theorem Filing.acts.tells_raise (a : f.acts K g) : f.tells (g.raise kind doc item code args) kind doc item code args :=
  Filing.tells_mono a.now.symm a.ring_le.1 a.ring_le.2 (g.tells_raise_self kind doc item code args)

/-- A told notice stays told when one of another key is raised. -/
theorem Filing.tells.raise {kind' : NoticeKind} {doc' : Option Nat} {item' : KeyItem}
    (ht : f.tells g kind doc item code args)
    (hk : (⟨kind', doc', item'⟩ : NoticeKey) ≠ ⟨kind, doc, item⟩) (code' : Nat) (args' : List Word) :
    f.tells (g.raise kind' doc' item' code' args') kind doc item code args := by
  unfold Filing.tells at ht ⊢
  rcases g.raise_cases kind' doc' item' code' args' with e | e <;> rw [e]
  · refine ht.imp (fun ⟨e, he, hrest⟩ => ⟨e, ?_, hrest⟩) id
    rw [Filing.produceNotice, Filing.produce]
    dsimp only
    rw [List.drop_append]
    exact List.mem_append_left _ he
  · rcases g.pend_cases { key := ⟨kind', doc', item'⟩, code := code', args := args', time := g.now }
      with ⟨e, -⟩ | ⟨e, hroom⟩ | ⟨e, hfull, -⟩ | ⟨e, -⟩ <;> rw [e]
    · refine ht.imp id (Or.imp (fun hn => ?_) fun ⟨hl, hno, hlost⟩ => ⟨?_, fun x hx => ?_, hlost⟩)
      · exact mem_replaceNotice_of_key_ne hn (Ne.symm hk)
      · simpa [replaceNotice] using hl
      · obtain ⟨y, hy, hyx⟩ := key_of_mem_replaceNotice hx
        exact hyx ▸ hno y hy
    · refine ht.imp id (Or.imp (fun hn => List.mem_append_left _ hn) fun ⟨hl, _, _⟩ => ?_)
      exact absurd hroom (Nat.not_lt.mpr hl)
    · exact ht.imp id (Or.imp id fun ⟨hl, hno, hlost⟩ =>
        ⟨hl, hno, hlost.imp (Nat.lt_succ_of_lt ·) (Nat.le_succ_of_le ·)⟩)
    · exact ht

/-- A told notice stays told while none of its key is raised. -/
theorem Filing.tells.later (ht : f.tells g kind doc item code args) (a : g.acts K h)
    (hK : ¬ K { kind := kind, doc := doc, item := item }) : f.tells h kind doc item code args := by
  induction a with
  | refl => exact ht
  | mark _ r ih => exact Filing.tells_congr rfl ih
  | raise _ hk c' a' ih => exact ih.raise (fun e => hK (e ▸ hk)) c' a'
  | tables _ hr _ _ _ _ ih => exact Filing.tells_congr hr ih

/-- What is told from a later state is told from an earlier one. -/
theorem Filing.acts.tells (a : f.acts K g) (ht : g.tells h kind doc item code args) :
    f.tells h kind doc item code args := Filing.tells_mono a.now.symm a.ring_le.1 a.ring_le.2 ht

end

end Sys2Proof.Machine

end

section
/-! PROOFS. The operations of the owners, as marks, notices and tables. -/

namespace Sys2Proof.Machine

/-- K holds every key of a warning: FAULT, STORE_LOW and MAILBOX_OVER. -/
def warnings (K : NoticeKey → Prop) : Prop :=
  ∀ k : NoticeKey, k.kind = .fault ∨ k.kind = .storeLow ∨ k.kind = .mailboxOver → K k

section
variable {K : NoticeKey → Prop} {f g : Filing} (a : f.acts K g)
include a

theorem Filing.acts.setDoc (s : Nat) (d : Doc) : f.acts K (g.setDoc s d) := a.tables rfl rfl rfl rfl rfl
theorem Filing.acts.setPage (p : Nat) (x : Page) : f.acts K (g.setPage p x) := a.tables rfl rfl rfl rfl rfl
theorem Filing.acts.setChan (c : Nat) (x : Channel) : f.acts K (g.setChan c x) := a.tables rfl rfl rfl rfl rfl
theorem Filing.acts.setBox (m : Nat) (x : Mailbox) : f.acts K (g.setBox m x) := a.tables rfl rfl rfl rfl rfl
theorem Filing.acts.setBlock (n : Nat) (x : BlockEntry) : f.acts K (g.setBlock n x) := a.tables rfl rfl rfl rfl rfl
theorem Filing.acts.join (s k : Nat) (x : MailClass) : f.acts K (g.join s k x) := a.tables rfl rfl rfl rfl rfl
theorem Filing.acts.place (e : Deadline) : f.acts K (g.place e) := a.tables rfl rfl rfl rfl rfl
theorem Filing.acts.removeDeadlines (s n : Nat) : f.acts K (g.removeDeadlines s n) := a.tables rfl rfl rfl rfl rfl

theorem Filing.acts.setRecipient (s k : Nat) (r : Recipient) : f.acts K (g.setRecipient s k r) :=
  (a.setDoc _ _).mark _

theorem Filing.acts.changeDoc (s : Nat) (d : Doc) : f.acts K (g.changeDoc s d) := by
  unfold Filing.changeDoc
  split_ifs
  · exact a
  · exact (a.setDoc _ _).mark _

theorem Filing.acts.changeChan (c : Nat) (x : Channel) : f.acts K (g.changeChan c x) := by
  unfold Filing.changeChan
  split_ifs
  · exact a
  · exact (a.setChan _ _).mark _

theorem Filing.acts.foldl {α : Type} (op : Filing → α → Filing) (l : List α)
    (step : ∀ x i, f.acts K x → f.acts K (op x i)) : f.acts K (l.foldl op g) := by
  induction l generalizing g with
  | nil => exact a
  | cons i l ih => exact ih (step g i a)

theorem Filing.acts.scrubAll (ns : List Nat) : f.acts K (g.scrubAll ns) := by
  have hfold := Filing.acts.foldl a
    (fun f n => (f.setBlock n { state := .scrub, index := 0, next := none }).mark (.block n)) ns
    fun _ n hx => (hx.setBlock n _).mark _
  unfold Filing.scrubAll
  dsimp only
  split_ifs
  · exact hfold.tables rfl rfl rfl rfl rfl
  · refine Filing.acts.mark ?_ _
    exact hfold.tables rfl rfl rfl rfl rfl

theorem Filing.acts.fileAll (ns : List Nat) : f.acts K (Filing.fileAll ns g) := by
  induction ns generalizing g with
  | nil => exact a
  | cons n ns ih => exact ih ((a.setBlock _ _).mark _)

theorem Filing.acts.freePages (s : Nat) (ps : List Nat) : f.acts K (g.freePages s ps) :=
  Filing.acts.tables (Filing.acts.foldl a (fun f p => (f.setPage p Page.freed).mark (.page p)) ps
    fun _ p hx => (hx.setPage p _).mark _) rfl rfl rfl rfl rfl

theorem Filing.acts.makeReady (s : Nat) : f.acts K (g.makeReady s) :=
  Filing.acts.foldl a _ _ fun _ _ hx => (hx.setRecipient _ _ _).join _ _ _

theorem Filing.acts.cancelLive (s : Nat) : f.acts K (g.cancelLive s) :=
  Filing.acts.foldl a _ _ fun _ _ hx => hx.setRecipient _ _ _

theorem Filing.acts.setRetention (s n : Nat) (t : Time) : f.acts K (g.setRetention s n t) := by
  unfold Filing.setRetention
  dsimp only
  split_ifs
  · exact a.changeDoc _ _
  · exact (a.changeDoc _ _).place _

theorem Filing.acts.endAttempt (c : Nat) (u : Recipient → Recipient) : f.acts K (g.endAttempt c u) := by
  unfold Filing.endAttempt
  dsimp only
  split
  · exact ((a.setRecipient _ _ _).setChan _ _).mark _
  · exact (a.setChan _ _).mark _

/-! ## Warnings -/

/-- A latch event (R168) raises FAULT, and a LOW event STORE_LOW before it. -/
theorem Filing.acts.latch (e : LatchEvent) (hfault : K { kind := .fault, doc := none, item := .monitor e.monitor })
    (hlow : e.monitor = .low → K { kind := .storeLow, doc := none, item := .none }) : f.acts K (g.latch e) := by
  have hset : f.acts K { g with monitors := { g.monitors with
      latches := g.monitors.latches ||| latchBit e.monitor
      capture := g.monitors.capture.or (some (e.capture g.now)) } } := a.tables rfl rfl rfl rfl rfl
  unfold Filing.latch
  dsimp only
  split_ifs with hm hl
  · exact a
  · exact Filing.acts.mark (Filing.acts.raise (hset.raise (hlow hl) _ _) hfault _ _) _
  · exact Filing.acts.mark (hset.raise hfault _ _) _

section
variable (hK : warnings K)
include hK

theorem Filing.acts.evalOver (m : Nat) : f.acts K (g.evalOver m) := by
  unfold Filing.evalOver
  dsimp only
  split_ifs
  · exact a
  · exact Filing.acts.latch (Filing.acts.raise (a.setBox _ _) (hK _ (by simp)) _ _) _ (hK _ (by simp))
      fun _ => hK _ (by simp)
  · exact a.setBox _ _
  · exact a

theorem Filing.acts.setUsage (m u : Nat) : f.acts K (g.setUsage m u) := ((a.setBox _ _).mark _).evalOver hK m

theorem Filing.acts.returnUsage (m n : Nat) : f.acts K (g.returnUsage m n) := by
  unfold Filing.returnUsage
  split_ifs
  · exact a
  · exact a.setUsage hK _ _

theorem Filing.acts.reportFault (c : Nat) (m : Monitor) (w : Word) : f.acts K (g.reportFault c m w) := by
  unfold Filing.reportFault
  dsimp only
  split_ifs
  · exact a
  · exact (a.changeChan _ _).latch _ (hK _ (by simp)) fun _ => hK _ (by simp)

/-! ## Closes and releases -/

theorem Filing.acts.completePage (s p l : Nat) (x y : Bool) (n : Nat) : f.acts K (g.completePage s p l x y n) := by
  unfold Filing.completePage
  exact ((((((a.scrubAll _).fileAll _).returnUsage hK _ _).setPage _ _).setDoc _ _).mark _).mark _

theorem Filing.acts.closeOpenPage (hclosed : ∀ d c, K { kind := .pageClosed, doc := d, item := c }) (c l : Nat)
    (x y : Bool) : f.acts K (g.closeOpenPage c l x y) := by
  unfold Filing.closeOpenPage
  dsimp only
  split
  · exact Filing.acts.raise (((a.completePage hK _ _ _ _ _ _).setChan _ _).mark _) (hclosed _ _) _ _
  · exact a

theorem Filing.acts.releaseQuiet (s : Nat) : f.acts K (g.releaseDoc true s) := by
  unfold Filing.releaseDoc
  exact ((((((a.scrubAll _).returnUsage hK _ _).mark _).freePages _ _).removeDeadlines _ _).setDoc _ _).mark _

theorem Filing.acts.releaseDoc (hreleased : ∀ d, K { kind := .released, doc := d, item := .none }) (s : Nat) :
    f.acts K (g.releaseDoc false s) := (a.releaseQuiet hK s).raise (hreleased _) _ _

theorem Filing.acts.checkRelease (hreleased : ∀ d, K { kind := .released, doc := d, item := .none }) (s : Nat) :
    f.acts K (g.checkRelease s) := by
  unfold Filing.checkRelease
  split_ifs
  · exact a.releaseDoc hK hreleased s
  · exact a

theorem Filing.acts.closeDoc (hclosed : ∀ d c, K { kind := .docClosed, doc := d, item := c }) (c s : Nat)
    (cl : Closure) : f.acts K (g.closeDoc c s cl) := by
  have h0 := (a.setDoc s { g.doc s with closure := cl, closed := some g.now }).mark (.document s)
  unfold Filing.closeDoc
  dsimp only
  split_ifs
  · exact ((h0.cancelLive s).raise (hclosed _ _) _ _).releaseQuiet hK s
  · exact (((h0.setDoc _ _).makeReady s).setRetention _ _ _).raise (hclosed _ _) _ _
  · exact ((h0.setDoc _ _).setRetention _ _ _).raise (hclosed _ _) _ _

theorem Filing.acts.closeCall (hclosed : ∀ d c, K { kind := .docClosed, doc := d, item := c }) (c : Nat) (cl : Closure)
    (x : Bool) : f.acts K (g.closeCall c cl x) := by
  unfold Filing.closeCall
  split
  · exact ((a.closeDoc hK hclosed _ _ _).setChan _ _).mark _
  · exact a

end

/-! ## Events of a tick -/

section
variable (hK : ∀ k, K k)
include hK

theorem Filing.acts.failAttempt (c : Nat) : f.acts K (g.failAttempt c) := by
  have hwarn : warnings K := fun k _ => hK k
  unfold Filing.failAttempt
  split
  · exact a
  · dsimp only
    split_ifs
    · exact Filing.acts.checkRelease ((a.endAttempt _ _).raise (hK _) _ _) hwarn (fun _ => hK _) _
    · exact Filing.acts.raise ((a.endAttempt _ _).place _) (hK _) _ _

theorem Filing.acts.stallExpiry (c : Nat) : f.acts K (g.stallExpiry c) :=
  ((a.closeOpenPage (fun k _ => hK k) (fun _ _ => hK _) _ _ _ _).reportFault (fun k _ => hK k) _ _ _).closeCall
    (fun k _ => hK k) (fun _ _ => hK _) _ _ _

theorem Filing.acts.gapExpiry (c : Nat) : f.acts K (g.gapExpiry c) :=
  (a.reportFault (fun k _ => hK k) _ _ _).closeCall (fun k _ => hK k) (fun _ _ => hK _) _ _ _

theorem Filing.acts.confirmTimeout (c : Nat) : f.acts K (g.confirmTimeout c) :=
  (a.reportFault (fun k _ => hK k) _ _ _).failAttempt hK _

theorem Filing.acts.fireHead : f.acts K g.fireHead := by
  have htail (es : List Deadline) : f.acts K { g with clock := { g.clock with deadlines := es } } :=
    a.tables rfl rfl rfl rfl rfl
  unfold Filing.fireHead
  split
  · exact a
  · dsimp only
    split
    · exact Filing.acts.checkRelease (((htail _).setDoc _ _).mark _) (fun k _ => hK k) (fun _ => hK _) _
    · exact (Filing.acts.setRecipient (htail _) _ _ _).join _ _ _

end

end

end Sys2Proof.Machine

end

section
/-! PROOFS. Power warning (R31, R165, R187). -/

namespace Sys2Proof.Machine

section
variable {s t : State}

/-! ## Assertion and withdrawal -/

/-- PWARN from READY onwards: the guard closes, the Scrub Unit pauses. -/
theorem exec_pwarnAssert (hc : s.calm = true) (hp : s.board.pwarn = false) : exec .pwarnAssert s =
    .next { s with board := { s.board with pwarn := true }
                   filing := { s.filing with mirror := { s.filing.mirror with guarded := none }
                                             scrubber := s.filing.scrubber.pause } } := by
  obtain ⟨hphase, hset⟩ := (State.calm_iff s).mp hc
  have hon : ¬ (s.filing.boot.phase = .off ∨ s.board.pwarn = true) := by simp [hphase, hp]
  have hrun : s.filing.running = true := by rw [Filing.running, hphase]; rfl
  show execPwarnAssert s = _
  unfold execPwarnAssert
  rw [if_neg hon, State.settle_of_settled s hset]
  dsimp only
  rw [if_pos hrun]
  rfl

/-- The state in which the withdrawal finds the Scrub Unit (R187). -/
def State.unwarned (s : State) : State :=
  { s with board := { s.board with pwarn := false }
           filing := { s.filing with mirror := { s.filing.mirror with clean := false, rewrite := true } } }

/-- PWARN_WITHDRAW from READY onwards: the clean flag is cleared, the Scrub Unit goes on. -/
theorem exec_pwarnWithdraw (hc : s.calm = true) (hp : s.board.pwarn = true) :
    exec .pwarnWithdraw s = .next s.unwarned.resumeScrub := by
  obtain ⟨hphase, hset⟩ := (State.calm_iff s).mp hc
  have hrun : s.filing.running = true := by rw [Filing.running, hphase]; rfl
  show execPwarnWithdraw s = _
  unfold execPwarnWithdraw
  rw [State.settle_of_settled s hset, if_neg (by simp [hp])]
  dsimp only
  rw [if_pos hrun]
  rfl

theorem State.resumeScrub_of_kept {n l : Nat} (h : s.filing.scrubber = .paused (some (n, l))) :
    s.resumeScrub = { s with filing := { s.filing with scrubber := .scrubbing n l } } := by
  rw [State.resumeScrub, h]

theorem State.resumeScrub_of_none (h : s.filing.scrubber = .paused none) : s.resumeScrub = s.beginScrub := by
  rw [State.resumeScrub, h]

theorem State.unwarned_scrubStart (s : State) (n : Nat) : s.unwarned.scrubStart n = s.scrubStart n := by
  have hdirty : s.unwarned.filing.dirty (.block n) = s.filing.dirty (.block n) := by
    have hne : (RecordId.block n == RecordId.layoutHeader) = false := rfl
    simp only [Filing.dirty, State.unwarned, hne, Bool.and_false]
    rfl
  simp only [State.scrubStart, hdirty]
  rfl

/-! ## The first dirty mark -/

theorem State.channelEvent_acts {K : NoticeKey → Prop} {st : ChannelState} {c : Nat} {act : Filing → Filing}
    (h : s.channelEvent st c act = .next t) (ha : s.filing.acts K (act s.filing)) : s.filing.acts K t.filing := by
  unfold State.channelEvent at h
  split_ifs at h <;> cases h
  · exact ha
  · exact .refl

/-- An event of a tick marks records and raises notices; the clock save also takes T. -/
theorem exec_tickEvent_acts {i : Instr}
    (hi : i = .clockSave ∨ i = .retainDeadline ∨ i = .retryDeadline ∨
      ∃ c, i = .stallExpiry c ∨ i = .gapExpiry c ∨ i = .confirmTimeout c)
    (h : exec i s = .next t) : s.filing.acts (fun _ => True) t.filing ∨ t.filing = s.filing.saveClock := by
  have hall : ∀ k, (fun _ : NoticeKey => True) k := fun _ => trivial
  have hfire {b : Bool} (h : (if s.filing.deadlineDue b then .next { s with filing := s.filing.fireHead } else
      .next s : Answer) = .next t) : s.filing.acts (fun _ => True) t.filing := by
    split_ifs at h <;> cases h
    · exact Filing.acts.fireHead .refl hall
    · exact .refl
  rcases hi with rfl | rfl | rfl | ⟨c, rfl | rfl | rfl⟩
  · have h' : (if s.filing.clock.saveOwed then .next { s with filing := s.filing.saveClock } else .next s : Answer) =
      .next t := h
    split_ifs at h' <;> cases h'
    · exact .inr rfl
    · exact .inl .refl
  · exact .inl (hfire (b := true) h)
  · exact .inl (hfire (b := false) h)
  · exact .inl (State.channelEvent_acts (act := Filing.stallExpiry c) h (Filing.acts.stallExpiry .refl hall c))
  · exact .inl (State.channelEvent_acts (act := Filing.gapExpiry c) h (Filing.acts.gapExpiry .refl hall c))
  · exact .inl (State.channelEvent_acts (act := Filing.confirmTimeout c) h (Filing.acts.confirmTimeout .refl hall c))

/-- A mark on a mirror that shows the clean flag clears it, and the header write waits. -/
theorem Mirror.sameOrCleared.of_dirty {f g : Filing} {r : RecordId} (h : f.mirror.sameOrCleared g.mirror)
    (hg : g.dirty r = true) (hf : f.dirty r = false) (hc : f.mirror.clean = true) :
    g.mirror.clean = false ∧ g.mirror.rewrite = true := by
  rcases h with e | ⟨h1, h2⟩
  · rw [Filing.dirty_congr e, hf] at hg
    cases hg
  · exact ⟨h1, by rw [h2, hc, Bool.or_true]⟩

/-! ## The clean header write -/

theorem State.flushUnit_clean (hp : s.board.pwarn = true) (hq : s.board.queue = []) (hl : s.filing.mirror.flushList = [])
    (hc : s.filing.mirror.clean = false) (hr : s.filing.mirror.rewrite = false) : s.flushUnit = some .clean := by
  have hdue : s.cleanDue = true := by simp [State.cleanDue, hp, hq, hl, hc]
  rw [State.flushUnit, hr, if_neg Bool.false_ne_true, if_pos hdue]

theorem exec_cleanHeaderWrite (hg : s.grants .flush = true) (hu : s.flushUnit = some .clean) :
    exec .cleanHeaderWrite s = .next (s.granted .flush).cleanHeader := by
  obtain ⟨hphase, hset, hk⟩ := (State.grants_iff s _).mp hg
  have hrun : s.filing.running = true := by rw [Filing.running, hphase]; rfl
  show execCleanHeaderWrite s = _
  unfold execCleanHeaderWrite
  rw [State.settle_of_settled s hset]
  dsimp only
  rw [hrun, hk, hu]
  rfl

/-- A flush of the layout header leaves the clean flag and the saved clock. -/
theorem State.flushRecord_layoutHeader_mirror (s : State) :
    (s.flushRecord .layoutHeader).filing.mirror.clean = s.filing.mirror.clean ∧
      (s.flushRecord .layoutHeader).filing.mirror.saved = s.filing.mirror.saved := by
  unfold State.flushRecord State.recordWritten
  dsimp only
  set u : State := State.wakeRead .layoutHeader
    { s.writeRecord .layoutHeader with filing := (s.writeRecord .layoutHeader).filing.unmark .layoutHeader } with hu
  have hfiling : u.filing = s.filing.unmark .layoutHeader := State.wakeRead_filing ..
  rcases u.wakeScrub_cases with e | ⟨x, e⟩ <;> rw [e] <;> simp only [hfiling] <;> exact ⟨rfl, rfl⟩

theorem State.flushRecord_layoutHeader_store (s : State) : (s.flushRecord .layoutHeader).store =
    s.store.writeSegments [(0, s.filing.headerWords)] := by
  rw [State.flushRecord, State.recordWritten_store]
  rfl

end

end Sys2Proof.Machine

open Sys2Proof Sys2Proof.Machine

/-- Settles O55, clause by clause from the rules above. -/
theorem powerWarning : Obligations.PowerWarning := by
  refine ⟨fun s hc hp => ⟨fun n l hs => ?_, fun hs => ?_, fun h hs => ?_⟩, fun s n l hc hp hs => ?_,
    fun s hc hp hs hn => ?_, fun s n rest hc hp hs hn => ?_, fun s t i _ hclean hi h hd => ?_,
    fun s hg hp hq hl hc hr => ?_⟩
  · rw [exec_pwarnAssert hc hp, hs, ScrubUnit.pause]
  · have hpause : s.filing.scrubber.pause = .paused none := by
      rcases hs with hs | ⟨n, hs⟩ <;> rw [hs] <;> rfl
    rw [exec_pwarnAssert hc hp, hpause]
  · rw [exec_pwarnAssert hc hp, hs, ScrubUnit.pause]
  · rw [exec_pwarnWithdraw hc hp, State.resumeScrub_of_kept (s := s.unwarned) hs]
    rfl
  · rw [exec_pwarnWithdraw hc hp, State.resumeScrub_of_none (s := s.unwarned) hs,
      State.beginScrub_of_nil (s := s.unwarned) hn]
    rfl
  · rw [exec_pwarnWithdraw hc hp, State.resumeScrub_of_none (s := s.unwarned) hs,
      State.beginScrub_of_cons (s := s.unwarned) hn, State.unwarned_scrubStart]
    rfl
  · obtain ⟨r, hr, hr0⟩ := hd
    have hmirror : t.filing.mirror.clean = false ∧ t.filing.mirror.rewrite = true := by
      rcases exec_tickEvent_acts hi h with a | e
      · exact a.mirror.of_dirty hr hr0 hclean
      · rw [e]
        exact ⟨rfl, by simp [Filing.saveClock, Filing.mark, hclean]⟩
    exact ⟨hmirror.1, hmirror.2, by rw [State.flushUnit, if_pos hmirror.2]⟩
  · refine ⟨_, exec_cleanHeaderWrite hg (State.flushUnit_clean hp hq hl hc hr), ?_⟩
    rw [State.cleanHeader, State.flushRecord_layoutHeader_store]
    refine ⟨Memory.readWords_write _ 0 _, fun a ha => ?_, State.flushRecord_layoutHeader_mirror _⟩
    refine Store.writeSegments_read_out _ _ _ fun seg hseg => .inr ?_
    rw [List.mem_singleton.mp hseg, wordsBytes_length]
    exact ha

end

section
/-! PROOFS. The close of a page: its blocks filed and trimmed, usage and block total, the record, PAGE_CLOSED (R25, R26, R48). -/

namespace Sys2Proof.Machine

/-! ## Sorting by a key -/

section
variable {α : Type} (key : α → Nat)

theorem insertBy_perm (x : α) (xs : List α) : (insertBy key x xs).Perm (x :: xs) := by
  induction xs with
  | nil => exact .refl _
  | cons y ys ih =>
    rw [insertBy]
    split_ifs
    · exact (ih.cons y).trans (.swap x y ys)
    · exact .refl _

theorem insertBy_pairwise (x : α) {xs : List α} (h : xs.Pairwise fun a b => key a ≤ key b) :
    (insertBy key x xs).Pairwise fun a b => key a ≤ key b := by
  induction xs with
  | nil => exact List.pairwise_singleton ..
  | cons y ys ih =>
    obtain ⟨hy, hys⟩ := List.pairwise_cons.mp h
    rw [insertBy]
    split_ifs with hk
    · refine List.pairwise_cons.mpr ⟨fun z hz => ?_, ih hys⟩
      rcases List.mem_cons.mp ((insertBy_perm key x ys).subset hz) with rfl | hz
      · exact hk
      · exact hy z hz
    · have hxy : key x ≤ key y := by omega
      exact List.pairwise_cons.mpr ⟨fun z hz => (List.mem_cons.mp hz).elim (fun e => e ▸ hxy)
        fun hz => hxy.trans (hy z hz), h⟩

theorem sortBy_perm (xs : List α) : (sortBy key xs).Perm xs := by
  have h (acc : List α) : (xs.foldl (fun acc x => insertBy key x acc) acc).Perm (acc ++ xs) := by
    induction xs generalizing acc with
    | nil => rw [List.append_nil]; exact .refl _
    | cons x xs ih => exact (ih _).trans (((insertBy_perm key x acc).append_right xs).trans List.perm_middle.symm)
  exact h []

theorem sortBy_pairwise (xs : List α) : (sortBy key xs).Pairwise fun a b => key a ≤ key b := by
  have h (acc : List α) (ha : acc.Pairwise fun a b => key a ≤ key b) :
      (xs.foldl (fun acc x => insertBy key x acc) acc).Pairwise fun a b => key a ≤ key b := by
    induction xs generalizing acc with
    | nil => exact ha
    | cons x xs ih => exact ih _ (insertBy_pairwise key x ha)
  exact h [] List.Pairwise.nil

/-- Where no two elements share a key, the order is strict, of every part that a test keeps. -/
theorem sortBy_filter_strict {xs : List α} (h : (xs.map key).Nodup) (test : α → Bool) :
    ((sortBy key xs).filter test).Pairwise fun a b => key a < key b := by
  have hne : (sortBy key xs).Pairwise fun a b => key a ≠ key b :=
    List.pairwise_map.mp (((sortBy_perm key xs).map key).nodup_iff.mpr h)
  exact (((sortBy_pairwise key xs).and hne).imp fun h => Nat.lt_of_le_of_ne h.1 h.2).filter _

end

/-! ## Marks of a loop -/

section
variable {f g : Filing}

/-- What one step of a loop marks is dirty at its end. -/
theorem Filing.foldl_dirty {α : Type} {op : Filing → α → Filing} {l : List α} {i : α} {r : RecordId} (hi : i ∈ l)
    (hstep : ∀ (x : Filing) j, x.acts (fun _ => False) (op x j)) (hmark : ∀ x, (op x i).dirty r = true) :
    (l.foldl op f).dirty r = true := by
  obtain ⟨l1, l2, rfl⟩ := List.append_of_mem hi
  rw [List.foldl_append, List.foldl_cons]
  exact (Filing.acts.foldl .refl op l2 fun x j hx => hx.trans (hstep x j)).dirty (hmark _)

/-! ## Blocks scrubbed and filed -/

theorem Filing.scrubAll_entries (ns : List Nat) (f : Filing) : (f.scrubAll ns).blocks =
    { entries := (ns.foldl (fun f n => (f.setBlock n BlockEntry.scrubbed).mark (.block n)) f).blocks.entries
      free := f.blocks.free, scrub := f.blocks.scrub ++ ns } := by
  have hfree : (ns.foldl (fun f n => (f.setBlock n BlockEntry.scrubbed).mark (.block n)) f).blocks.free = f.blocks.free :=
    foldl_keeps (fun f : Filing => f.blocks.free) _ _ _ fun _ _ => rfl
  have hscrub : (ns.foldl (fun f n => (f.setBlock n BlockEntry.scrubbed).mark (.block n)) f).blocks.scrub = f.blocks.scrub :=
    foldl_keeps (fun f : Filing => f.blocks.scrub) _ _ _ fun _ _ => rfl
  rw [← hfree, ← hscrub]
  unfold Filing.scrubAll
  dsimp only
  split_ifs <;> rfl

theorem Filing.scrubAll_free (ns : List Nat) (f : Filing) : (f.scrubAll ns).blocks.free = f.blocks.free := by
  rw [Filing.scrubAll_entries]

theorem Filing.scrubAll_scrub (ns : List Nat) (f : Filing) : (f.scrubAll ns).blocks.scrub = f.blocks.scrub ++ ns := by
  rw [Filing.scrubAll_entries]

theorem Filing.scrubAll_block (ns : List Nat) (f : Filing) (n : Nat) :
    (f.scrubAll ns).block n = if n ∈ ns then BlockEntry.scrubbed else f.block n := by
  have hfold : (ns.foldl (fun f n => (f.setBlock n BlockEntry.scrubbed).mark (.block n)) f).block n =
      if n ∈ ns then BlockEntry.scrubbed else f.block n := by
    induction ns generalizing f with
    | nil => rfl
    | cons m ns ih =>
      rw [List.foldl_cons, ih, Filing.mark_block]
      by_cases h : n = m
      · subst h; simp
      · simp [Filing.block_setBlock_ne _ _ h, h]
  rw [← hfold, Filing.block, Filing.scrubAll_entries]
  rfl

theorem Filing.scrubAll_dirty {ns : List Nat} {n : Nat} (h : n ∈ ns) : (f.scrubAll ns).dirty (.block n) = true := by
  have hfold : (ns.foldl (fun f n => (f.setBlock n BlockEntry.scrubbed).mark (.block n)) f).dirty (.block n) = true :=
    Filing.foldl_dirty h (fun _ _ => (Filing.acts.setBlock .refl _ _).mark _) fun _ => Filing.mark_dirty ..
  unfold Filing.scrubAll
  dsimp only
  split_ifs
  · exact hfold
  · exact Filing.mark_dirty_of_dirty hfold

theorem Filing.fileAll_free (ns : List Nat) (f : Filing) : (Filing.fileAll ns f).blocks.free = f.blocks.free := by
  induction ns generalizing f with
  | nil => rfl
  | cons n ns ih => exact ih _

theorem Filing.fileAll_scrub (ns : List Nat) (f : Filing) : (Filing.fileAll ns f).blocks.scrub = f.blocks.scrub := by
  induction ns generalizing f with
  | nil => rfl
  | cons n ns ih => exact ih _

theorem Filing.fileAll_block_of_not_mem {ns : List Nat} {n : Nat} (h : n ∉ ns) (f : Filing) :
    (Filing.fileAll ns f).block n = f.block n := by
  induction ns generalizing f with
  | nil => rfl
  | cons m ns ih =>
    obtain ⟨hm, hns⟩ := not_or.mp (mt List.mem_cons.mpr h)
    rw [Filing.fileAll, ih hns, Filing.mark_block, Filing.block_setBlock_ne _ _ hm]

theorem Filing.fileAll_index (ns : List Nat) (f : Filing) (n : Nat) :
    ((Filing.fileAll ns f).block n).index = (f.block n).index := by
  induction ns generalizing f with
  | nil => rfl
  | cons m ns ih =>
    rw [Filing.fileAll, ih, Filing.mark_block]
    by_cases h : n = m
    · subst h; rw [Filing.block_setBlock]
    · rw [Filing.block_setBlock_ne _ _ h]

theorem Filing.fileAll_state {ns : List Nat} {n : Nat} (h : n ∈ ns) (f : Filing) :
    ((Filing.fileAll ns f).block n).state = .filed := by
  induction ns generalizing f with
  | nil => cases h
  | cons m ns ih =>
    rw [Filing.fileAll]
    by_cases hn : n ∈ ns
    · exact ih hn _
    · obtain rfl : n = m := (List.mem_cons.mp h).resolve_right hn
      rw [Filing.fileAll_block_of_not_mem hn, Filing.mark_block, Filing.block_setBlock]

theorem Filing.fileAll_dirty {ns : List Nat} {n : Nat} (h : n ∈ ns) (f : Filing) :
    (Filing.fileAll ns f).dirty (.block n) = true := by
  induction ns generalizing f with
  | nil => cases h
  | cons m ns ih =>
    rw [Filing.fileAll]
    by_cases hn : n ∈ ns
    · exact ih hn _
    · obtain rfl : n = m := (List.mem_cons.mp h).resolve_right hn
      exact (Filing.acts.fileAll (K := fun _ => False) .refl ns).dirty (Filing.mark_dirty ..)

/-- The blocks filed make one chain, in the order given (R25). -/
theorem Filing.fileAll_chain {ns : List Nat} (h : ns.Nodup) (f : Filing) :
    followBlocks (Filing.fileAll ns f).blocks.entries ns.length ns.head? = ns := by
  induction ns generalizing f with
  | nil => rfl
  | cons n ns ih =>
    obtain ⟨hn, hns⟩ := List.nodup_cons.mp h
    have hnext : ((Filing.fileAll (n :: ns) f).block n).next = ns.head? := by
      rw [Filing.fileAll, Filing.fileAll_block_of_not_mem hn, Filing.mark_block, Filing.block_setBlock]
    rw [List.head?_cons, List.length_cons, followBlocks]
    exact congrArg (n :: ·) ((congrArg (followBlocks _ _) hnext).trans (ih hns _))

/-! ## Usage -/

/-- The OVER evaluation leaves every usage (R67). -/
theorem Filing.evalOver_usage (m x : Nat) : ((f.evalOver m).mailbox x).usage = (f.mailbox x).usage := by
  have hset (b : Bool) : ((f.setBox m { f.mailbox m with overQuota := b }).mailbox x).usage = (f.mailbox x).usage := by
    by_cases h : x = m
    · subst h; rw [Filing.mailbox_setBox]
    · rw [Filing.mailbox_setBox_ne _ _ h]
  unfold Filing.evalOver
  dsimp only
  split_ifs
  · rfl
  · rw [Filing.latch_mailbox, Filing.raise_mailbox, hset]
  · exact hset false
  · rfl

theorem Filing.evalOver_mailbox_ne {m x : Nat} (h : x ≠ m) : (f.evalOver m).mailbox x = f.mailbox x := by
  unfold Filing.evalOver
  dsimp only
  split_ifs
  · rfl
  · rw [Filing.latch_mailbox, Filing.raise_mailbox, Filing.mailbox_setBox_ne _ _ h]
  · exact Filing.mailbox_setBox_ne _ _ h
  · rfl

theorem Filing.setUsage_usage (m u : Nat) : ((f.setUsage m u).mailbox m).usage = u := by
  rw [Filing.setUsage, Filing.evalOver_usage, Filing.mark_mailbox, Filing.mailbox_setBox]

theorem Filing.returnUsage_usage (m n : Nat) : ((f.returnUsage m n).mailbox m).usage = (f.mailbox m).usage - n := by
  unfold Filing.returnUsage
  split_ifs with h
  · rw [h, Nat.sub_zero]
  · exact Filing.setUsage_usage ..

theorem Filing.returnUsage_mailbox_ne {m x : Nat} (h : x ≠ m) (n : Nat) :
    (f.returnUsage m n).mailbox x = f.mailbox x := by
  unfold Filing.returnUsage Filing.setUsage
  split_ifs
  · rfl
  · rw [Filing.evalOver_mailbox_ne h, Filing.mark_mailbox, Filing.mailbox_setBox_ne _ _ h]

/-! ## The record -/

/-- The blocks of page p that a close at length l files, in the order of their indices. -/
def Filing.keptBlocks (p l : Nat) (f : Filing) : List Nat :=
  (sortBy (fun n => (f.block n).index) (f.pageChain p)).filter fun n => decide ((f.block n).index < keepCount l)

/-- The blocks of page p that a close at length l trims, in the order of their indices. -/
def Filing.trimmedBlocks (p l : Nat) (f : Filing) : List Nat :=
  (sortBy (fun n => (f.block n).index) (f.pageChain p)).filter fun n => decide (keepCount l ≤ (f.block n).index)

theorem Filing.keptBlocks_perm (p l : Nat) (f : Filing) : (f.keptBlocks p l).Perm
    ((f.pageChain p).filter fun n => decide ((f.block n).index < keepCount l)) := (sortBy_perm _ _).filter _

theorem Filing.trimmedBlocks_perm (p l : Nat) (f : Filing) : (f.trimmedBlocks p l).Perm
    ((f.pageChain p).filter fun n => decide (keepCount l ≤ (f.block n).index)) := (sortBy_perm _ _).filter _

theorem Filing.mem_keptBlocks {p l n : Nat} :
    n ∈ f.keptBlocks p l ↔ n ∈ f.pageChain p ∧ (f.block n).index < keepCount l := by
  rw [(f.keptBlocks_perm p l).mem_iff, List.mem_filter, decide_eq_true_eq]

theorem Filing.mem_trimmedBlocks {p l n : Nat} :
    n ∈ f.trimmedBlocks p l ↔ n ∈ f.pageChain p ∧ keepCount l ≤ (f.block n).index := by
  rw [(f.trimmedBlocks_perm p l).mem_iff, List.mem_filter, decide_eq_true_eq]

section
variable {s p l n : Nat} {x y : Bool}

theorem Filing.completePage_blocks : (f.completePage s p l x y n).blocks =
    (Filing.fileAll (f.keptBlocks p l) (f.scrubAll (f.trimmedBlocks p l))).blocks := by
  simp [Filing.completePage, Filing.keptBlocks, Filing.trimmedBlocks]

theorem Filing.completePage_block (b : Nat) : (f.completePage s p l x y n).block b =
    (Filing.fileAll (f.keptBlocks p l) (f.scrubAll (f.trimmedBlocks p l))).block b := by
  rw [Filing.block, Filing.completePage_blocks, Filing.block]

theorem Filing.completePage_page : (f.completePage s p l x y n).page p =
    { f.page p with state := .closed, length := l, first := (f.keptBlocks p l).head?
                    count := (f.keptBlocks p l).length, holes := n, truncated := (f.page p).truncated || x
                    estimated := (f.page p).estimated || y, closed := some f.now } := by
  simp [Filing.completePage, Filing.keptBlocks]

theorem Filing.completePage_blockTotal : ((f.completePage s p l x y n).doc s).blockTotal =
    (f.doc s).blockTotal - (f.trimmedBlocks p l).length := by
  simp [Filing.completePage, Filing.trimmedBlocks]

theorem Filing.completePage_doc_ne {j : Nat} (h : j ≠ s) : (f.completePage s p l x y n).doc j = f.doc j := by
  simp [Filing.completePage, Filing.doc_setDoc_ne _ _ h]

theorem Filing.completePage_mailbox (m : Nat) : (f.completePage s p l x y n).mailbox m =
    ((Filing.fileAll (f.keptBlocks p l) (f.scrubAll (f.trimmedBlocks p l))).returnUsage (f.doc s).mailbox
      (f.trimmedBlocks p l).length).mailbox m := by
  simp [Filing.completePage, Filing.keptBlocks, Filing.trimmedBlocks]

theorem Filing.completePage_dirty {b : Nat} (h : b ∈ f.pageChain p) :
    (f.completePage s p l x y n).dirty (.block b) = true := by
  have hfiled : (Filing.fileAll (f.keptBlocks p l) (f.scrubAll (f.trimmedBlocks p l))).dirty (.block b) = true := by
    by_cases hk : (f.block b).index < keepCount l
    · exact Filing.fileAll_dirty (Filing.mem_keptBlocks.mpr ⟨h, hk⟩) _
    · exact (Filing.acts.fileAll (K := fun _ => False) .refl _).dirty
        (Filing.scrubAll_dirty (Filing.mem_trimmedBlocks.mpr ⟨h, Nat.not_lt.mp hk⟩))
  have hrest : (Filing.fileAll (f.keptBlocks p l) (f.scrubAll (f.trimmedBlocks p l))).acts (fun _ => True)
      (f.completePage s p l x y n) :=
    ((((Filing.acts.returnUsage .refl (fun _ _ => trivial) _ _).setPage _ _).setDoc _ _).mark _).mark _
  exact hrest.dirty hfiled

theorem Filing.completePage_dirty_page : (f.completePage s p l x y n).dirty (.page p) = true :=
  Filing.mark_dirty_of_dirty (Filing.mark_dirty ..)

theorem Filing.completePage_chain (h : (f.pageChain p).Nodup) :
    (f.completePage s p l x y n).pageChain p = f.keptBlocks p l := by
  have hnodup : (f.keptBlocks p l).Nodup := (f.keptBlocks_perm p l).nodup_iff.mpr (h.filter _)
  rw [Filing.pageChain, Filing.completePage_page, Filing.completePage_blocks]
  exact Filing.fileAll_chain hnodup _

end

/-! ## The page closed -/

/-- The flag bits of an entry, one field or four. -/
theorem Page.flagBits_packed (g : Page) : packWord [(0, 8, g.holes), (8, 4, g.flagBits)] =
    packWord [(0, 8, g.holes), (8, 1, flag g.truncated), (9, 1, flag g.estimated), (10, 1, flag g.short),
              (11, 1, flag g.parity)] := by
  have h : g.flagBits % 2 ^ 4 * 2 ^ 8 = flag g.truncated % 2 ^ 1 * 2 ^ 8 + (flag g.estimated % 2 ^ 1 * 2 ^ 9 +
      (flag g.short % 2 ^ 1 * 2 ^ 10 + flag g.parity % 2 ^ 1 * 2 ^ 11)) := by
    unfold Page.flagBits
    cases g.truncated <;> cases g.estimated <;> cases g.short <;> cases g.parity <;> decide
  simp only [packWord, List.map_cons, List.map_nil, List.sum_cons, List.sum_nil, h, Nat.add_zero]

/-- The report of a page closed: the channel's page state cleared, PAGE_CLOSED (R48, steps 5 and 6). -/
def Filing.reportClosed (c k p : Nat) (ch : Channel) (g : Filing) : Filing :=
  ((g.setChan c { ch with map := [], mark := none, openPage := none }).mark (.channel c)).raisePageClosed c k p

theorem Filing.closeOpenPage_of_open {c p d : Nat} (l : Nat) (x y : Bool) (hd : (f.chan c).doc = some d)
    (hp : (f.chan c).openPage = some p) : f.closeOpenPage c l x y =
      (f.completePage (slotOf d) p l x y (mapHoles (f.chan c).map (keepCount l))).reportClosed c (slotOf d) p
        (f.chan c) := by
  unfold Filing.closeOpenPage
  simp only [hd, hp, Filing.reportClosed]

section
variable (c k p : Nat) (ch : Channel)

theorem Filing.reportClosed_blocks : (g.reportClosed c k p ch).blocks = g.blocks := by
  simp [Filing.reportClosed, Filing.raisePageClosed]
theorem Filing.reportClosed_block (n : Nat) : (g.reportClosed c k p ch).block n = g.block n := by
  simp [Filing.reportClosed, Filing.raisePageClosed]
theorem Filing.reportClosed_page (q : Nat) : (g.reportClosed c k p ch).page q = g.page q := by
  simp [Filing.reportClosed, Filing.raisePageClosed]
theorem Filing.reportClosed_doc (j : Nat) : (g.reportClosed c k p ch).doc j = g.doc j := by
  simp [Filing.reportClosed, Filing.raisePageClosed]
theorem Filing.reportClosed_mailbox (m : Nat) : (g.reportClosed c k p ch).mailbox m = g.mailbox m := by
  simp [Filing.reportClosed, Filing.raisePageClosed]

theorem Filing.reportClosed_acts : g.acts (fun k => k.kind = .pageClosed) (g.reportClosed c k p ch) :=
  Filing.acts.raise ((Filing.acts.setChan .refl _ _).mark _) (by rfl) _ _

theorem Filing.reportClosed_tells {K : NoticeKey → Prop} (a : f.acts K g) :
    f.tells (g.reportClosed c k p ch) .pageClosed (some (g.docId k)) (.channel c) 0
      [argNat (g.docId k), packWord [(0, 8, c), (16, 16, (g.page p).seq)], argNat (g.page p).length,
       packWord [(0, 8, (g.page p).holes), (8, 1, flag (g.page p).truncated), (9, 1, flag (g.page p).estimated),
                 (10, 1, flag (g.page p).short), (11, 1, flag (g.page p).parity)]] := by
  rw [← Page.flagBits_packed]
  exact Filing.acts.tells_raise ((a.setChan c _).mark _)

end

theorem mapHoles_eq (map : Tbl Nat) (k : Nat) :
    mapHoles map k = ((List.range k).filter fun j => (Tbl.find map j).isNone).length := by
  simp only [mapHoles, numbers, Nat.zero_add, List.map_id']

/-- The blocks of a page completed: those below the keep count FILED, the others scrubbed (R25, R26). -/
theorem Filing.completePage_block_kept {s p l n b : Nat} {x y : Bool} (h : b ∈ f.keptBlocks p l) :
    ((f.completePage s p l x y n).block b).state = .filed ∧
      ((f.completePage s p l x y n).block b).index = (f.block b).index := by
  have hno : b ∉ f.trimmedBlocks p l := fun ht =>
    absurd (Filing.mem_trimmedBlocks.mp ht).2 (Nat.not_le.mpr (Filing.mem_keptBlocks.mp h).2)
  rw [Filing.completePage_block]
  exact ⟨Filing.fileAll_state h _, by rw [Filing.fileAll_index, Filing.scrubAll_block, if_neg hno]⟩

theorem Filing.completePage_block_trimmed {s p l n b : Nat} {x y : Bool} (h : b ∈ f.trimmedBlocks p l) :
    (f.completePage s p l x y n).block b = BlockEntry.scrubbed := by
  have hno : b ∉ f.keptBlocks p l := fun hk =>
    absurd (Filing.mem_trimmedBlocks.mp h).2 (Nat.not_le.mpr (Filing.mem_keptBlocks.mp hk).2)
  rw [Filing.completePage_block, Filing.fileAll_block_of_not_mem hno, Filing.scrubAll_block, if_pos h]

theorem Filing.completePage_block_other {s p l n b : Nat} {x y : Bool} (h : b ∉ f.pageChain p) :
    (f.completePage s p l x y n).block b = f.block b := by
  rw [Filing.completePage_block, Filing.fileAll_block_of_not_mem fun hk => h (Filing.mem_keptBlocks.mp hk).1,
    Filing.scrubAll_block, if_neg fun ht => h (Filing.mem_trimmedBlocks.mp ht).1]

theorem Filing.pageChain_congr {p : Nat} (hb : g.blocks = f.blocks) (hp : g.page p = f.page p) :
    g.pageChain p = f.pageChain p := by
  rw [Filing.pageChain, hb, hp, Filing.pageChain]

/-- The channel's open page closes (R48). -/
theorem Filing.closeOpenPage_pageClosed {c p d : Nat} (l : Nat) (x y : Bool) (hd : (f.chan c).doc = some d)
    (hp : (f.chan c).openPage = some p) : f.pageClosed (f.closeOpenPage c l x y) c p (slotOf d) l x y := by
  rw [f.closeOpenPage_of_open l x y hd hp]
  generalize slotOf d = k
  have hholes := mapHoles_eq (f.chan c).map (keepCount l)
  generalize mapHoles (f.chan c).map (keepCount l) = n at hholes ⊢
  have hpage : (f.completePage k p l x y n).page p = _ := Filing.completePage_page
  have hkept := f.keptBlocks_perm p l
  have htrim := f.trimmedBlocks_perm p l
  have hacts : f.acts (fun _ => True) (f.completePage k p l x y n) :=
    .completePage .refl (fun _ _ => trivial) _ _ _ _ _ _
  have htold := Filing.reportClosed_tells c k p (f.chan c) hacts
  have hlater := (f.completePage k p l x y n).reportClosed_acts c k p (f.chan c)
  have hid : (f.completePage k p l x y n).docId k = f.docId k := by
    rw [Filing.docId, Filing.completePage_doc x y, Filing.docId]
  refine ⟨?_, fun b hb => ?_, fun b hb => ?_, fun b hb => ?_, ?_, fun b hb => ?_, ?_, fun hn => ?_, fun _ => ⟨?_, ?_⟩, ?_⟩
  · rw [Filing.reportClosed_page, hpage, hholes, hkept.length_eq]
    rfl
  · rw [Filing.reportClosed_block]
    exact Filing.completePage_block_kept (hkept.mem_iff.mpr hb)
  · rw [Filing.reportClosed_block]
    exact Filing.completePage_block_trimmed (htrim.mem_iff.mpr hb)
  · rw [Filing.reportClosed_block]
    exact Filing.completePage_block_other hb
  · rw [Filing.reportClosed_blocks, Filing.completePage_blocks, Filing.fileAll_free, Filing.scrubAll_free]
  · exact hlater.dirty (Filing.completePage_dirty hb)
  · exact hlater.dirty Filing.completePage_dirty_page
  · rw [Filing.pageChain_congr (Filing.reportClosed_blocks ..) (Filing.reportClosed_page ..),
      Filing.completePage_chain (List.Nodup.of_map _ hn), Filing.reportClosed_blocks, Filing.completePage_blocks,
      Filing.fileAll_scrub, Filing.scrubAll_scrub]
    exact ⟨hkept, sortBy_filter_strict _ hn _, _, htrim, sortBy_filter_strict _ hn _, rfl⟩
  · rw [Filing.reportClosed_mailbox, Filing.completePage_mailbox, Filing.returnUsage_usage, Filing.fileAll_mailbox,
      Filing.scrubAll_mailbox, htrim.length_eq]
    rfl
  · rw [Filing.reportClosed_doc, Filing.completePage_blockTotal, htrim.length_eq]
    rfl
  · have hseq : ((f.completePage k p l x y n).page p).seq = (f.page p).seq := by rw [hpage]
    have hlen : ((f.completePage k p l x y n).page p).length = l := by rw [hpage]
    rw [Filing.reportClosed_page]
    rwa [hid, hseq, hlen] at htold

/-- A page closed stays closed while its record, its blocks, usage and block total stand and PAGE_CLOSED is not raised. -/
theorem Filing.pageClosed.later {K : NoticeKey → Prop} {h : Filing} {c p k l : Nat} {x y : Bool}
    (hc : f.pageClosed g c p k l x y) (a : g.acts K h) (hK : ∀ d, ¬ K { kind := .pageClosed, doc := d, item := .channel c })
    (hpage : h.page p = g.page p) (hblocks : h.blocks = g.blocks)
    (hdoc : (f.doc k).pageCount ≠ 0 → (h.mailbox (f.doc k).mailbox).usage = (g.mailbox (f.doc k).mailbox).usage ∧
      (h.doc k).blockTotal = (g.doc k).blockTotal) : f.pageClosed h c p k l x y := by
  have hblock (n : Nat) : h.block n = g.block n := by rw [Filing.block, hblocks, Filing.block]
  obtain ⟨h1, h2, h3, h4, h5, h6, h7, h8, h9, h10⟩ := hc
  refine ⟨?_, fun n hn => ?_, fun n hn => ?_, fun n hn => ?_, ?_, fun n hn => a.dirty (h6 n hn), a.dirty h7,
    fun hn => ?_, fun hz => ?_, ?_⟩
  · rw [hpage]; exact h1
  · rw [hblock]; exact h2 n hn
  · rw [hblock]; exact h3 n hn
  · rw [hblock]; exact h4 n hn
  · rw [hblocks]; exact h5
  · rw [Filing.pageChain_congr hblocks hpage, hblocks]; exact h8 hn
  · rw [(hdoc hz).1, (hdoc hz).2]; exact h9 hz
  · rw [hpage]; exact h10.later a (hK _)

end

end Sys2Proof.Machine

end

section
/-! PROOFS. The release of a document (R87, R99): its blocks scrubbed, its page records freed, usage and deadlines, RELEASED. -/

namespace Sys2Proof.Machine

section
variable {f g : Filing}

theorem Filing.freePages_page (k : Nat) (ps : List Nat) (f : Filing) (p : Nat) :
    (f.freePages k ps).page p = if p ∈ ps then Page.freed else f.page p := by
  have hfold : (ps.foldl (fun f p => (f.setPage p Page.freed).mark (.page p)) f).page p =
      if p ∈ ps then Page.freed else f.page p := by
    induction ps generalizing f with
    | nil => rfl
    | cons q ps ih =>
      rw [List.foldl_cons, ih, Filing.mark_page]
      by_cases h : p = q
      · subst h; simp
      · simp [Filing.page_setPage_ne _ _ h, h]
  exact hfold

theorem Filing.freePages_doc (k : Nat) (ps : List Nat) (f : Filing) (j : Nat) : (f.freePages k ps).doc j = f.doc j := by
  have hfold : (ps.foldl (fun f p => (f.setPage p Page.freed).mark (.page p)) f).doc j = f.doc j :=
    foldl_keeps (fun f : Filing => f.doc j) _ _ _ fun _ _ => by simp
  exact hfold

theorem Filing.freePages_free (k : Nat) (ps : List Nat) (f : Filing) :
    (f.freePages k ps).dir.freePages = f.dir.freePages ++ ps := by
  have hfold : (ps.foldl (fun f p => (f.setPage p Page.freed).mark (.page p)) f).dir.freePages = f.dir.freePages :=
    foldl_keeps (fun f : Filing => f.dir.freePages) _ _ _ fun _ _ => rfl
  exact congrArg (· ++ ps) hfold

theorem Filing.freePages_withheld (k : Nat) (ps : List Nat) (f : Filing) :
    (f.freePages k ps).dir.withheld = f.dir.withheld ++ ps.map (fun p => (k, p)) := by
  have hfold : (ps.foldl (fun f p => (f.setPage p Page.freed).mark (.page p)) f).dir.withheld = f.dir.withheld :=
    foldl_keeps (fun f : Filing => f.dir.withheld) _ _ _ fun _ _ => rfl
  exact congrArg (· ++ ps.map (fun p => (k, p))) hfold

theorem Filing.freePages_dirty {ps : List Nat} {p : Nat} (h : p ∈ ps) (k : Nat) (f : Filing) :
    (f.freePages k ps).dirty (.page p) = true := by
  have hfold : (ps.foldl (fun f p => (f.setPage p Page.freed).mark (.page p)) f).dirty (.page p) = true :=
    Filing.foldl_dirty h (fun _ _ => (Filing.acts.setPage .refl _ _).mark _) fun _ => Filing.mark_dirty ..
  exact hfold

/-- The blocks of a document, pages and blocks in order (R27, R99). -/
def Filing.docBlocks (k : Nat) (f : Filing) : List Nat := (f.docPages k).flatMap fun p => f.pageChain p

/-! ## The quiet release -/

section
variable (k : Nat) (f : Filing)

/-- The release up to its page records. -/
def Filing.emptied : Filing :=
  (((f.scrubAll (f.docBlocks k)).returnUsage (f.doc k).mailbox (f.doc k).blockTotal).mark
    (.mailbox (f.doc k).mailbox)).freePages k (f.docPages k)

theorem Filing.releaseDoc_quiet_eq : f.releaseDoc true k =
    (((f.emptied k).removeDeadlines k (f.doc k).gen).setDoc k (Doc.freed (((f.doc k).gen + 1) % 64))).mark
      (.document k) := rfl

theorem Filing.releaseDoc_loud_eq : f.releaseDoc false k = (f.releaseDoc true k).raise .released (some (f.docId k)) .none 0
    [argNat (f.docId k), argNat (f.doc k).mailbox, argNat (f.doc k).pageCount, argNat (f.doc k).blockTotal] := rfl

theorem Filing.emptied_acts : (f.scrubAll (f.docBlocks k)).acts (fun _ => True) (f.emptied k) :=
  ((Filing.acts.returnUsage .refl (fun _ _ => trivial) _ _).mark _).freePages _ _

theorem Filing.releaseDoc_quiet_acts : (f.emptied k).acts (fun _ => False) (f.releaseDoc true k) :=
  ((Filing.acts.removeDeadlines .refl _ _).setDoc _ _).mark _

theorem Filing.releaseDoc_quiet_blocks : (f.releaseDoc true k).blocks = (f.scrubAll (f.docBlocks k)).blocks := by
  rw [Filing.releaseDoc_quiet_eq, Filing.emptied]
  simp [Filing.removeDeadlines, Filing.keepDeadlines]

theorem Filing.releaseDoc_quiet_block (n : Nat) :
    (f.releaseDoc true k).block n = if n ∈ f.docBlocks k then BlockEntry.scrubbed else f.block n := by
  rw [← Filing.scrubAll_block, Filing.block, Filing.releaseDoc_quiet_blocks, Filing.block]

theorem Filing.releaseDoc_quiet_page (p : Nat) :
    (f.releaseDoc true k).page p = if p ∈ f.docPages k then Page.freed else f.page p := by
  have h : (f.releaseDoc true k).page p = (f.emptied k).page p := rfl
  rw [h, Filing.emptied, Filing.freePages_page]
  simp

theorem Filing.releaseDoc_quiet_freePages :
    (f.releaseDoc true k).dir.freePages = f.dir.freePages ++ f.docPages k := by
  have h : (f.releaseDoc true k).dir.freePages = (f.emptied k).dir.freePages := rfl
  rw [h, Filing.emptied, Filing.freePages_free]
  simp

theorem Filing.releaseDoc_quiet_withheld :
    (f.releaseDoc true k).dir.withheld = f.dir.withheld ++ (f.docPages k).map (fun p => (k, p)) := by
  have h : (f.releaseDoc true k).dir.withheld = (f.emptied k).dir.withheld := rfl
  rw [h, Filing.emptied, Filing.freePages_withheld]
  simp

theorem Filing.releaseDoc_quiet_mailbox (m : Nat) : (f.releaseDoc true k).mailbox m =
    ((f.scrubAll (f.docBlocks k)).returnUsage (f.doc k).mailbox (f.doc k).blockTotal).mailbox m := by
  have h : (f.releaseDoc true k).mailbox m = (f.emptied k).mailbox m := rfl
  rw [h, Filing.emptied, Filing.freePages_mailbox]
  rfl

theorem Filing.releaseDoc_quiet_usage : ((f.releaseDoc true k).mailbox (f.doc k).mailbox).usage =
    (f.mailbox (f.doc k).mailbox).usage - (f.doc k).blockTotal := by
  rw [Filing.releaseDoc_quiet_mailbox, Filing.returnUsage_usage, Filing.scrubAll_mailbox]

theorem Filing.releaseDoc_quiet_mailbox_ne {m : Nat} (h : m ≠ (f.doc k).mailbox) :
    (f.releaseDoc true k).mailbox m = f.mailbox m := by
  rw [Filing.releaseDoc_quiet_mailbox, Filing.returnUsage_mailbox_ne h, Filing.scrubAll_mailbox]

theorem Filing.releaseDoc_quiet_deadlines : (f.releaseDoc true k).clock.deadlines =
    f.clock.deadlines.filter fun e => !(e.slot == k && e.gen == (f.doc k).gen) := by
  have h : (f.releaseDoc true k).clock.deadlines =
    (f.emptied k).clock.deadlines.filter fun e => !(e.slot == k && e.gen == (f.doc k).gen) := rfl
  rw [h, Filing.emptied]
  simp

theorem Filing.releaseDoc_quiet_doc_ne {j : Nat} (h : j ≠ k) : (f.releaseDoc true k).doc j = f.doc j := by
  rw [Filing.releaseDoc_quiet_eq, Filing.mark_doc, Filing.doc_setDoc_ne _ _ h]
  have h' : ((f.emptied k).removeDeadlines k (f.doc k).gen).doc j = (f.emptied k).doc j := rfl
  rw [h', Filing.emptied, Filing.freePages_doc]
  simp

theorem Filing.releaseDoc_quiet_dirty :
    (∀ n ∈ f.docBlocks k, (f.releaseDoc true k).dirty (.block n) = true) ∧
    (∀ p ∈ f.docPages k, (f.releaseDoc true k).dirty (.page p) = true) ∧
    (f.releaseDoc true k).dirty (.mailbox (f.doc k).mailbox) = true ∧ (f.releaseDoc true k).dirty (.document k) = true := by
  refine ⟨fun n hn => ?_, fun p hp => ?_, ?_, Filing.mark_dirty ..⟩
  · exact (f.releaseDoc_quiet_acts k).dirty ((f.emptied_acts k).dirty (Filing.scrubAll_dirty hn))
  · exact (f.releaseDoc_quiet_acts k).dirty (Filing.freePages_dirty hp _ _)
  · exact (f.releaseDoc_quiet_acts k).dirty ((Filing.acts.freePages (K := fun _ => False) .refl _ _).dirty
      (Filing.mark_dirty ..))

end

/-! ## RELEASED -/

/-- g holds the document of slot k, its pages and blocks, its mailbox and the deadlines as f does, but for its recipients and
what marks and notices have changed. -/
structure Filing.sameDoc (k : Nat) (f g : Filing) : Prop where
  acts : f.acts (fun _ => True) g
  doc : g.doc k = { f.doc k with recipients := (g.doc k).recipients }
  pages : g.dir.pages = f.dir.pages
  freePages : g.dir.freePages = f.dir.freePages
  withheld : g.dir.withheld = f.dir.withheld
  blocks : g.blocks = f.blocks
  boxes : g.boxes = f.boxes
  deadlines : g.clock.deadlines = f.clock.deadlines

section
variable {k : Nat} (a : f.sameDoc k g)
include a

theorem Filing.sameDoc.page (p : Nat) : g.page p = f.page p := by rw [Filing.page, a.pages, Filing.page]

theorem Filing.sameDoc.block (n : Nat) : g.block n = f.block n := by rw [Filing.block, a.blocks, Filing.block]

theorem Filing.sameDoc.mailbox (m : Nat) : g.mailbox m = f.mailbox m := by rw [Filing.mailbox, a.boxes, Filing.mailbox]

theorem Filing.sameDoc.docPages : g.docPages k = f.docPages k := by
  rw [Filing.docPages, a.pages, a.doc, Filing.docPages]

theorem Filing.sameDoc.docBlocks : g.docBlocks k = f.docBlocks k := by
  rw [Filing.docBlocks, a.docPages, Filing.docBlocks]
  exact List.flatMap_congr fun p _ => Filing.pageChain_congr a.blocks (a.page p)

theorem Filing.sameDoc.docId : g.docId k = f.docId k := by
  rw [Filing.docId, a.doc, Filing.docId]

/-- The document is released (R99). -/
theorem Filing.sameDoc.docReleased : f.docReleased (g.releaseDoc false k) k := by
  have hquiet : (g.releaseDoc true k).acts (fun _ => True) (g.releaseDoc false k) :=
    Filing.acts.raise .refl trivial _ _
  obtain ⟨hdb, hdp, hdm, hdd⟩ := g.releaseDoc_quiet_dirty k
  have hps := a.docPages
  have hns : g.docBlocks k = _ := a.docBlocks
  have hmail : (g.doc k).mailbox = (f.doc k).mailbox := by rw [a.doc]
  have hgen : (g.doc k).gen = (f.doc k).gen := by rw [a.doc]
  have htotal : (g.doc k).blockTotal = (f.doc k).blockTotal := by rw [a.doc]
  have hcount : (g.doc k).pageCount = (f.doc k).pageCount := by rw [a.doc]
  have htold := (a.acts.trans (Filing.acts.releaseQuiet .refl (fun _ _ => trivial) k)).tells_raise (kind := .released)
    (doc := some (g.docId k)) (item := .none) (code := 0)
    (args := [argNat (g.docId k), argNat (g.doc k).mailbox, argNat (g.doc k).pageCount, argNat (g.doc k).blockTotal])
  rw [← Filing.releaseDoc_loud_eq, a.docId, hmail, hcount, htotal] at htold
  rw [hmail] at hdm
  rw [hns] at hdb
  rw [hps] at hdp
  have hblocks := g.releaseDoc_quiet_blocks k
  rw [hns] at hblocks
  refine ⟨?_, hquiet.dirty hdd, ?_, ?_, fun n hn => ⟨?_, hquiet.dirty (hdb n hn)⟩, fun n hn => ?_,
    fun p hp => ⟨?_, hquiet.dirty (hdp p hp)⟩, fun p hp => ?_, ?_, ?_, ?_, hquiet.dirty hdm, fun m hm => ?_, ?_, htold⟩
  · rw [Filing.releaseDoc_doc, hgen]
  · rw [Filing.releaseDoc_loud_eq, Filing.raise_blocks, hblocks, Filing.scrubAll_scrub, a.blocks]
    rfl
  · rw [Filing.releaseDoc_loud_eq, Filing.raise_blocks, hblocks, Filing.scrubAll_free, a.blocks]
  · rw [Filing.releaseDoc_loud_eq, Filing.raise_block, Filing.releaseDoc_quiet_block, hns]
    exact if_pos hn
  · rw [Filing.releaseDoc_loud_eq, Filing.raise_block, Filing.releaseDoc_quiet_block, hns]
    exact (if_neg hn).trans (a.block n)
  · rw [Filing.releaseDoc_loud_eq, Filing.raise_page, Filing.releaseDoc_quiet_page, hps, if_pos hp]
  · rw [Filing.releaseDoc_loud_eq, Filing.raise_page, Filing.releaseDoc_quiet_page, hps, if_neg hp, a.page]
  · rw [Filing.releaseDoc_loud_eq, Filing.raise_dir, Filing.releaseDoc_quiet_freePages, a.freePages, hps]
  · rw [Filing.releaseDoc_loud_eq, Filing.raise_dir, Filing.releaseDoc_quiet_withheld, a.withheld, hps]
  · rw [Filing.releaseDoc_loud_eq, Filing.raise_mailbox, ← hmail, Filing.releaseDoc_quiet_usage, hmail, htotal,
      a.mailbox]
  · rw [Filing.releaseDoc_loud_eq, Filing.raise_mailbox, Filing.releaseDoc_quiet_mailbox_ne _ _ (by rw [hmail]; exact hm),
      a.mailbox]
  · rw [Filing.releaseDoc_loud_eq, Filing.raise_clock, Filing.releaseDoc_quiet_deadlines, a.deadlines, hgen]

end

end

end Sys2Proof.Machine

end

section
/-! PROOFS. The close of a document, by any closure (R91 to R93). -/

namespace Sys2Proof.Machine

section
variable {f g h : Filing} {k c : Nat}

theorem Filing.acts.raiseDocClosed_tells {K : NoticeKey → Prop} {base : Filing} {d : Doc} (a : base.acts K g)
    (hd : g.doc k = d) (c code : Nat) :
    base.tells (g.raiseDocClosed c k code) .docClosed (some (k * 64 + d.gen)) (.channel c) code
      [argNat (k * 64 + d.gen), packWord [(0, 8, c), (8, 8, d.mailbox), (16, 8, d.closure.code), (31, 1, flag d.damaged)],
       argNat d.pageCount, argNat d.blockTotal] := by
  subst hd
  exact a.tells_raise

/-! ## A document with no page (R91) -/

/-- The closing document, its closure and its closing time set. -/
def Filing.closing (k : Nat) (cl : Closure) (f : Filing) : Filing :=
  (f.setDoc k { f.doc k with closure := cl, closed := some f.now }).mark (.document k)

/-- The closing document with its live recipients cancelled, and reported EMPTY. -/
def Filing.closedEmpty (c k : Nat) (cl : Closure) (f : Filing) : Filing :=
  ((f.closing k cl).cancelLive k).raiseDocClosed c k 3

theorem Filing.closeDoc_of_no_pages (hz : (f.doc k).pageCount = 0) (cl : Closure) :
    f.closeDoc c k cl = (f.closedEmpty c k cl).releaseDoc true k := if_pos hz

theorem Filing.cancelLive_doc (f : Filing) (k : Nat) :
    (f.cancelLive k).doc k = { f.doc k with recipients := ((f.cancelLive k).doc k).recipients } := by
  have hfold (l : List Nat) (f : Filing) :
      (l.foldl (fun f i => f.setRecipient k i { (f.doc k).recipient i with state := .cancelled }) f).doc k =
        { f.doc k with recipients :=
          ((l.foldl (fun f i => f.setRecipient k i { (f.doc k).recipient i with state := .cancelled }) f).doc k).recipients } := by
    induction l generalizing f with
    | nil => rfl
    | cons i l ih =>
      rw [List.foldl_cons]
      refine (ih _).trans ?_
      rw [Filing.doc_setRecipient]
      rfl
  exact hfold _ f

theorem Filing.cancelLive_doc_ne {j : Nat} (hj : j ≠ k) (f : Filing) : (f.cancelLive k).doc j = f.doc j :=
  foldl_keeps (fun f : Filing => f.doc j) _ _ _ fun _ _ => Filing.doc_setRecipient_ne _ _ hj

theorem Filing.cancelLive_pages (f : Filing) (k : Nat) : (f.cancelLive k).dir.pages = f.dir.pages :=
  foldl_keeps (fun f : Filing => f.dir.pages) _ _ _ fun _ _ => rfl

theorem Filing.closedEmpty_doc (cl : Closure) : (f.closedEmpty c k cl).doc k =
    { f.doc k with closure := cl, closed := some f.now, recipients := ((f.closedEmpty c k cl).doc k).recipients } := by
  have h : (f.closedEmpty c k cl).doc k = ((f.closing k cl).cancelLive k).doc k := Filing.raise_doc ..
  rw [h, Filing.cancelLive_doc]
  simp [Filing.closing]

theorem Filing.closedEmpty_doc_ne {j : Nat} (hj : j ≠ k) (cl : Closure) : (f.closedEmpty c k cl).doc j = f.doc j := by
  have h : (f.closedEmpty c k cl).doc j = ((f.closing k cl).cancelLive k).doc j := Filing.raise_doc ..
  rw [h, Filing.cancelLive_doc_ne hj, Filing.closing, Filing.mark_doc, Filing.doc_setDoc_ne _ _ hj]

theorem Filing.closedEmpty_pages (cl : Closure) : (f.closedEmpty c k cl).dir.pages = f.dir.pages := by
  rw [Filing.closedEmpty, Filing.raiseDocClosed, Filing.raise_dir, Filing.cancelLive_pages]
  rfl

theorem Filing.closedEmpty_docPages (hz : (f.doc k).pageCount = 0) (cl : Closure) :
    (f.closedEmpty c k cl).docPages k = [] := by
  refine Filing.docPages_of_pageCount_zero ?_
  rw [Filing.closedEmpty_doc]
  exact hz

theorem Filing.closedEmpty_tells {K : NoticeKey → Prop} {base : Filing} (a : base.acts K f) (cl : Closure) :
    base.tells (f.closedEmpty c k cl) .docClosed (some (f.docId k)) (.channel c) 3
      [argNat (f.docId k), packWord [(0, 8, c), (8, 8, (f.doc k).mailbox), (16, 8, cl.code), (31, 1, flag (f.doc k).damaged)],
       argNat (f.doc k).pageCount, argNat (f.doc k).blockTotal] := by
  have hdoc : ((f.closing k cl).cancelLive k).doc k = { f.doc k with
      closure := cl, closed := some f.now, recipients := (((f.closing k cl).cancelLive k).doc k).recipients } := by
    rw [Filing.cancelLive_doc]
    simp [Filing.closing]
  exact Filing.acts.raiseDocClosed_tells (Filing.acts.cancelLive ((a.setDoc k _).mark _) k) hdoc c 3

/-! ## A document with pages (R92, R93) -/

/-- The closing document in the state it takes. -/
def Filing.stated (k : Nat) (cl : Closure) (st : DocState) (f : Filing) : Filing :=
  (f.closing k cl).setDoc k
    { f.doc k with closure := cl, closed := some f.now, state := st
                   damaged := (f.doc k).damaged || (f.docPages k).any (fun p => (f.page p).damaged) }

/-- The closing document with its recipients made READY where it is FILED. -/
def Filing.shelved (k : Nat) (cl : Closure) (st : DocState) (f : Filing) : Filing :=
  if st = .filed then (f.stated k cl st).makeReady k else f.stated k cl st

/-- The state that the document in slot k takes at a close. -/
def Filing.stateAtClose (k : Nat) (cl : Closure) (f : Filing) : DocState :=
  closedState (f.mailbox (f.doc k).mailbox).strict cl ((f.docPages k).any fun p => (f.page p).damaged)

theorem Filing.closeDoc_of_some_pages (hz : (f.doc k).pageCount ≠ 0) (cl : Closure) : f.closeDoc c k cl =
    ((f.shelved k cl (f.stateAtClose k cl)).setRetention k (f.mailbox (f.doc k).mailbox).hours f.now).raiseDocClosed c k
      (outcomeCode (f.stateAtClose k cl)) := by
  have h0 (x : Doc) : ((f.setDoc k x).mark (.document k)).doc k = x := by simp
  unfold Filing.closeDoc Filing.shelved Filing.stated Filing.closing Filing.stateAtClose
  simp only [if_neg hz, h0]

theorem Filing.stateAtClose_eq (cl : Closure) : f.stateAtClose k cl =
    if (f.mailbox (f.doc k).mailbox).strict = true ∧
        (cl ≠ .lastPage ∨ ((f.docPages k).any fun p => (f.page p).damaged) = true) then .review else .filed := by
  unfold Filing.stateAtClose closedState
  generalize ((f.docPages k).any fun p => (f.page p).damaged) = hurt
  cases (f.mailbox (f.doc k).mailbox).strict <;> cases hurt <;> cases cl <;> rfl

theorem Filing.stateAtClose_cases (f : Filing) (k : Nat) (cl : Closure) :
    f.stateAtClose k cl = .filed ∨ f.stateAtClose k cl = .review := by
  rw [Filing.stateAtClose_eq]
  split_ifs
  · exact .inr rfl
  · exact .inl rfl

theorem Filing.stated_doc (cl : Closure) (st : DocState) : (f.stated k cl st).doc k =
    { f.doc k with closure := cl, closed := some f.now, state := st
                   damaged := (f.doc k).damaged || (f.docPages k).any (fun p => (f.page p).damaged) } := by
  simp [Filing.stated]

theorem Filing.stated_doc_ne {j : Nat} (hj : j ≠ k) (cl : Closure) (st : DocState) :
    (f.stated k cl st).doc j = f.doc j := by
  rw [Filing.stated, Filing.doc_setDoc_ne _ _ hj, Filing.closing, Filing.mark_doc, Filing.doc_setDoc_ne _ _ hj]

/-- The places of a list whose recipient has a class, as the queue names them. -/
def Filing.placesOf (k : Nat) (cls : MailClass) (l : List Nat) (f : Filing) : List (Nat × Nat) :=
  (l.filter fun i => ((f.doc k).recipient i).cls == cls).map fun i => (k, i)

theorem Filing.readyOne_cls (i j : Nat) :
    (((f.readyOne k i).doc k).recipient j).cls = ((f.doc k).recipient j).cls := by
  rw [Filing.readyOne_doc]
  by_cases h : j = i
  · subst h; rw [Doc.recipient_setRecipient]
  · rw [Doc.recipient_setRecipient_ne _ _ h]

theorem Filing.readyOne_queue (i : Nat) : (f.readyOne k i).queue =
    { urgent := f.queue.urgent ++ f.placesOf k .urgent [i], normal := f.queue.normal ++ f.placesOf k .normal [i]
      bulk := f.queue.bulk ++ f.placesOf k .bulk [i] } := by
  unfold Filing.readyOne Filing.join Filing.placesOf
  cases hc : ((f.doc k).recipient i).cls <;> simp [hc]

theorem Filing.placesOf_cons (cls : MailClass) (i : Nat) (l : List Nat) :
    f.placesOf k cls (i :: l) = f.placesOf k cls [i] ++ f.placesOf k cls l := by
  unfold Filing.placesOf
  rw [← List.map_append, ← List.filter_append, List.singleton_append]

theorem Filing.placesOf_readyOne (cls : MailClass) (i : Nat) (l : List Nat) :
    (f.readyOne k i).placesOf k cls l = f.placesOf k cls l := by
  simp only [Filing.placesOf, Filing.readyOne_cls]

theorem Filing.readyAll_queue (l : List Nat) (f : Filing) : (l.foldl (Filing.readyOne k) f).queue =
    { urgent := f.queue.urgent ++ f.placesOf k .urgent l, normal := f.queue.normal ++ f.placesOf k .normal l
      bulk := f.queue.bulk ++ f.placesOf k .bulk l } := by
  induction l generalizing f with
  | nil => simp [Filing.placesOf]
  | cons i l ih =>
    rw [List.foldl_cons, ih, Filing.readyOne_queue]
    simp only [Filing.placesOf_readyOne, f.placesOf_cons _ i l, List.append_assoc]

theorem Filing.readyAll_doc_ne {j : Nat} (hj : j ≠ k) (l : List Nat) (f : Filing) :
    (l.foldl (Filing.readyOne k) f).doc j = f.doc j :=
  foldl_keeps (fun f : Filing => f.doc j) _ _ _ fun _ _ => by
    rw [Filing.readyOne, Filing.join_doc, Filing.doc_setRecipient_ne _ _ hj]

theorem Filing.readyAll_pages (l : List Nat) (f : Filing) : (l.foldl (Filing.readyOne k) f).dir.pages = f.dir.pages :=
  foldl_keeps (fun f : Filing => f.dir.pages) _ _ _ fun _ _ => rfl

theorem Filing.shelved_doc (cl : Closure) (st : DocState) : (f.shelved k cl st).doc k =
    { (f.stated k cl st).doc k with recipients := ((f.shelved k cl st).doc k).recipients } := by
  unfold Filing.shelved
  split_ifs
  · exact Filing.readyAll_doc ..
  · rfl

theorem Filing.shelved_doc_ne {j : Nat} (hj : j ≠ k) (cl : Closure) (st : DocState) :
    (f.shelved k cl st).doc j = f.doc j := by
  unfold Filing.shelved
  split_ifs
  · exact (Filing.readyAll_doc_ne hj _ _).trans (Filing.stated_doc_ne hj cl st)
  · exact Filing.stated_doc_ne hj cl st

theorem Filing.shelved_recipient {i : Nat} (hi : i < 4) (cl : Closure) (st : DocState) :
    ((f.shelved k cl st).doc k).recipient i =
      if st = .filed ∧ ((f.doc k).recipient i).state = .pending then { (f.doc k).recipient i with state := .ready }
      else (f.doc k).recipient i := by
  have hrec : ((f.stated k cl st).doc k).recipient i = (f.doc k).recipient i := by rw [Filing.stated_doc]; rfl
  unfold Filing.shelved
  by_cases hst : st = .filed
  · subst hst
    rw [if_pos rfl, Filing.makeReady_eq, Filing.readyAll_recipient]
    simp only [Doc.mem_pendingPlaces, hrec, hi, true_and]
  · rw [if_neg hst, hrec, if_neg fun h => hst h.1]

/-- The recipients of a class that the close makes READY, in ascending index, as the queue names them. -/
def Filing.joinsAtClose (k : Nat) (st : DocState) (cls : MailClass) (f : Filing) : List (Nat × Nat) :=
  if st = .filed then
    ([0, 1, 2, 3].filter fun i => ((f.doc k).recipient i).state == .pending && ((f.doc k).recipient i).cls == cls).map
      fun i => (k, i)
  else []

theorem Filing.shelved_queue (cl : Closure) (st : DocState) : (f.shelved k cl st).queue =
    { urgent := f.queue.urgent ++ f.joinsAtClose k st .urgent, normal := f.queue.normal ++ f.joinsAtClose k st .normal
      bulk := f.queue.bulk ++ f.joinsAtClose k st .bulk } := by
  have hrec (i : Nat) : ((f.stated k cl st).doc k).recipient i = (f.doc k).recipient i := by rw [Filing.stated_doc]; rfl
  have hplaces (cls : MailClass) (hst : st = .filed) :
      (f.stated k cl st).placesOf k cls ((f.stated k cl st).doc k).pendingPlaces = f.joinsAtClose k st cls := by
    unfold Filing.placesOf Filing.joinsAtClose Doc.pendingPlaces places
    rw [if_pos hst, List.filter_filter]
    simp only [hrec, Bool.and_comm]
  unfold Filing.shelved
  by_cases hst : st = .filed
  · rw [if_pos hst, Filing.makeReady_eq, Filing.readyAll_queue, hplaces _ hst, hplaces _ hst, hplaces _ hst]
    rfl
  · rw [if_neg hst]
    simp only [Filing.joinsAtClose, if_neg hst, List.append_nil]
    rfl

theorem Filing.shelved_pages (cl : Closure) (st : DocState) : (f.shelved k cl st).dir.pages = f.dir.pages := by
  unfold Filing.shelved
  split_ifs
  · exact Filing.readyAll_pages ..
  · rfl

theorem Filing.shelved_clock (cl : Closure) (st : DocState) : (f.shelved k cl st).clock = f.clock := by
  unfold Filing.shelved
  split_ifs
  · exact Filing.makeReady_clock ..
  · rfl

theorem Filing.shelved_blocks (cl : Closure) (st : DocState) : (f.shelved k cl st).blocks = f.blocks := by
  unfold Filing.shelved
  split_ifs
  · exact Filing.makeReady_blocks ..
  · rfl

theorem Filing.shelved_boxes (cl : Closure) (st : DocState) : (f.shelved k cl st).boxes = f.boxes := by
  unfold Filing.shelved
  split_ifs
  · exact Filing.makeReady_boxes ..
  · rfl

theorem Filing.acts.shelved {K : NoticeKey → Prop} (a : f.acts K g) (cl : Closure) (st : DocState) :
    f.acts K (g.shelved k cl st) := by
  unfold Filing.shelved
  split_ifs
  · exact Filing.acts.makeReady (((a.setDoc _ _).mark _).setDoc _ _) k
  · exact ((a.setDoc _ _).mark _).setDoc _ _

theorem Filing.setRetention_deadlines (n : Nat) (t : Time) : (f.setRetention k n t).clock.deadlines =
    if n = 0 then f.clock.deadlines
    else placeDeadline f.now { kind := .retain, slot := k, gen := (f.doc k).gen
                               due := t + ticks (n * Config.ticksPerHour) } f.clock.deadlines := by
  unfold Filing.setRetention
  dsimp only
  split_ifs
  · rw [Filing.changeDoc_clock]
  · rw [Filing.place]
    simp only [Filing.changeDoc_clock, Filing.changeDoc_now]

theorem Filing.setRetention_doc_ne {j : Nat} (hj : j ≠ k) (n : Nat) (t : Time) :
    (f.setRetention k n t).doc j = f.doc j := by
  have hc (x : Doc) : (f.changeDoc k x).doc j = f.doc j := by
    unfold Filing.changeDoc
    split_ifs
    · rfl
    · rw [Filing.mark_doc, Filing.doc_setDoc_ne _ _ hj]
  unfold Filing.setRetention
  dsimp only
  split_ifs
  · exact hc _
  · exact hc _

/-! ## What the close leaves of pages and blocks -/

theorem Filing.closeDoc_page_any (cl : Closure) (p : Nat) : (f.closeDoc c k cl).page p = f.page p := by
  by_cases hz : (f.doc k).pageCount = 0
  · rw [Filing.closeDoc_of_no_pages hz, Filing.releaseDoc_quiet_page, Filing.closedEmpty_docPages hz,
      if_neg List.not_mem_nil, Filing.page, Filing.closedEmpty_pages, Filing.page]
  · rw [Filing.closeDoc_of_some_pages hz, Filing.raiseDocClosed, Filing.raise_page, Filing.setRetention_page, Filing.page,
      Filing.shelved_pages, Filing.page]

theorem Filing.closeDoc_blocks (cl : Closure) : (f.closeDoc c k cl).blocks = f.blocks := by
  by_cases hz : (f.doc k).pageCount = 0
  · rw [Filing.closeDoc_of_no_pages hz, Filing.releaseDoc_quiet_blocks, Filing.docBlocks, Filing.closedEmpty_docPages hz,
      List.flatMap_nil, Filing.scrubAll_entries, List.append_nil, List.foldl_nil, Filing.closedEmpty, Filing.raiseDocClosed,
      Filing.raise_blocks, Filing.cancelLive_blocks]
    rfl
  · rw [Filing.closeDoc_of_some_pages hz, Filing.raiseDocClosed, Filing.raise_blocks, Filing.setRetention_blocks,
      Filing.shelved_blocks]

theorem Filing.closeDoc_mailbox_any (hz : (f.doc k).pageCount ≠ 0) (cl : Closure) (m : Nat) :
    (f.closeDoc c k cl).mailbox m = f.mailbox m := by
  rw [Filing.closeDoc_of_some_pages hz, Filing.raiseDocClosed, Filing.raise_mailbox, Filing.setRetention_mailbox,
    Filing.mailbox, Filing.shelved_boxes, Filing.mailbox]

/-- The document's record as DOC_CLOSED finds it. -/
theorem Filing.shelved_retained_doc (cl : Closure) (st : DocState) (n : Nat) (t : Time) :
    ((f.shelved k cl st).setRetention k n t).doc k =
      { f.doc k with
        closure := cl, closed := some f.now, state := st
        damaged := (f.doc k).damaged || (f.docPages k).any (fun p => (f.page p).damaged)
        retention := if n = 0 then none else some (t + ticks (n * Config.ticksPerHour))
        recipients := ((f.shelved k cl st).doc k).recipients } := by
  rw [Filing.setRetention_doc, Filing.shelved_doc, Filing.stated_doc]

section
variable (hz : (f.doc k).pageCount ≠ 0) (c : Nat) (cl : Closure)
include hz

theorem Filing.closeDoc_doc_of_pages : (f.closeDoc c k cl).doc k =
    { f.doc k with
      closure := cl, closed := some f.now, state := f.stateAtClose k cl
      damaged := (f.doc k).damaged || (f.docPages k).any (fun p => (f.page p).damaged)
      retention := if (f.mailbox (f.doc k).mailbox).hours = 0 then none
        else some (f.now + ticks ((f.mailbox (f.doc k).mailbox).hours * Config.ticksPerHour))
      recipients := ((f.shelved k cl (f.stateAtClose k cl)).doc k).recipients } := by
  rw [Filing.closeDoc_of_some_pages hz, Filing.raiseDocClosed, Filing.raise_doc, Filing.shelved_retained_doc]

theorem Filing.closeDoc_recipient_of_pages {i : Nat} (hi : i < 4) : ((f.closeDoc c k cl).doc k).recipient i =
    if f.stateAtClose k cl = .filed ∧ ((f.doc k).recipient i).state = .pending then
      { (f.doc k).recipient i with state := .ready }
    else (f.doc k).recipient i := by
  rw [Filing.closeDoc_doc_of_pages hz]
  exact Filing.shelved_recipient hi cl _

theorem Filing.closeDoc_doc_ne_of_pages {j : Nat} (hj : j ≠ k) : (f.closeDoc c k cl).doc j = f.doc j := by
  rw [Filing.closeDoc_of_some_pages hz, Filing.raiseDocClosed, Filing.raise_doc, Filing.setRetention_doc_ne hj,
    Filing.shelved_doc_ne hj]

theorem Filing.closeDoc_queue_of_pages : (f.closeDoc c k cl).queue =
    { urgent := f.queue.urgent ++ f.joinsAtClose k (f.stateAtClose k cl) .urgent
      normal := f.queue.normal ++ f.joinsAtClose k (f.stateAtClose k cl) .normal
      bulk := f.queue.bulk ++ f.joinsAtClose k (f.stateAtClose k cl) .bulk } := by
  rw [Filing.closeDoc_of_some_pages hz, Filing.raiseDocClosed, Filing.raise_queue, Filing.setRetention_queue,
    Filing.shelved_queue]

theorem Filing.closeDoc_deadlines_of_pages : (f.closeDoc c k cl).clock.deadlines =
    if (f.mailbox (f.doc k).mailbox).hours = 0 then f.clock.deadlines
    else placeDeadline f.now { kind := .retain, slot := k, gen := (f.doc k).gen
                               due := f.now + ticks ((f.mailbox (f.doc k).mailbox).hours * Config.ticksPerHour) }
      f.clock.deadlines := by
  have hnow (st : DocState) : (f.shelved k cl st).now = f.now := congrArg Clock.now (Filing.shelved_clock cl st)
  rw [Filing.closeDoc_of_some_pages hz, Filing.raiseDocClosed, Filing.raise_clock, Filing.setRetention_deadlines,
    Filing.shelved_clock, hnow, Filing.shelved_doc, Filing.stated_doc]

theorem Filing.acts.closeDoc_tells {K : NoticeKey → Prop} {base : Filing} (a : base.acts K f) :
    base.tells (f.closeDoc c k cl) .docClosed (some (f.docId k)) (.channel c) (outcomeCode (f.stateAtClose k cl))
      [argNat (f.docId k), packWord [(0, 8, c), (8, 8, (f.doc k).mailbox), (16, 8, cl.code),
        (31, 1, flag ((f.doc k).damaged || (f.docPages k).any (fun p => (f.page p).damaged)))],
       argNat (f.doc k).pageCount, argNat (f.doc k).blockTotal] := by
  rw [Filing.closeDoc_of_some_pages hz]
  exact Filing.acts.raiseDocClosed_tells ((a.shelved cl _).setRetention k _ _) (Filing.shelved_retained_doc cl _ _ _) c _

end

/-! ## From the state before the call's end -/

/-- base is f before the document in slot k, received on channel c, closes: its open page may have closed by now, and a fault
may have been reported. -/
structure Filing.atClose (c k : Nat) (base f : Filing) : Prop where
  acts : base.acts (fun _ => True) f
  doc : f.doc k = { base.doc k with blockTotal := (f.doc k).blockTotal }
  others : ∀ j, j ≠ k → f.doc j = base.doc j
  list : f.docPages k = base.docPages k
  strict : (f.mailbox (base.doc k).mailbox).strict = (base.mailbox (base.doc k).mailbox).strict
  hours : (f.mailbox (base.doc k).mailbox).hours = (base.mailbox (base.doc k).mailbox).hours
  queue : f.queue = base.queue
  deadlines : f.clock.deadlines = base.clock.deadlines
  total : (f.doc k).blockTotal ≤ (base.doc k).blockTotal
  whole : (base.chan c).openPage = none → (f.doc k).blockTotal = (base.doc k).blockTotal

variable {base : Filing}

theorem Filing.atClose_refl (c k : Nat) (f : Filing) : f.atClose c k f :=
  ⟨.refl, rfl, fun _ _ => rfl, rfl, rfl, rfl, rfl, rfl, le_rfl, fun _ => rfl⟩

/-- The document is closed, told in the terms of `docClosed`. -/
theorem Filing.atClose.docClosed_of_no_pages (a : base.atClose c k f) (hz : (base.doc k).pageCount = 0) (cl : Closure) :
    base.docClosed (f.closeDoc c k cl) c k cl := by
  have hz' : (f.doc k).pageCount = 0 := by rw [a.doc]; exact hz
  have hlater : (f.closedEmpty c k cl).acts (fun k => k.kind ≠ .docClosed) ((f.closedEmpty c k cl).releaseDoc true k) :=
    Filing.acts.releaseQuiet .refl (fun q hq => by rcases hq with h | h | h <;> simp [h]) k
  have htold := (Filing.closedEmpty_tells a.acts (c := c) (k := k) cl).later hlater (by simp)
  have hid : f.docId k = base.docId k := by rw [Filing.docId, a.doc, Filing.docId]
  have hmail : (f.doc k).mailbox = (base.doc k).mailbox := by rw [a.doc]
  have hcount : (f.doc k).pageCount = (base.doc k).pageCount := by rw [a.doc]
  have hhurt : (f.doc k).damaged = (base.doc k).damaged := by rw [a.doc]
  have hgen : (f.doc k).gen = (base.doc k).gen := by rw [a.doc]
  have hgen' : ((f.closedEmpty c k cl).doc k).gen = (base.doc k).gen := by rw [Filing.closedEmpty_doc, ← hgen]
  rw [hid, hmail, hcount, hhurt] at htold
  rw [Filing.closeDoc_of_no_pages hz']
  refine ⟨fun j hj => ?_, fun _ => ⟨?_, ?_, ?_, _, a.total, a.whole, htold⟩, fun h => absurd hz h⟩
  · rw [Filing.releaseDoc_quiet_doc_ne _ _ hj, Filing.closedEmpty_doc_ne hj, a.others j hj]
  · rw [Filing.releaseDoc_doc, hgen']
  · rw [Filing.releaseDoc_queue, Filing.closedEmpty, Filing.raiseDocClosed, Filing.raise_queue, Filing.cancelLive_queue]
    exact a.queue
  · rw [Filing.releaseDoc_quiet_deadlines, hgen', ← a.deadlines, Filing.closedEmpty, Filing.raiseDocClosed,
      Filing.raise_clock, Filing.cancelLive_clock]
    rfl

theorem Filing.atClose.docClosed_of_pages (a : base.atClose c k f) (hz : (base.doc k).pageCount ≠ 0) (cl : Closure) :
    base.docClosed (f.closeDoc c k cl) c k cl := by
  have hz' : (f.doc k).pageCount ≠ 0 := by rw [a.doc]; exact hz
  have hid : f.docId k = base.docId k := by rw [Filing.docId, a.doc, Filing.docId]
  have hmail : (f.doc k).mailbox = (base.doc k).mailbox := by rw [a.doc]
  have hhurt : (f.doc k).damaged = (base.doc k).damaged := by rw [a.doc]
  have hcount : (f.doc k).pageCount = (base.doc k).pageCount := by rw [a.doc]
  have hgen : (f.doc k).gen = (base.doc k).gen := by rw [a.doc]
  have hrec (i : Nat) : (f.doc k).recipient i = (base.doc k).recipient i := by rw [a.doc]; rfl
  have hany : ((base.docPages k).any fun p => ((f.closeDoc c k cl).page p).damaged) =
      (f.docPages k).any fun p => (f.page p).damaged := by
    rw [a.list]
    simp only [Filing.closeDoc_page_any]
  have hst : f.stateAtClose k cl = if (base.mailbox (base.doc k).mailbox).strict = true ∧ (cl ≠ .lastPage ∨
      ((base.docPages k).any fun p => ((f.closeDoc c k cl).page p).damaged) = true) then .review else .filed := by
    rw [Filing.stateAtClose_eq, hmail, a.strict, hany]
  have hcode : outcomeCode (f.stateAtClose k cl) = if f.stateAtClose k cl = .filed then 1 else 2 := by
    rcases f.stateAtClose_cases k cl with h | h <;> rw [h] <;> rfl
  have hjoins (cls : MailClass) : f.joinsAtClose k (f.stateAtClose k cl) cls =
      base.joinsAtClose k (f.stateAtClose k cl) cls := by
    simp only [Filing.joinsAtClose, hrec]
  have hdoc := f.closeDoc_doc_of_pages hz' c cl
  have hqueue := f.closeDoc_queue_of_pages hz' c cl
  rw [a.queue, hjoins, hjoins, hjoins] at hqueue
  have hlist := f.closeDoc_deadlines_of_pages hz' c cl
  rw [hmail, a.hours, a.acts.now, hgen, a.deadlines] at hlist
  have htold := a.acts.closeDoc_tells hz' c cl
  rw [hid, hmail, hcount, hhurt, hcode, ← hany] at htold
  have htotal : ((f.closeDoc c k cl).doc k).blockTotal = (f.doc k).blockTotal := by rw [hdoc]
  unfold Filing.docClosed
  dsimp only
  rw [← hst]
  refine ⟨fun j hj => ?_, fun h => absurd h hz, fun _ => ⟨?_, fun i hi => ?_, hqueue, hlist, ?_⟩⟩
  · rw [Filing.closeDoc_doc_ne_of_pages hz' _ _ hj, a.others j hj]
  · rw [hany, ← hhurt, htotal, hdoc, hmail, a.hours, a.acts.now, a.doc]
    rfl
  · rw [Filing.closeDoc_recipient_of_pages hz' _ _ hi, hrec]
  · rw [htotal]
    exact htold

/-- The document is closed (R91 to R93). -/
theorem Filing.atClose.docClosed (a : base.atClose c k f) (cl : Closure) : base.docClosed (f.closeDoc c k cl) c k cl := by
  by_cases hz : (base.doc k).pageCount = 0
  · exact a.docClosed_of_no_pages hz cl
  · exact a.docClosed_of_pages hz cl

/-- A document closed stays closed while the tables stand and DOC_CLOSED is not raised. -/
theorem Filing.docClosed.later {K : NoticeKey → Prop} {cl : Closure} (hc : f.docClosed g c k cl) (a : g.acts K h)
    (hK : ∀ d, ¬ K { kind := .docClosed, doc := d, item := .channel c }) (hdoc : ∀ j, h.doc j = g.doc j)
    (hpage : ∀ p, h.page p = g.page p) (hqueue : h.queue = g.queue) (hclock : h.clock.deadlines = g.clock.deadlines) :
    f.docClosed h c k cl := by
  unfold Filing.docClosed at hc ⊢
  dsimp only at hc ⊢
  simp only [hdoc, hpage, hqueue, hclock]
  obtain ⟨hothers, hempty, hpages⟩ := hc
  refine ⟨hothers, fun hz => ?_, fun hz => ?_⟩
  · obtain ⟨h1, h2, h3, total, h4, h5, htold⟩ := hempty hz
    exact ⟨h1, h2, h3, total, h4, h5, htold.later a (hK _)⟩
  · obtain ⟨h1, h2, h3, h4, htold⟩ := hpages hz
    exact ⟨h1, h2, h3, h4, htold.later a (hK _)⟩

/-! ## Leaving the call (R51) -/

/-- The channel's leaving of its call, behind the close of its document. -/
def Filing.leaveCall (c : Nat) (toDiscard : Bool) (f : Filing) : Filing :=
  (f.setChan c { f.chan c with doc := none, timer := none, lockPending := false
                               state := if (f.chan c).lockPending then .locked
                                 else if toDiscard then .discard else .idle }).mark (.channel c)

theorem Filing.closeCall_eq {d : Nat} (hd : (f.chan c).doc = some d) (cl : Closure) (x : Bool) :
    f.closeCall c cl x = (f.closeDoc c (slotOf d) cl).leaveCall c x := by
  unfold Filing.closeCall
  rw [hd]
  rfl

theorem Filing.leaveCall_acts (f : Filing) (c : Nat) (x : Bool) : f.acts (fun _ => False) (f.leaveCall c x) :=
  (Filing.acts.setChan .refl _ _).mark _

theorem Filing.atClose.closeCall {d : Nat} (a : base.atClose c (slotOf d) f) (hd : (f.chan c).doc = some d) (cl : Closure)
    (x : Bool) : base.docClosed (f.closeCall c cl x) c (slotOf d) cl := by
  rw [Filing.closeCall_eq hd]
  exact (a.docClosed cl).later (Filing.leaveCall_acts _ c x) (fun _ h => h) (fun _ => rfl) (fun _ => rfl) rfl rfl

/-- A page closed stays closed as its document closes and the channel leaves the call. -/
theorem Filing.pageClosed.closeCall {d p l : Nat} {x y z : Bool} (hp : f.pageClosed g c p (slotOf d) l x y)
    (hd : (g.chan c).doc = some d) (hc : (g.doc (slotOf d)).pageCount = (f.doc (slotOf d)).pageCount) (cl : Closure) :
    f.pageClosed (g.closeCall c cl z) c p (slotOf d) l x y := by
  have hclose : g.acts (fun k => k.kind ≠ .pageClosed) (g.closeDoc c (slotOf d) cl) :=
    Filing.acts.closeDoc .refl (fun q hq => by rcases hq with h | h | h <;> simp [h]) (fun _ _ => by simp) c _ cl
  have hleave : (g.closeDoc c (slotOf d) cl).acts (fun k => k.kind ≠ .pageClosed)
      ((g.closeDoc c (slotOf d) cl).leaveCall c z) := (Filing.acts.setChan .refl _ _).mark _
  rw [Filing.closeCall_eq hd]
  refine hp.later (hclose.trans hleave) (fun _ h => h rfl) (Filing.closeDoc_page_any cl p) (Filing.closeDoc_blocks cl)
    fun hz => ⟨?_, ?_⟩
  · exact congrArg Mailbox.usage (Filing.closeDoc_mailbox_any (by rw [hc]; exact hz) cl _)
  · have htotal : ((g.closeDoc c (slotOf d) cl).doc (slotOf d)).blockTotal = (g.doc (slotOf d)).blockTotal := by
      rw [Filing.closeDoc_doc_of_pages (by rw [hc]; exact hz)]
    exact htotal

/-! ## What comes between -/

/-- The close of the open page leaves its document ready for its own. -/
theorem Filing.atClose_closeOpenPage {d p : Nat} (hd : (f.chan c).doc = some d) (hp : (f.chan c).openPage = some p)
    (l : Nat) (x y : Bool) : f.atClose c (slotOf d) (f.closeOpenPage c l x y) := by
  rw [f.closeOpenPage_of_open l x y hd hp]
  generalize slotOf d = k
  generalize mapHoles (f.chan c).map (keepCount l) = n
  have hacts : f.acts (fun _ => True) (f.completePage k p l x y n) :=
    .completePage .refl (fun _ _ => trivial) _ _ _ _ _ _
  have htables := (f.keepsTables_refl).completePage k p l x y n
  have hdoc : (f.completePage k p l x y n).doc k = _ := Filing.completePage_doc x y
  have hnext (q : Nat) : ((f.completePage k p l x y n).page q).next = (f.page q).next := by
    by_cases h : q = p
    · rw [h, Filing.completePage_page]
    · rw [Filing.completePage_page_ne h]
  exact {
    acts := Filing.acts.raise ((hacts.setChan _ _).mark _) trivial _ _
    doc := by rw [Filing.reportClosed_doc]; exact hdoc
    others := fun j hj => by rw [Filing.reportClosed_doc, Filing.completePage_doc_ne hj]
    list := Filing.docPages_of_links (by rw [Filing.reportClosed_doc, hdoc]) (by rw [Filing.reportClosed_doc, hdoc])
      fun q => by rw [Filing.reportClosed_page, hnext]
    strict := by rw [Filing.reportClosed_mailbox, htables.strict]
    hours := by rw [Filing.reportClosed_mailbox, htables.hours]
    queue := by simp [Filing.reportClosed, Filing.raisePageClosed]
    deadlines := by simp [Filing.reportClosed, Filing.raisePageClosed]
    total := by rw [Filing.reportClosed_doc, Filing.completePage_blockTotal]; exact Nat.sub_le _ _
    whole := fun h => absurd (hp.symm.trans h) (by simp) }

/-- A fault reported leaves the document as ready for its close as it was. -/
theorem Filing.atClose.reportFault (a : base.atClose c k f) (e : Nat) (m : Monitor) (w : Word) :
    base.atClose c k (f.reportFault e m w) where
  acts := a.acts.reportFault (fun _ _ => trivial) e m w
  doc := by rw [Filing.reportFault_doc]; exact a.doc
  others j hj := by rw [Filing.reportFault_doc, a.others j hj]
  list := by
    rw [← a.list]
    exact Filing.docPages_congr (Filing.reportFault_doc ..) fun p _ => Filing.reportFault_page ..
  strict := by rw [Filing.reportFault_mailbox]; exact a.strict
  hours := by rw [Filing.reportFault_mailbox]; exact a.hours
  queue := by rw [Filing.reportFault_queue]; exact a.queue
  deadlines := by rw [Filing.reportFault_clock]; exact a.deadlines
  total := by rw [Filing.reportFault_doc]; exact a.total
  whole h := by rw [Filing.reportFault_doc]; exact a.whole h

end

end Sys2Proof.Machine

end

section
/-! PROOFS. Trailer words and END (R42, R47, R49, R51). -/

namespace Sys2Proof.Machine

section
variable {f g base : Filing} {c p d : Nat}

/-- The number of pages that the document's record shows is not changed before its close. -/
theorem Filing.atClose.pageCount (a : base.atClose c d f) : (f.doc d).pageCount = (base.doc d).pageCount := by
  rw [a.doc]

theorem Filing.atClose.docState (a : base.atClose c d f) : (f.doc d).state = (base.doc d).state := by
  rw [a.doc]

/-- The length with which a trailer word closes its page (R46, R47). -/
def trailerFinal (w : Word) (ch : Channel) : Nat := if lengthInRange (trailerLength w) then trailerLength w else ch.estimate

/-- The page closed by a trailer word. -/
def Filing.trailed (c : Nat) (w : Word) (f : Filing) : Filing :=
  f.closeOpenPage c (trailerFinal w (f.chan c)) false (!lengthInRange (trailerLength w))

/-- The channel waits for its next page (R49). -/
def Filing.enterGap (c : Nat) (f : Filing) : Filing :=
  (f.setChan c { f.chan c with state := .gap, timer := (f.chan c).gapLoad }).mark (.channel c)

theorem Filing.trailerClose_eq (c : Nat) (w : Word) (f : Filing) : f.trailerClose c w =
    if trailerLast w then (f.trailed c w).closeCall c .lastPage false else (f.trailed c w).enterGap c := by
  have hpage : (if lengthInRange (trailerLength w) then f.closeOpenPage c (trailerLength w) false false
      else f.closeOpenPage c (f.chan c).estimate false true) = f.trailed c w := by
    unfold Filing.trailed trailerFinal
    cases lengthInRange (trailerLength w) <;> rfl
  unfold Filing.trailerClose
  dsimp only
  rw [hpage]
  rfl

/-- A page just closed stays closed as the channel enters GAP. -/
theorem Filing.pageClosed.enterGap {k l : Nat} {x y : Bool} (h : f.pageClosed g c p k l x y) :
    f.pageClosed (g.enterGap c) c p k l x y :=
  h.later (K := fun _ => False) ((Filing.acts.setChan .refl _ _).mark _) (fun _ h => h) rfl rfl fun _ => ⟨rfl, rfl⟩

end

end Sys2Proof.Machine

open Sys2Proof Sys2Proof.Machine

/-- Settles O35: the page's close, then the channel's next state or the document's close. -/
theorem trailerClosesThePage : Obligations.TrailerClosesThePage := by
  intro s x c p d hdr hx hw hst hop hdoc ch given good l
  have hrow : s.filing.drainRow x = .trailer := by
    simp [Filing.drainRow, hx, Config.dataAreaBytes, callWordAt, lateSlot, lastWordAt]
  have hdest : x.cls.dest = some (.page (0x4000 + 0x100 * (c - 1) + 124)) := by rw [hx]; rfl
  have hfull : x.write.full = true := by simp [BoardWrite.full, hw]
  have hrun : exec .trailerWord s =
      .next { s with board := s.board.await (.page (0x4000 + 0x100 * (c - 1) + 124))
                     filing := s.filing.trailerClose c x.write.data } := by
    show execTrailerWord s = _
    rw [execTrailerWord, State.drainAs_of_drains hdr hrow, State.drainTo_of_dest hdest, hx]
    simp only [AddrClass.channelOffset, Filing.trailerWord, hst, hfull, if_true]
  have hchan : (s.filing.trailed c x.write.data).chan c = { ch with map := [], mark := none, openPage := none } :=
    Filing.closeOpenPage_chan _ _ _ _ hop hdoc
  have hdoc' : ((s.filing.trailed c x.write.data).chan c).doc = some d := by rw [hchan]; exact hdoc
  have hclosed : s.filing.pageClosed (s.filing.trailed c x.write.data) c p (slotOf d) l false (!good) :=
    Filing.closeOpenPage_pageClosed _ _ _ hdoc hop
  have hready : s.filing.atClose c (slotOf d) (s.filing.trailed c x.write.data) :=
    Filing.atClose_closeOpenPage hdoc hop _ _ _
  refine ⟨_, hrun, rfl, rfl, ?_⟩
  dsimp only
  rw [Filing.trailerClose_eq]
  by_cases hlast : bits x.write.data 31 1 = 1
  · have hl : trailerLast x.write.data = true := by simp [trailerLast, hlast]
    have hcall : ((s.filing.trailed c x.write.data).closeCall c .lastPage false).chan c = _ :=
      Filing.closeCall_chan _ _ _ hdoc'
    rw [hchan] at hcall
    rw [if_pos hl, hcall]
    exact ⟨rfl, rfl, rfl, hclosed.closeCall hdoc' hready.pageCount _, fun h => absurd (hlast.symm.trans h) (by decide),
      fun _ => ⟨hready.closeCall hdoc' _ _, rfl, rfl, rfl⟩⟩
  · have hl : ¬ trailerLast x.write.data = true := by simp [trailerLast, hlast]
    have hgap : ((s.filing.trailed c x.write.data).enterGap c).chan c = _ := Filing.chan_setChan ..
    rw [hchan] at hgap
    rw [if_neg hl, hgap]
    exact ⟨rfl, rfl, rfl, hclosed.enterGap, fun _ => ⟨rfl, rfl, hdoc, hready.others,
      hready.docState⟩, fun h => absurd h hlast⟩

end

section
/-! PROOFS. END in every channel state (R42). -/

namespace Sys2Proof.Machine

section
variable {f g : Filing} {c : Nat}

/-! ## The header words of the channel -/

theorem Filing.closeOpenPage_header (l : Nat) (x y : Bool) :
    ((f.closeOpenPage c l x y).chan c).header = (f.chan c).header := by
  unfold Filing.closeOpenPage
  dsimp only
  split <;> simp

theorem Filing.closeCall_header (cl : Closure) (x : Bool) : ((f.closeCall c cl x).chan c).header = (f.chan c).header := by
  cases hd : (f.chan c).doc with
  | none => rw [Filing.closeCall, hd]
  | some d => rw [Filing.closeCall_chan _ _ _ hd]

theorem Filing.endCurrent_header (cl : Closure) (x : Bool) : ((f.endCurrent c cl x).chan c).header = (f.chan c).header := by
  rw [Filing.endCurrent, Filing.closeCall_header]
  split_ifs
  · exact Filing.closeOpenPage_header ..
  · rfl

theorem Filing.endCall_header : ((f.endCall c).chan c).header = (f.chan c).header := by
  unfold Filing.endCall
  split
  · exact Filing.endCurrent_header ..
  · exact Filing.endCurrent_header ..
  · simp
  · rfl

theorem Filing.endCall_chan_ne {e : Nat} (h : e ≠ c) : (f.endCall c).chan e = f.chan e := by
  unfold Filing.endCall
  split
  · exact Filing.endCurrent_chan_ne _ _ _ h
  · exact Filing.endCurrent_chan_ne _ _ _ h
  · rw [Filing.mark_chan, Filing.chan_setChan_ne _ _ h]
  · rfl

/-! ## A header word captured before the close -/

theorem Filing.pageClosed.of_setChan {x : Channel} {p k l : Nat} {a b : Bool} (hm : x.map = (f.chan c).map)
    (h : (f.setChan c x).pageClosed g c p k l a b) : f.pageClosed g c p k l a b := by
  unfold Filing.pageClosed at h ⊢
  dsimp only at h ⊢
  rw [Filing.chan_setChan, hm] at h
  exact h

theorem Filing.docClosed.of_setChan {x : Channel} {k : Nat} {cl : Closure} (hp : x.openPage = (f.chan c).openPage)
    (h : (f.setChan c x).docClosed g c k cl) : f.docClosed g c k cl := by
  unfold Filing.docClosed at h ⊢
  dsimp only at h ⊢
  rw [Filing.chan_setChan, hp] at h
  exact h

/-! ## The end of the call in hand -/

/-- The state in which the document closes: the open page of a channel in PAGE is closed forced. -/
def Filing.pageEnded (c : Nat) (f : Filing) : Filing := if (f.chan c).state = .page then f.forcedClose c else f

theorem Filing.endCurrent_eq (cl : Closure) (x : Bool) : f.endCurrent c cl x = (f.pageEnded c).closeCall c cl x := rfl

theorem Filing.atClose_pageEnded {d : Nat} (hd : (f.chan c).doc = some d) : f.atClose c (slotOf d) (f.pageEnded c) := by
  unfold Filing.pageEnded
  split_ifs
  · cases hp : (f.chan c).openPage with
    | none => rw [Filing.forcedClose_of_none hp]; exact f.atClose_refl _ _
    | some p => exact Filing.atClose_closeOpenPage hd hp _ _ _
  · exact f.atClose_refl _ _

/-- What the forced close leaves of the channel's call (R48). -/
theorem Filing.pageEnded_chan {d : Nat} (hd : (f.chan c).doc = some d) : (f.pageEnded c).chan c = { f.chan c with
    map := ((f.pageEnded c).chan c).map, mark := ((f.pageEnded c).chan c).mark
    openPage := ((f.pageEnded c).chan c).openPage } := by
  unfold Filing.pageEnded
  split_ifs
  · cases hp : (f.chan c).openPage with
    | none => rw [Filing.forcedClose_of_none hp]
    | some p => rw [Filing.forcedClose, Filing.closeOpenPage_chan _ _ _ _ hp hd]
  · rfl

theorem Filing.pageEnded_doc {d : Nat} (hd : (f.chan c).doc = some d) : ((f.pageEnded c).chan c).doc = some d := by
  rw [Filing.pageEnded_chan hd]
  exact hd

theorem Filing.endCurrent_docClosed {d : Nat} (hd : (f.chan c).doc = some d) (cl : Closure) (x : Bool) :
    f.docClosed (f.endCurrent c cl x) c (slotOf d) cl :=
  (Filing.atClose_pageEnded hd).closeCall (Filing.pageEnded_doc hd) cl x

theorem Filing.endCurrent_pageClosed {d p : Nat} (hst : (f.chan c).state = .page) (hd : (f.chan c).doc = some d)
    (hp : (f.chan c).openPage = some p) (cl : Closure) (x : Bool) :
    f.pageClosed (f.endCurrent c cl x) c p (slotOf d) (f.chan c).estimate true true := by
  have hpage : f.pageEnded c = f.closeOpenPage c (f.chan c).estimate true true := if_pos hst
  have hclosed := Filing.closeOpenPage_pageClosed (f.chan c).estimate true true hd hp
  rw [← hpage] at hclosed
  exact hclosed.closeCall (Filing.pageEnded_doc hd) (Filing.atClose_pageEnded hd).pageCount cl

/-- The channel once its call has ended (R51). -/
theorem Filing.endCurrent_chan {d : Nat} (hd : (f.chan c).doc = some d) (cl : Closure) (x : Bool) :
    ((f.endCurrent c cl x).chan c).state = (if (f.chan c).lockPending then .locked else if x then .discard else .idle) ∧
      ((f.endCurrent c cl x).chan c).doc = none ∧ ((f.endCurrent c cl x).chan c).timer = none ∧
      ((f.endCurrent c cl x).chan c).lockPending = false ∧
      ((f.endCurrent c cl x).chan c).lastFault = (f.chan c).lastFault := by
  rw [Filing.endCurrent_eq, Filing.closeCall_chan _ _ _ (Filing.pageEnded_doc hd), Filing.pageEnded_chan hd]
  exact ⟨rfl, rfl, rfl, rfl, rfl⟩

theorem Filing.endCall_of_call (h : (f.chan c).state = .gap ∨ (f.chan c).state = .page) :
    f.endCall c = f.endCurrent c .callEnded false := by
  unfold Filing.endCall
  rcases h with h | h <;> rw [h]

end

end Sys2Proof.Machine

open Sys2Proof Sys2Proof.Machine

/-- Settles O30: the call word captured, then `endCall` by the channel's state. -/
theorem endLeavesTheCall : Obligations.EndLeavesTheCall := by
  intro s x c hdr hx hw hdata ch put
  have hrow : s.filing.drainRow x = .ends := by
    simp [Filing.drainRow, hx, Config.dataAreaBytes, callWordAt, lateSlot, callRow, BoardWrite.full, hw, hdata, callKind]
  have hdest : x.cls.dest = some (.page (0x4000 + 0x100 * (c - 1) + 60)) := by rw [hx]; rfl
  set f := s.filing.setChan c { ch with header := put } with hf
  have hchan : f.chan c = { ch with header := put } := Filing.chan_setChan ..
  have hother (e : Nat) (he : e ≠ c) : f.chan e = s.filing.chan e := Filing.chan_setChan_ne _ _ he
  have hrun : exec .endCall s =
      .next { s with board := s.board.await (.page (0x4000 + 0x100 * (c - 1) + 60)), filing := f.endCall c } := by
    show execEndCall s = _
    rw [execEndCall, State.drainAs_of_drains hdr hrow, State.drainTo_of_dest hdest,
      Filing.captureWrite_callWord _ _ _ hx hw, hdata, hx]
    rfl
  refine ⟨_, hrun, ?_, rfl, rfl, fun e he => ?_, fun d p hst hd hp => ?_, fun d hst hd => ?_, fun hst => ?_, fun hst => ?_⟩
  · exact Filing.endCall_header.trans (congrArg Channel.header hchan)
  · exact (Filing.endCall_chan_ne he).trans (hother e he)
  · have hst' : (f.chan c).state = .page := by rw [hchan]; exact hst
    have hclosed := Filing.endCurrent_pageClosed (f := f) (p := p) hst' (by rw [hchan]; exact hd) (by rw [hchan]; exact hp)
      .callEnded false
    rw [← Filing.endCall_of_call (.inr hst'), hchan] at hclosed
    exact Filing.pageClosed.of_setChan (x := { ch with header := put }) rfl hclosed
  · have hst' : (f.chan c).state = .gap ∨ (f.chan c).state = .page := by rw [hchan]; exact hst
    have hd' : (f.chan c).doc = some d := by rw [hchan]; exact hd
    have hend := f.endCurrent_chan hd' .callEnded false
    have hclosed := Filing.endCurrent_docClosed hd' .callEnded false
    rw [← Filing.endCall_of_call hst', hchan] at hend
    rw [← Filing.endCall_of_call hst'] at hclosed
    exact ⟨Filing.docClosed.of_setChan (x := { ch with header := put }) rfl hclosed, hend⟩
  · have hst' : (f.chan c).state = .discard := by rw [hchan]; exact hst
    have hend : f.endCall c = (f.setChan c { f.chan c with state := .idle, timer := none }).mark (.channel c) := by
      rw [Filing.endCall, hst']
    dsimp only
    rw [hend, Filing.mark_chan, Filing.chan_setChan, hchan]
    exact ⟨rfl, rfl⟩
  · have hst' : (f.chan c).state = .idle ∨ (f.chan c).state = .send ∨ (f.chan c).state = .locked := by
      rw [hchan]; exact hst
    rcases hst' with h | h | h <;> exact (by rw [Filing.endCall, h] : f.endCall c = f)

end

section
/-! PROOFS. Expired channel timers (R53, R56, R121, R122, R124). -/

namespace Sys2Proof.Machine

section
variable {f g base : Filing} {c : Nat}

/-! ## The fault of an expiry -/

/-- The mask bit of the monitor. -/
def Filing.maskBit (m : Monitor) (f : Filing) : Bool := f.monitors.policy.masks.getLsbD m.code

/-- The three monitors that end a call or an attempt. -/
def Monitor.ends (m : Monitor) : Prop := m = .stall ∨ m = .gap ∨ m = .confirm

/-- A channel in GAP, PAGE or SEND after the report of its expiry: the fault is its last fault unless masked, and with lockout
lock pending is set (R56). -/
theorem Filing.reportFault_chan_of_expiry {m : Monitor} (hm : m.ends) (hidle : (f.chan c).state ≠ .idle)
    (hdiscard : (f.chan c).state ≠ .discard) (w : Word) : (f.reportFault c m w).chan c =
      { f.chan c with
        lastFault := if f.maskBit m = true then (f.chan c).lastFault else some m
        lockPending := (f.chan c).lockPending || (f.monitors.policy.lockout && !f.maskBit m) } := by
  have hmasked : f.masked m = f.maskBit m := by rcases hm with rfl | rfl | rfl <;> rfl
  have hlocks : m.locks = true := by rcases hm with rfl | rfl | rfl <;> rfl
  rw [Filing.reportFault_chan, hmasked]
  unfold Channel.recordFault
  cases f.maskBit m <;> cases f.monitors.policy.lockout <;> simp [hlocks, hidle, hdiscard]

/-- What the report of a fault leaves to later closes: a page closed stays closed. -/
theorem Filing.pageClosed.reportFault {p k l : Nat} {x y : Bool} (h : f.pageClosed g c p k l x y) (e : Nat) (m : Monitor)
    (w : Word) : f.pageClosed (g.reportFault e m w) c p k l x y :=
  h.later (K := fun q => q.kind ≠ .pageClosed)
    (Filing.acts.reportFault .refl (fun q hq => by rcases hq with h | h | h <;> simp [h]) e m w) (fun _ h => h rfl)
    (Filing.reportFault_page ..) (Filing.reportFault_blocks ..)
    fun _ => ⟨congrArg Mailbox.usage (Filing.reportFault_mailbox ..), congrArg Doc.blockTotal (Filing.reportFault_doc ..)⟩

/-! ## What an expiry leaves of the channel -/

/-- The channel is out of its call or attempt: its timer stopped, its state by lock pending and lockout (R51, R56, R113). -/
def Filing.expiryEnded (c : Nat) (m : Monitor) (f g : Filing) : Prop :=
  (∀ e, e ≠ c → g.chan e = f.chan e) ∧ (g.chan c).timer = none ∧ (g.chan c).lockPending = false ∧
  (g.chan c).state = (if (f.chan c).lockPending ∨ (f.monitors.policy.lockout = true ∧ f.maskBit m = false) then .locked
    else .idle) ∧
  (g.chan c).lastFault = (if f.maskBit m then (f.chan c).lastFault else some m)

/-- The channel g shows left its call or attempt as lock pending says, after the fault report of f. -/
theorem Filing.expiryEnded_of_chan {m : Monitor} {x : Channel} (hother : ∀ e, e ≠ c → g.chan e = f.chan e)
    (hpending : x.lockPending = ((f.chan c).lockPending || (f.monitors.policy.lockout && !f.maskBit m)))
    (hfault : x.lastFault = if f.maskBit m = true then (f.chan c).lastFault else some m)
    (htimer : (g.chan c).timer = none) (hlock : (g.chan c).lockPending = false)
    (hstate : (g.chan c).state = if x.lockPending then .locked else .idle) (hlast : (g.chan c).lastFault = x.lastFault) :
    f.expiryEnded c m g := by
  refine ⟨hother, htimer, hlock, ?_, hlast.trans hfault⟩
  rw [hstate, hpending]
  simp only [Bool.or_eq_true, Bool.and_eq_true, Bool.not_eq_true']

/-- A call ended by an expiry (R51, R53). -/
theorem Filing.expiryEnded_closeCall {m : Monitor} {d : Nat} (hm : m.ends) (hidle : (f.chan c).state ≠ .idle)
    (hdiscard : (f.chan c).state ≠ .discard) (hd : (f.chan c).doc = some d) (w : Word) (cl : Closure) :
    f.expiryEnded c m ((f.reportFault c m w).closeCall c cl false) ∧
      ((f.reportFault c m w).closeCall c cl false).chan c = { (f.reportFault c m w).chan c with
        doc := none, timer := none, lockPending := false
        state := if ((f.reportFault c m w).chan c).lockPending then .locked else .idle } := by
  have hchan := Filing.reportFault_chan_of_expiry hm hidle hdiscard w
  have hdoc : ((f.reportFault c m w).chan c).doc = some d := by rw [hchan]; exact hd
  have hend := Filing.closeCall_chan _ cl false hdoc
  refine ⟨Filing.expiryEnded_of_chan (x := (f.reportFault c m w).chan c) (fun e he => ?_) (by rw [hchan]) (by rw [hchan])
    (by rw [hend]) (by rw [hend]) (by rw [hend]; rfl) (by rw [hend]), hend⟩
  rw [Filing.closeCall_chan_ne _ _ _ he, Filing.reportFault_chan_ne _ _ _ he]

theorem Filing.expiryEnded.of_same {m : Monitor} (h : f.expiryEnded c m g) (hchan : ∀ e, e ≠ c → f.chan e = base.chan e)
    (hpending : (f.chan c).lockPending = (base.chan c).lockPending)
    (hfault : (f.chan c).lastFault = (base.chan c).lastFault)
    (hpolicy : f.monitors.policy = base.monitors.policy) : base.expiryEnded c m g := by
  obtain ⟨h1, h2, h3, h4, h5⟩ := h
  unfold Filing.maskBit at h4 h5
  rw [hpending, hpolicy] at h4
  rw [hfault, hpolicy] at h5
  exact ⟨fun e he => (h1 e he).trans (hchan e he), h2, h3, h4, h5⟩

/-! ## A failed attempt -/

section
variable {k i : Nat} {u : Recipient → Recipient}

theorem Filing.endAttempt_of_bound (hb : (f.chan c).bound = some (k, i)) : (f.endAttempt c u).doc k =
    (f.doc k).setRecipient i { u ((f.doc k).recipient i) with channel := none } := by
  unfold Filing.endAttempt
  dsimp only
  rw [hb]
  dsimp only
  rw [Filing.mark_doc, Filing.setChan_doc, Filing.doc_setRecipient]

theorem Filing.endAttempt_doc_ne (hb : (f.chan c).bound = some (k, i)) {j : Nat} (hj : j ≠ k) :
    (f.endAttempt c u).doc j = f.doc j := by
  unfold Filing.endAttempt
  dsimp only
  rw [hb]
  dsimp only
  rw [Filing.mark_doc, Filing.setChan_doc, Filing.doc_setRecipient_ne _ _ hj]

theorem Filing.endAttempt_pages : (f.endAttempt c u).dir.pages = f.dir.pages ∧
    (f.endAttempt c u).dir.freePages = f.dir.freePages ∧ (f.endAttempt c u).dir.withheld = f.dir.withheld := by
  unfold Filing.endAttempt
  dsimp only
  split <;> exact ⟨rfl, rfl, rfl⟩

/-- The attempt ended, its RETRY entry placed. -/
def Filing.retryPlaced (c k i : Nat) (f : Filing) : Filing :=
  (f.endAttempt c fun r => { r with
      attempts := ((f.doc k).recipient i).attempts + 1, state := .retryWait
      retryDue := some (f.now + ticks (backoff f.monitors.policy.retryBase (((f.doc k).recipient i).attempts + 1))) }).place
    { kind := .retry i, slot := k, gen := (f.doc k).gen
      due := f.now + ticks (backoff f.monitors.policy.retryBase (((f.doc k).recipient i).attempts + 1)) }

theorem Filing.failAttempt_retries (hb : (f.chan c).bound = some (k, i)) (ha : ((f.doc k).recipient i).attempts < 4) :
    f.failAttempt c = (f.retryPlaced c k i).raise .recipientRetry (some (f.docId k)) (.channel c) 0
      [argNat (f.docId k), packWord [(0, 8, i), (8, 8, ((f.doc k).recipient i).attempts + 1)],
       f.now + ticks (backoff f.monitors.policy.retryBase (((f.doc k).recipient i).attempts + 1)),
       argNat ((f.doc k).recipient i).nextPage] := by
  have hno : ¬ Config.maxAttempts ≤ ((f.doc k).recipient i).attempts + 1 := by simp only [Config.maxAttempts]; omega
  unfold Filing.failAttempt
  rw [hb]
  dsimp only
  rw [if_neg hno]
  rfl

/-- The attempt ended for good. -/
def Filing.attemptFailed (c k i : Nat) (f : Filing) : Filing :=
  (f.endAttempt c fun r => { r with attempts := ((f.doc k).recipient i).attempts + 1, state := .failed }).raise
    .recipientFailed (some (f.docId k)) (.channel c) 0
      [argNat (f.docId k), packWord [(0, 8, i), (8, 8, ((f.doc k).recipient i).attempts + 1)], 0,
       argNat ((f.doc k).recipient i).nextPage]

theorem Filing.failAttempt_fails (hb : (f.chan c).bound = some (k, i)) (ha : 4 ≤ ((f.doc k).recipient i).attempts) :
    f.failAttempt c = (f.attemptFailed c k i).checkRelease k := by
  have hyes : Config.maxAttempts ≤ ((f.doc k).recipient i).attempts + 1 := by simp only [Config.maxAttempts]; omega
  unfold Filing.failAttempt
  rw [hb]
  dsimp only
  rw [if_pos hyes]
  rfl

/-- The document, pages, blocks and deadlines of a failed attempt, as the check of release finds them. -/
theorem Filing.attemptFailed_sameDoc (hb : (f.chan c).bound = some (k, i)) (a : base.sameDoc k f) :
    base.sameDoc k (f.attemptFailed c k i) := by
  have hdoc : (f.attemptFailed c k i).doc k = { f.doc k with recipients := ((f.attemptFailed c k i).doc k).recipients } := by
    rw [Filing.attemptFailed, Filing.raise_doc, Filing.endAttempt_of_bound hb]
    rfl
  obtain ⟨hpages, hfree, hheld⟩ := Filing.endAttempt_pages (f := f) (c := c)
    (u := fun r => { r with attempts := ((f.doc k).recipient i).attempts + 1, state := .failed })
  exact {
    acts := Filing.acts.raise (a.acts.endAttempt _ _) trivial _ _
    doc := hdoc.trans (by rw [a.doc])
    pages := by rw [Filing.attemptFailed, Filing.raise_dir, hpages, a.pages]
    freePages := by rw [Filing.attemptFailed, Filing.raise_dir, hfree, a.freePages]
    withheld := by rw [Filing.attemptFailed, Filing.raise_dir, hheld, a.withheld]
    blocks := by rw [Filing.attemptFailed, Filing.raise_blocks, Filing.endAttempt_blocks, a.blocks]
    boxes := by rw [Filing.attemptFailed, Filing.raise_boxes, Filing.endAttempt_boxes, a.boxes]
    deadlines := by rw [Filing.attemptFailed, Filing.raise_clock, Filing.endAttempt_clock, a.deadlines] }

theorem Filing.sameDoc_reportFault (k : Nat) (f : Filing) (c : Nat) (m : Monitor) (w : Word) :
    f.sameDoc k (f.reportFault c m w) where
  acts := Filing.acts.reportFault .refl (fun _ _ => trivial) c m w
  doc := by rw [Filing.reportFault_doc]
  pages := by rw [Filing.reportFault_dir]
  freePages := by rw [Filing.reportFault_dir]
  withheld := by rw [Filing.reportFault_dir]
  blocks := Filing.reportFault_blocks ..
  boxes := Filing.reportFault_boxes ..
  deadlines := by rw [Filing.reportFault_clock]

/-- Release is checked: the document goes, or nothing changes (R98). -/
theorem Filing.checkRelease_of_loose (hl : (f.doc k).loose) (hb : f.bound (f.docId k) = false) :
    f.checkRelease k = f.releaseDoc false k := if_pos (Filing.releasable_iff.mpr ⟨hl, hb⟩)

theorem Filing.checkRelease_of_not (h : ¬ ((f.doc k).loose ∧ f.bound (f.docId k) = false)) : f.checkRelease k = f :=
  if_neg (mt Filing.releasable_iff.mp h)

theorem Filing.checkRelease_doc_ne {j : Nat} (hj : j ≠ k) : (f.checkRelease k).doc j = f.doc j := by
  unfold Filing.checkRelease
  split_ifs
  · rw [Filing.releaseDoc_loud_eq, Filing.raise_doc, Filing.releaseDoc_quiet_doc_ne _ _ hj]
  · rfl

end

/-! ## The events -/

theorem State.channelEvent_of_expired {s : State} {st : ChannelState} {act : Filing → Filing} (h1 : 1 ≤ c) (h2 : c ≤ 24)
    (hst : (s.filing.chan c).state = st) (ht : (s.filing.chan c).timer = some 0) :
    s.channelEvent st c act = .next { s with filing := act s.filing } := by
  have hc : isChannel c = true := by simp [isChannel, Config.channelCount, h1, h2]
  have he : s.filing.expired st c = true := by simp [Filing.expired, hst, ht]
  rw [State.channelEvent, if_pos hc, if_pos he]

section
variable {d p : Nat}

/-- A stall expiry (R53): the page closed forced, the fault, the document's close. -/
theorem Filing.stallExpiry_spec (hst : (f.chan c).state = .page) (hp : (f.chan c).openPage = some p)
    (hd : (f.chan c).doc = some d) : f.expiryEnded c .stall (f.stallExpiry c) ∧
      f.pageClosed (f.stallExpiry c) c p (slotOf d) (f.chan c).estimate true true ∧
      f.docClosed (f.stallExpiry c) c (slotOf d) .stalled ∧ ((f.stallExpiry c).chan c).doc = none ∧
      ((f.stallExpiry c).chan c).openPage = none := by
  set g := f.closeOpenPage c (f.chan c).estimate true true with hg
  have hchan : g.chan c = { f.chan c with map := [], mark := none, openPage := none } :=
    Filing.closeOpenPage_chan _ _ _ _ hp hd
  have hclosed : f.pageClosed g c p (slotOf d) (f.chan c).estimate true true := Filing.closeOpenPage_pageClosed _ _ _ hd hp
  have hready : f.atClose c (slotOf d) g := Filing.atClose_closeOpenPage hd hp _ _ _
  have hgd : (g.chan c).doc = some d := by rw [hchan]; exact hd
  have hidle : (g.chan c).state ≠ .idle := by rw [hchan]; simp [hst]
  have hdiscard : (g.chan c).state ≠ .discard := by rw [hchan]; simp [hst]
  have hfault := Filing.reportFault_chan_of_expiry (m := .stall) (.inl rfl) hidle hdiscard 0
  have hfd : ((g.reportFault c .stall 0).chan c).doc = some d := by rw [hfault]; exact hgd
  obtain ⟨hend, hendc⟩ := Filing.expiryEnded_closeCall (m := .stall) (.inl rfl) hidle hdiscard hgd 0 .stalled
  have hexp : f.stallExpiry c = (g.reportFault c .stall 0).closeCall c .stalled false := rfl
  rw [hexp]
  refine ⟨hend.of_same (fun e he => Filing.closeOpenPage_chan_ne _ _ _ _ he) (by rw [hchan]) (by rw [hchan])
    hready.acts.policy, (hclosed.reportFault c .stall 0).closeCall hfd (hready.reportFault c .stall 0).pageCount _,
    (hready.reportFault c .stall 0).closeCall hfd _ _, ?_, ?_⟩
  · rw [hendc]
  · rw [hendc, hfault, hchan]

/-- A gap expiry (R53): the fault, the document's close. -/
theorem Filing.gapExpiry_spec (hst : (f.chan c).state = .gap) (hd : (f.chan c).doc = some d) :
    f.expiryEnded c .gap (f.gapExpiry c) ∧ f.docClosed (f.gapExpiry c) c (slotOf d) .gapExpired ∧
      ((f.gapExpiry c).chan c).doc = none := by
  have hidle : (f.chan c).state ≠ .idle := by simp [hst]
  have hdiscard : (f.chan c).state ≠ .discard := by simp [hst]
  have hfd : ((f.reportFault c .gap 0).chan c).doc = some d := by
    rw [Filing.reportFault_chan_of_expiry (.inr (.inl rfl)) hidle hdiscard]; exact hd
  obtain ⟨hend, hendc⟩ := Filing.expiryEnded_closeCall (m := .gap) (.inr (.inl rfl)) hidle hdiscard hd 0 .gapExpired
  exact ⟨hend, ((f.atClose_refl c (slotOf d)).reportFault c .gap 0).closeCall hfd _ _, by rw [Filing.gapExpiry, hendc]⟩

end

section
variable {k i : Nat}

/-- An attempt ended by a confirm timeout leaves the channel free (R113, R124). -/
theorem Filing.expiryEnded_endAttempt (hst : (f.chan c).state = .send) (w : Word) (u : Recipient → Recipient)
    (hchan : ∀ e, g.chan e = ((f.reportFault c .confirm w).endAttempt c u).chan e) :
    f.expiryEnded c .confirm g ∧ (g.chan c).bound = none := by
  have hidle : (f.chan c).state ≠ .idle := by simp [hst]
  have hdiscard : (f.chan c).state ≠ .discard := by simp [hst]
  have hfault := Filing.reportFault_chan_of_expiry (m := .confirm) (.inr (.inr rfl)) hidle hdiscard w
  have hend := (hchan c).trans (Filing.endAttempt_chan _ c u)
  refine ⟨Filing.expiryEnded_of_chan (x := (f.reportFault c .confirm w).chan c) (fun e he => ?_) (by rw [hfault])
    (by rw [hfault]) (by rw [hend]) (by rw [hend]) (by rw [hend]) (by rw [hend]), by rw [hend]⟩
  rw [hchan, Filing.endAttempt_chan_ne _ _ he, Filing.reportFault_chan_ne _ _ _ he]

theorem Filing.reportFault_bound (hst : (f.chan c).state = .send) (hb : (f.chan c).bound = some (k, i)) (w : Word) :
    ((f.reportFault c .confirm w).chan c).bound = some (k, i) := by
  rw [Filing.reportFault_chan_of_expiry (.inr (.inr rfl)) (by simp [hst]) (by simp [hst])]
  exact hb

theorem Filing.confirmTimeout_eq (hb : (f.chan c).bound = some (k, i)) :
    f.confirmTimeout c = (f.reportFault c .confirm (argNat i)).failAttempt c := by
  rw [Filing.confirmTimeout, hb]

/-- A confirm timeout below the fifth attempt (R122, R124): RETRY_WAIT, the RETRY entry, RECIPIENT_RETRY. -/
theorem Filing.confirmTimeout_retries (hst : (f.chan c).state = .send) (hb : (f.chan c).bound = some (k, i))
    (ha : ((f.doc k).recipient i).attempts < 4) :
    let r := (f.doc k).recipient i
    let dueAt := f.now + ticks (backoff f.monitors.policy.retryBase (r.attempts + 1))
    f.expiryEnded c .confirm (f.confirmTimeout c) ∧ ((f.confirmTimeout c).chan c).bound = none ∧
      ((f.confirmTimeout c).doc k).recipient i =
        { r with attempts := r.attempts + 1, state := .retryWait, retryDue := some dueAt, channel := none } ∧
      (∀ j, j ≠ k → (f.confirmTimeout c).doc j = f.doc j) ∧
      (f.confirmTimeout c).clock.deadlines = placeDeadline f.now
        { kind := .retry i, slot := k, gen := (f.doc k).gen, due := dueAt } f.clock.deadlines ∧
      f.tells (f.confirmTimeout c) .recipientRetry (some (f.docId k)) (.channel c) 0
        [argNat (f.docId k), packWord [(0, 8, i), (8, 8, r.attempts + 1)], dueAt, argNat r.nextPage] := by
  intro r dueAt
  have hdoc (j : Nat) : (f.reportFault c .confirm (argNat i)).doc j = f.doc j := Filing.reportFault_doc ..
  have hbound := Filing.reportFault_bound hst hb (argNat i)
  have hacts : f.acts (fun _ => True) (f.reportFault c .confirm (argNat i)) :=
    Filing.acts.reportFault .refl (fun _ _ => trivial) _ _ _
  have hid : (f.reportFault c .confirm (argNat i)).docId k = f.docId k := by rw [Filing.docId, hdoc, Filing.docId]
  have hfail := Filing.failAttempt_retries hbound (by rw [hdoc]; exact ha)
  rw [hid, hdoc, hacts.now, hacts.policy] at hfail
  rw [Filing.confirmTimeout_eq hb, hfail]
  obtain ⟨hend, hnone⟩ := Filing.expiryEnded_endAttempt hst (argNat i) (fun r => { r with
      attempts := (((f.reportFault c .confirm (argNat i)).doc k).recipient i).attempts + 1, state := .retryWait
      retryDue := some ((f.reportFault c .confirm (argNat i)).now + ticks (backoff
        (f.reportFault c .confirm (argNat i)).monitors.policy.retryBase
        ((((f.reportFault c .confirm (argNat i)).doc k).recipient i).attempts + 1))) })
    (g := ((f.reportFault c .confirm (argNat i)).retryPlaced c k i).raise .recipientRetry (some (f.docId k)) (.channel c) 0
      [argNat (f.docId k), packWord [(0, 8, i), (8, 8, r.attempts + 1)], dueAt, argNat r.nextPage])
    fun e => Filing.raise_chan ..
  refine ⟨hend, hnone, ?_, fun j hj => ?_, ?_, ?_⟩
  · rw [Filing.raise_doc, Filing.retryPlaced, Filing.place_doc, Filing.endAttempt_of_bound hbound,
      Doc.recipient_setRecipient, hdoc, hacts.now, hacts.policy]
  · rw [Filing.raise_doc, Filing.retryPlaced, Filing.place_doc, Filing.endAttempt_doc_ne hbound hj, hdoc]
  · rw [Filing.raise_clock, Filing.retryPlaced, Filing.place]
    dsimp only
    rw [Filing.endAttempt_clock, Filing.endAttempt_now, Filing.reportFault_clock, hdoc, hacts.now, hacts.policy]
  · exact Filing.acts.tells_raise ((hacts.endAttempt c _).place _)

/-- A confirm timeout at the fifth attempt (R121, R124): FAILED, RECIPIENT_FAILED, and the check of release. -/
theorem Filing.confirmTimeout_fails (hst : (f.chan c).state = .send) (hb : (f.chan c).bound = some (k, i))
    (ha : 4 ≤ ((f.doc k).recipient i).attempts) :
    let r := (f.doc k).recipient i
    let d := (f.doc k).setRecipient i { r with attempts := r.attempts + 1, state := .failed, channel := none }
    let goes : Prop := d.loose ∧ f.bound (f.docId k) = false
    f.expiryEnded c .confirm (f.confirmTimeout c) ∧ ((f.confirmTimeout c).chan c).bound = none ∧
      (∀ j, j ≠ k → (f.confirmTimeout c).doc j = f.doc j) ∧
      (goes → f.docReleased (f.confirmTimeout c) k) ∧ (¬ goes → (f.confirmTimeout c).doc k = d) ∧
      f.tells (f.confirmTimeout c) .recipientFailed (some (f.docId k)) (.channel c) 0
        [argNat (f.docId k), packWord [(0, 8, i), (8, 8, r.attempts + 1)], 0, argNat r.nextPage] := by
  intro r d goes
  set x := f.reportFault c .confirm (argNat i) with hx
  have hdoc (j : Nat) : x.doc j = f.doc j := Filing.reportFault_doc ..
  have hbound := Filing.reportFault_bound hst hb (argNat i)
  have hid : x.docId k = f.docId k := by rw [Filing.docId, hdoc, Filing.docId]
  have hfail := Filing.failAttempt_fails hbound (by rw [hdoc]; exact ha)
  rw [Filing.confirmTimeout_eq hb, hfail]
  have hsame : f.sameDoc k (x.attemptFailed c k i) :=
    Filing.attemptFailed_sameDoc hbound (Filing.sameDoc_reportFault k f c .confirm (argNat i))
  have hd : (x.attemptFailed c k i).doc k = d := by
    rw [Filing.attemptFailed, Filing.raise_doc, Filing.endAttempt_of_bound hbound, hdoc]
  have hbindings : (x.attemptFailed c k i).bound (f.docId k) = f.bound (f.docId k) := by
    rw [Filing.bound, Filing.attemptFailed, Filing.raise_bindings, Filing.endAttempt_bindings, hx,
      Filing.reportFault_bindings, Filing.bound]
  have hgoes : goes ↔ ((x.attemptFailed c k i).doc k).loose ∧
      (x.attemptFailed c k i).bound ((x.attemptFailed c k i).docId k) = false := by
    rw [hd, hsame.docId, hbindings]
  have htold : f.tells (x.attemptFailed c k i) .recipientFailed (some (f.docId k)) (.channel c) 0
      [argNat (f.docId k), packWord [(0, 8, i), (8, 8, r.attempts + 1)], 0, argNat r.nextPage] := by
    have h : f.tells (x.attemptFailed c k i) .recipientFailed (some (x.docId k)) (.channel c) 0
        [argNat (x.docId k), packWord [(0, 8, i), (8, 8, ((x.doc k).recipient i).attempts + 1)], 0,
          argNat ((x.doc k).recipient i).nextPage] :=
      Filing.acts.tells_raise ((Filing.sameDoc_reportFault k f c .confirm (argNat i)).acts.endAttempt c _)
    rwa [hid, hdoc] at h
  have hlater : (x.attemptFailed c k i).acts (fun q => q.kind ≠ .recipientFailed)
      ((x.attemptFailed c k i).checkRelease k) :=
    Filing.acts.checkRelease .refl (fun q hq => by rcases hq with h | h | h <;> simp [h]) (fun _ => by simp) k
  obtain ⟨hend, hnone⟩ := Filing.expiryEnded_endAttempt hst (argNat i)
    (fun r => { r with attempts := ((x.doc k).recipient i).attempts + 1, state := .failed })
    (g := (x.attemptFailed c k i).checkRelease k) fun e =>
      (Filing.checkRelease_chan _ k e).trans (Filing.raise_chan ..)
  refine ⟨hend, hnone, fun j hj => ?_, fun h => ?_, fun h => ?_, htold.later hlater (by simp)⟩
  · rw [Filing.checkRelease_doc_ne hj, Filing.attemptFailed, Filing.raise_doc, Filing.endAttempt_doc_ne hbound hj, hdoc]
  · rw [Filing.checkRelease_of_loose (hgoes.mp h).1 (hgoes.mp h).2]
    exact hsame.docReleased
  · rw [Filing.checkRelease_of_not (mt hgoes.mpr h), hd]

end

end

end Sys2Proof.Machine

open Sys2Proof Sys2Proof.Machine

/-- Settles O58: each event acts at once on an expired timer; what it does stands above, by channel state. -/
theorem channelExpiriesEndCalls : Obligations.ChannelExpiriesEndCalls := by
  intro s c h1 h24 ht ch pol ended
  refine ⟨fun p d hst hp hd => ?_, fun d hst hd => ?_, fun k i hst hb ha => ?_, fun k i hst hb ha => ?_⟩
  · obtain ⟨hend, hpage, hdoc, hnone, hopen⟩ := Filing.stallExpiry_spec hst hp hd
    exact ⟨_, State.channelEvent_of_expired h1 h24 hst ht, ⟨rfl, rfl, hend⟩, hpage, hdoc, hnone, hopen⟩
  · obtain ⟨hend, hdoc, hnone⟩ := Filing.gapExpiry_spec hst hd
    exact ⟨_, State.channelEvent_of_expired h1 h24 hst ht, ⟨rfl, rfl, hend⟩, hdoc, hnone⟩
  · obtain ⟨hend, hnone, hrest⟩ := Filing.confirmTimeout_retries hst hb ha
    exact ⟨_, State.channelEvent_of_expired h1 h24 hst ht, ⟨rfl, rfl, hend⟩, hnone, hrest⟩
  · obtain ⟨hend, hnone, hothers, hgoes, hstays, htold⟩ := Filing.confirmTimeout_fails hst hb ha
    refine ⟨_, State.channelEvent_of_expired h1 h24 hst ht, ⟨rfl, rfl, hend⟩, hnone, hothers,
      fun ⟨hstate, hhold, hexp, hlive, hfree⟩ => hgoes ⟨⟨hstate, hhold, hexp, hlive⟩, hfree⟩, fun hno => hstays ?_, htold⟩
    rintro ⟨⟨hstate, hhold, hexp, hlive⟩, hfree⟩
    exact hno ⟨hstate, hhold, hexp, hlive, hfree⟩

end

section
/-! PROOFS. Data writes in PAGE: landing, allocation, and the LOW and OVER events of a grant (R22, R45, R66 to R69, R171). -/

namespace Sys2Proof.Machine

/-! ## Latches -/

theorem latchBit_getLsbD {m : Monitor} {i : Nat} (hi : i < 10) : (latchBit m).getLsbD i = decide (i = m.code) := by
  rw [latchBit, BitVec.getLsbD_ofNat, Nat.testBit_two_pow, decide_eq_true hi, Bool.true_and]
  exact decide_eq_decide.mpr eq_comm

/-- The latches after an event that sets that of one monitor where P holds, and none elsewhere. -/
theorem latched_iff {L L' : BitVec 10} {m : Monitor} {P : Prop} {i : Nat} (hset : P → L' = L ||| latchBit m)
    (hkeep : ¬ P → L' = L) (hi : i < 10) : L'.getLsbD i = true ↔ L.getLsbD i = true ∨ (i = m.code ∧ P) := by
  by_cases hP : P
  · rw [hset hP, BitVec.getLsbD_or, Bool.or_eq_true, latchBit_getLsbD hi, decide_eq_true_eq, and_iff_left hP]
  · rw [hkeep hP]
    exact ⟨.inl, fun h => h.elim id fun h => absurd h.2 hP⟩

section
variable {f g : Filing} {K : NoticeKey → Prop}

/-- The latch set, and an empty capture filled. -/
def Filing.latched (e : LatchEvent) (f : Filing) : Filing :=
  { f with monitors := { f.monitors with latches := f.monitors.latches ||| latchBit e.monitor
                                         capture := f.monitors.capture.or (some (e.capture f.now)) } }

/-- A latch event that is not masked, its notices spelled out (R168, R171, R173). -/
theorem Filing.latch_of_unmasked {e : LatchEvent} (h : f.masked e.monitor = false) :
    ∃ x, f.latch e = (x.raiseFault e).mark .status ∧ f.acts (fun q => q.kind = .storeLow) x ∧
      (e.monitor = .low → ∃ y : Filing, y.ring = f.ring ∧ y.now = f.now ∧ x = y.raiseStoreLow ∧ y.freeCount = f.freeCount ∧
        y.monitors.policy = f.monitors.policy) := by
  have hset : f.acts (fun q => q.kind = .storeLow) (f.latched e) := Filing.acts.tables .refl rfl rfl rfl rfl rfl
  have hno : ¬ f.masked e.monitor = true := by simp [h]
  unfold Filing.latch
  rw [if_neg hno]
  dsimp only
  split_ifs with hl
  · exact ⟨_, rfl, hset.raise (by rfl) _ _, fun _ => ⟨f.latched e, rfl, rfl, rfl, rfl, rfl⟩⟩
  · exact ⟨_, rfl, hset, fun h => absurd h hl⟩

/-- FAULT is told of a latch event that is not masked. -/
theorem Filing.acts.latch_tells (a : f.acts K g) {e : LatchEvent} (h : g.masked e.monitor = false) :
    f.tells (g.latch e) .fault none (.monitor e.monitor) e.monitor.code
      [packWord [(0, 8, small e.channel), (8, 8, small e.master)], argDoc e.doc, e.detail] := by
  obtain ⟨x, hx, ax, -⟩ := g.latch_of_unmasked h
  rw [hx]
  exact a.tells (ax.tells_raise.later (K := fun _ => False) (.mark .refl _) fun h => h)

/-- STORE_LOW and FAULT are told of a LOW event that is not masked (R171, R173). -/
theorem Filing.acts.latchLow_tells (a : f.acts K g) (h : g.masked .low = false) :
    f.lowTold g.latchLow g.freeCount g.monitors.policy.floor := by
  refine ⟨?_, a.latch_tells (e := ⟨.low, none, none, none, _⟩) h⟩
  obtain ⟨x, hx, -, hlow⟩ := g.latch_of_unmasked (e := ⟨.low, none, none, none, _⟩) h
  obtain ⟨y, hring, hnow, hy, hfree, hpolicy⟩ := hlow rfl
  have htold : y.tells y.raiseStoreLow .storeLow none .none 0 [argNat y.freeCount, argNat y.monitors.policy.floor] :=
    y.tells_raise_self ..
  have hg : g.tells y.raiseStoreLow .storeLow none .none 0 [argNat y.freeCount, argNat y.monitors.policy.floor] :=
    Filing.tells_mono hnow.symm (by rw [hring]) (by rw [hring]) htold
  rw [hfree, hpolicy, ← hy] at hg
  rw [Filing.latchLow, hx]
  exact a.tells (hg.later (K := fun q => q.kind = .fault) (.mark (.raise .refl (by rfl) _ _) _) (by simp))

/-! ## The OVER evaluation of a grant (R67) -/

/-- What an empty first-fault capture takes of an OVER latch event (R169). -/
def overCapture (m : Nat) (now : Time) : Capture :=
  { monitor := .overQuota, channel := none, master := none, doc := none, detail := argNat m, time := now }

section
variable {m : Nat} (hrun : f.running = true)
include hrun

theorem Filing.evalOver_of_borrow (hq : (f.mailbox m).quota < (f.mailbox m).usage)
    (ho : (f.mailbox m).overQuota = false) : f.evalOver m =
      ((f.setBox m { f.mailbox m with overQuota := true }).raise .mailboxOver none (.mailbox m) 0
        [argNat m, argNat (f.mailbox m).quota, argNat (f.mailbox m).usage]).latch
        { monitor := .overQuota, channel := none, master := none, doc := none, detail := argNat m } := by
  simp [Filing.evalOver, hrun, hq, ho]

theorem Filing.evalOver_overQuota : ((f.evalOver m).mailbox m).overQuota =
    if (f.mailbox m).quota < (f.mailbox m).usage then true
    else if (f.mailbox m).usage < (f.mailbox m).quota then false else (f.mailbox m).overQuota := by
  unfold Filing.evalOver
  simp only [hrun]
  by_cases hq : (f.mailbox m).quota < (f.mailbox m).usage
  · have hn : ¬ (f.mailbox m).usage < (f.mailbox m).quota := by omega
    cases ho : (f.mailbox m).overQuota <;> simp [hq, hn, ho]
  · by_cases hu : (f.mailbox m).usage < (f.mailbox m).quota
    · cases ho : (f.mailbox m).overQuota <;> simp [hq, hu, ho]
    · simp [hq, hu]

end

theorem Filing.evalOver_of_not_borrow {m : Nat}
    (h : ¬ ((f.mailbox m).overQuota = false ∧ (f.mailbox m).quota < (f.mailbox m).usage)) :
    (f.evalOver m).ring = f.ring ∧ (f.evalOver m).monitors = f.monitors := by
  have hno : ¬ (decide ((f.mailbox m).quota < (f.mailbox m).usage) && !(f.mailbox m).overQuota) = true := by
    simp only [Bool.and_eq_true, decide_eq_true_eq, Bool.not_eq_true']
    exact fun hc => h ⟨hc.2, hc.1⟩
  unfold Filing.evalOver
  dsimp only
  rw [if_neg hno]
  split_ifs <;> exact ⟨rfl, rfl⟩

/-- What the usage of a grant does to notices, latches and capture (R66, R67): nothing, or the OVER event. -/
theorem Filing.setUsage_spec {m u : Nat} (hrun : f.running = true) :
    let b := f.mailbox m
    let borrows : Prop := b.overQuota = false ∧ b.quota < u
    let warned : Prop := borrows ∧ f.masked .overQuota = false
    ((f.setUsage m u).mailbox m).overQuota = (if b.quota < u then true else if u < b.quota then false else b.overQuota) ∧
    (borrows → f.tells (f.setUsage m u) .mailboxOver none (.mailbox m) 0 [argNat m, argNat b.quota, argNat u]) ∧
    (warned → f.tells (f.setUsage m u) .fault none (.monitor .overQuota) 5
      [packWord [(0, 8, 0xFF), (8, 8, 0xFF)], 0xFFFFFFFF#32, argNat m]) ∧
    (warned → (f.setUsage m u).monitors.latches = f.monitors.latches ||| latchBit .overQuota ∧
      (f.setUsage m u).monitors.capture = f.monitors.capture.or (some (overCapture m f.now))) ∧
    (¬ warned → (f.setUsage m u).monitors = f.monitors) ∧ (¬ borrows → (f.setUsage m u).ring = f.ring) := by
  intro b borrows warned
  set w := (f.setBox m { b with usage := u }).mark (.mailbox m) with hw
  have hset : f.setUsage m u = w.evalOver m := rfl
  have hbox : w.mailbox m = { b with usage := u } := by rw [hw, Filing.mark_mailbox, Filing.mailbox_setBox]
  have hwrun : w.running = true := hrun
  have hacts : f.acts (fun q => q.kind = .mailboxOver) w := (Filing.acts.setBox .refl _ _).mark _
  rw [hset]
  have hover := w.evalOver_overQuota (m := m) hwrun
  rw [hbox] at hover
  by_cases hb : borrows
  · have he := w.evalOver_of_borrow (m := m) hwrun (by rw [hbox]; exact hb.2) (by rw [hbox]; exact hb.1)
    rw [hbox] at he
    set v := (w.setBox m { b with usage := u, overQuota := true }).raise .mailboxOver none (.mailbox m) 0
      [argNat m, argNat b.quota, argNat u] with hv
    have hev : w.evalOver m =
      v.latch { monitor := .overQuota, channel := none, master := none, doc := none, detail := argNat m } := he
    have av : f.acts (fun q => q.kind = .mailboxOver) v := Filing.acts.raise (hacts.setBox _ _) (by rfl) _ _
    have htold : f.tells v .mailboxOver none (.mailbox m) 0 [argNat m, argNat b.quota, argNat u] :=
      Filing.acts.tells_raise (hacts.setBox _ _)
    have hmask : v.masked .overQuota = f.masked .overQuota := by rw [Filing.masked, av.policy, Filing.masked]
    have hmon : v.monitors = f.monitors := by rw [hv, Filing.raise_monitors]; rfl
    have hnow : v.now = f.now := av.now
    have hlatch := v.latch_latches { monitor := .overQuota, channel := none, master := none, doc := none, detail := argNat m }
    have hcap := v.latch_capture { monitor := .overQuota, channel := none, master := none, doc := none, detail := argNat m }
    rw [hmask, hmon] at hlatch hcap
    rw [hnow] at hcap
    refine ⟨hover, fun _ => ?_, fun h => ?_, fun h => ?_, fun h => ?_, fun h => absurd hb h⟩
    · rw [hev]
      exact htold.later (K := fun q => q.kind ≠ .mailboxOver)
        (Filing.acts.latch .refl _ (by simp) fun h => by simp) (by simp)
    · rw [hev]
      exact av.latch_tells (hmask.trans h.2)
    · rw [hev, hlatch, hcap, h.2]
      exact ⟨rfl, rfl⟩
    · have hm : v.masked .overQuota = true := by
        rw [hmask]
        by_contra hf
        exact h ⟨hb, Bool.eq_false_iff.mpr hf⟩
      rw [hev, Filing.latch, if_pos hm, hmon]
  · have hno := w.evalOver_of_not_borrow (m := m) (by rw [hbox]; exact hb)
    exact ⟨hover, fun h => absurd h hb, fun h => absurd h.1 hb, fun h => absurd h.1 hb, fun _ => hno.2, fun _ => hno.1⟩

/-! ## The free chain's head taken (R22, R171) -/

section
variable {n : Nat} {rest : List Nat}

/-- The free chain without its head, the fall of F reported. -/
def Filing.headTaken (rest : List Nat) (f : Filing) : Filing :=
  ({ f with blocks := { f.blocks with free := rest } } : Filing).freeChanged f.freeCount

/-- A fall of F from above the floor to it is a LOW event, and no other fall is. -/
theorem Filing.headTaken_spec (hf : f.blocks.free = n :: rest) :
    let floor := f.monitors.policy.floor
    let low : Prop := floor = rest.length ∧ f.masked .low = false
    (low → f.lowTold (f.headTaken rest) rest.length floor ∧
      (f.headTaken rest).monitors.latches = f.monitors.latches ||| latchBit .low ∧
      (f.headTaken rest).monitors.capture = f.monitors.capture.or (some (lowCapture rest.length floor f.now))) ∧
    (¬ low → (f.headTaken rest).monitors = f.monitors ∧ (f.headTaken rest).ring = f.ring) := by
  intro floor low
  set g := ({ f with blocks := { f.blocks with free := rest } } : Filing).mark .status with hg
  have hacts : f.acts (fun _ => False) g := by
    refine Filing.acts.mark ?_ _
    exact Filing.acts.tables .refl rfl rfl rfl rfl rfl
  have hcount : f.freeCount = rest.length + 1 := by rw [Filing.freeCount, hf, List.length_cons]
  have htaken : f.headTaken rest = if floor < rest.length + 1 ∧ rest.length ≤ floor then g.latchLow else g := by
    rw [Filing.headTaken, Filing.freeChanged, hcount]
    simp only [Bool.and_eq_true, decide_eq_true_eq]
    rfl
  have hlatch := g.latch_latches ⟨.low, none, none, none, packWord [(0, 16, rest.length), (16, 16, floor)]⟩
  have hcap := g.latch_capture ⟨.low, none, none, none, packWord [(0, 16, rest.length), (16, 16, floor)]⟩
  refine ⟨fun ⟨hfl, hm⟩ => ?_, fun hno => ?_⟩
  · have htold := hacts.latchLow_tells (show g.masked .low = false from hm)
    have hmask : g.masked .low = false := hm
    rw [htaken, if_pos (by omega)]
    rw [hmask] at hlatch hcap
    exact ⟨htold, hlatch, hcap⟩
  · rw [htaken]
    split_ifs with hc
    · have hm : g.masked .low = true := by
        by_contra hf
        exact hno ⟨by omega, Bool.eq_false_iff.mpr hf⟩
      rw [Filing.latchLow, Filing.latch, if_pos hm]
      exact ⟨rfl, rfl⟩
    · exact ⟨rfl, rfl⟩

theorem Filing.headTaken_acts (rest : List Nat) (f : Filing) :
    f.acts (fun q => q = ⟨.storeLow, none, .none⟩ ∨ q = ⟨.fault, none, .monitor .low⟩) (f.headTaken rest) := by
  have hmark : f.acts (fun q => q = ⟨.storeLow, none, .none⟩ ∨ q = ⟨.fault, none, .monitor .low⟩)
      (({ f with blocks := { f.blocks with free := rest } } : Filing).mark .status) := by
    refine Filing.acts.mark ?_ _
    exact Filing.acts.tables .refl rfl rfl rfl rfl rfl
  unfold Filing.headTaken Filing.freeChanged
  dsimp only
  split_ifs
  · exact hmark.latch _ (.inr rfl) fun _ => .inl rfl
  · exact hmark

/-- The events of a grant (R67, R68, R171): LOW and OVER told, latched and captured as they occur, and nothing else. -/
theorem Filing.grant_events {t : Filing} {m : Nat} (hrun : f.running = true) (hf : f.blocks.free = n :: rest)
    (hring : t.ring = ((f.setUsage m ((f.mailbox m).usage + 1)).headTaken rest).ring)
    (hmon : t.monitors = ((f.setUsage m ((f.mailbox m).usage + 1)).headTaken rest).monitors) :
    let b := f.mailbox m
    let mon := f.monitors
    let low : Prop := mon.policy.floor = rest.length ∧ mon.policy.masks.getLsbD 4 = false
    let borrows : Prop := b.overQuota = false ∧ b.quota < b.usage + 1
    let warned : Prop := borrows ∧ mon.policy.masks.getLsbD 5 = false
    (low → f.lowTold t rest.length mon.policy.floor) ∧
    (borrows → f.tells t .mailboxOver none (.mailbox m) 0 [argNat m, argNat b.quota, argNat (b.usage + 1)]) ∧
    (warned → f.tells t .fault none (.monitor .overQuota) 5
      [packWord [(0, 8, 0xFF), (8, 8, 0xFF)], 0xFFFFFFFF#32, argNat m]) ∧
    (∀ i, i < 10 → (t.monitors.latches.getLsbD i = true ↔
      mon.latches.getLsbD i = true ∨ (i = 4 ∧ low) ∨ (i = 5 ∧ warned))) ∧
    (warned → t.monitors.capture = mon.capture.or (some (overCapture m f.now))) ∧
    (¬ warned → low → t.monitors.capture = mon.capture.or (some (lowCapture rest.length mon.policy.floor f.now))) ∧
    (¬ warned → ¬ low → t.monitors.capture = mon.capture ∧ (¬ borrows → t.ring = f.ring)) := by
  intro b mon low borrows warned
  obtain ⟨-, hover, hfault, hlatched, hquiet, hsilent⟩ := f.setUsage_spec (m := m) (u := b.usage + 1) hrun
  set u := f.setUsage m (b.usage + 1) with hu
  have au : f.acts (fun _ => True) u := Filing.acts.setUsage .refl (fun _ _ => trivial) _ _
  have hmask : u.masked .low = f.masked .low := by rw [Filing.masked, au.policy, Filing.masked]
  obtain ⟨hlow, hnot⟩ := u.headTaken_spec (by rw [hu, Filing.setUsage_blocks]; exact hf)
  rw [au.policy, hmask] at hlow hnot
  rw [au.now] at hlow
  have hlater {kind : NoticeKind} {item : KeyItem} {code : Nat} {args : List Word}
      (h : f.tells u kind none item code args) (h1 : (⟨kind, none, item⟩ : NoticeKey) ≠ ⟨.storeLow, none, .none⟩)
      (h2 : (⟨kind, none, item⟩ : NoticeKey) ≠ ⟨.fault, none, .monitor .low⟩) : f.tells t kind none item code args :=
    Filing.tells_congr hring (h.later (u.headTaken_acts rest) fun h => h.elim h1 h2)
  refine ⟨fun h => ?_, fun h => hlater (hover h) (by simp) (by simp), fun h => hlater (hfault h) (by simp) (by simp),
    fun i hi => ?_, fun h => ?_, fun hno h => ?_, fun hno h => ⟨?_, fun hb => ?_⟩⟩
  · obtain ⟨h1, h2⟩ := (hlow h).1
    exact ⟨Filing.tells_congr hring (au.tells h1), Filing.tells_congr hring (au.tells h2)⟩
  · have hu5 := latched_iff (m := .overQuota) (fun hw => (hlatched hw).1) (fun hw => congrArg Monitors.latches (hquiet hw)) hi
    have hv4 := latched_iff (m := .low) (fun hl => (hlow hl).2.1) (fun hl => congrArg Monitors.latches (hnot hl).1) hi
    rw [hmon]
    exact hv4.trans ((or_congr_left hu5).trans (or_right_comm.trans or_assoc))
  · rw [hmon]
    by_cases hl : low
    · rw [(hlow hl).2.2, (hlatched h).2]
      cases mon.capture <;> rfl
    · rw [(hnot hl).1, (hlatched h).2]
  · rw [hmon, (hlow h).2.2, hquiet hno]
  · rw [hmon, (hnot h).1, hquiet hno]
  · rw [hring, (hnot h).2, hsilent hb]

/-- An allocation to a page whose chain does not hold the free chain's head (R22, R23). -/
theorem Filing.allocate_of_free {p j : Nat} (hf : f.blocks.free = n :: rest) (hn : n ∉ f.pageChain p) :
    ∃ g, f.allocate p j = some (g, n) ∧ g.ring = (f.headTaken rest).ring ∧ g.monitors = (f.headTaken rest).monitors ∧
      g.block n = { state := .landing, index := j, next := none } ∧ g.dirty (.block n) = false := by
  set x := ((f.headTaken rest).setBlock n { state := .landing, index := j, next := none }).unmark (.block n) with hx
  have hblock : x.block n = { state := .landing, index := j, next := none } := by
    rw [hx, Filing.unmark_block, Filing.block_setBlock]
  have hclean : x.dirty (.block n) = false := by
    rw [hx, Filing.unmark_dirty]
    exact Bool.and_false _
  unfold Filing.allocate
  rw [hf]
  dsimp only
  refine ⟨_, rfl, ?_⟩
  cases hl : (f.pageChain p).getLast? with
  | none => exact ⟨rfl, rfl, hblock, hclean⟩
  | some l =>
    have hne : n ≠ l := fun h => hn (h ▸ List.mem_of_getLast? hl)
    refine ⟨rfl, rfl, ?_, ?_⟩
    · have hset : ((x.setBlock l { x.block l with next := some n }).mark (.block l)).block n = x.block n := by
        rw [Filing.mark_block, Filing.block_setBlock_ne _ _ hne]
      exact hset.trans hblock
    · have hmark := Filing.mark_dirty_ne (x.setBlock l { x.block l with next := some n })
        (r := .block l) (q := .block n) (by simpa using hne)
      have hset : (x.setBlock l { x.block l with next := some n }).dirty (.block n) = x.dirty (.block n) := rfl
      rw [hset, hclean] at hmark
      exact hmark.trans (by simp)

end

/-! ## The write placed -/

theorem Filing.landed_dirty_ne {c p o w n : Nat} (h : f.dirty (.block n) = false) :
    (f.landed c p o w).dirty (.block n) = false := by
  unfold Filing.landed
  dsimp only
  rw [Filing.mark_dirty_ne _ (by simp), Filing.mark_dirty_ne _ (by simp)]
  have hset (x : Channel) : (f.setChan c x).dirty (.block n) = f.dirty (.block n) := rfl
  rw [hset, h]
  simp

theorem Filing.landed_chan (c p o w : Nat) : (f.landed c p o w).chan c =
    { f.chan c with mark := some (max ((f.chan c).mark.getD 0) (o + w - 1)), timer := some ((f.chan c).stallTime * 50) } := by
  unfold Filing.landed
  rw [Filing.mark_chan, Filing.mark_chan, Filing.chan_setChan]
  rfl

/-- The data write of a grant, behind its allocation: block total, map, mark and timer (R45, R69). -/
def Filing.granted (c k p o w n : Nat) (g : Filing) : Filing :=
  let f2 := (g.setDoc k { g.doc k with blockTotal := (g.doc k).blockTotal + 1 }).mark (.document k)
  (f2.setChan c { f2.chan c with map := Tbl.put (f2.chan c).map (o / 8192) n }).landed c p o w

theorem Filing.granted_dirty {c k p o w n : Nat} (h : g.dirty (.block n) = false) :
    (g.granted c k p o w n).dirty (.block n) = false := by
  refine Filing.landed_dirty_ne ?_
  have hmark := Filing.mark_dirty_ne (g.setDoc k { g.doc k with blockTotal := (g.doc k).blockTotal + 1 })
    (r := .document k) (q := .block n) (by simp)
  have hset (x : Doc) : (g.setDoc k x).dirty (.block n) = g.dirty (.block n) := rfl
  rw [hset, h] at hmark
  exact hmark.trans (by simp)

theorem Filing.granted_chan (c k p o w n : Nat) : (g.granted c k p o w n).chan c =
    { g.chan c with map := Tbl.put (g.chan c).map (o / 8192) n, mark := some (max ((g.chan c).mark.getD 0) (o + w - 1))
                    timer := some ((g.chan c).stallTime * 50) } := by
  unfold Filing.granted
  dsimp only
  rw [Filing.landed_chan, Filing.chan_setChan]
  rfl

theorem Filing.granted_doc (c k p o w n : Nat) : (g.granted c k p o w n).doc k =
    { g.doc k with blockTotal := (g.doc k).blockTotal + 1 } := by
  have h : (g.granted c k p o w n).doc k =
    (g.setDoc k { g.doc k with blockTotal := (g.doc k).blockTotal + 1 }).doc k := rfl
  rw [h, Filing.doc_setDoc]

theorem Filing.placeData_mapped {c p d o w n : Nat} (hp : (f.chan c).openPage = some p) (hd : (f.chan c).doc = some d)
    (hm : Tbl.find (f.chan c).map (o / 8192) = some n) : f.placeData c o w =
      { filing := f.landed c p o w, dest := some (n * 8192 + o % 8192), ahead := none } := by
  unfold Filing.placeData
  simp only [hp, hd, Config.blockBytes, hm]

theorem Filing.placeData_granted {c p d o w n : Nat} (hp : (f.chan c).openPage = some p) (hd : (f.chan c).doc = some d)
    (hm : Tbl.find (f.chan c).map (o / 8192) = none) (ha : f.admits (f.doc (slotOf d)).mailbox = true)
    (hg : (f.setUsage (f.doc (slotOf d)).mailbox ((f.mailbox (f.doc (slotOf d)).mailbox).usage + 1)).allocate p
      (o / 8192) = some (g, n)) : f.placeData c o w =
      { filing := g.granted c (slotOf d) p o w n, dest := some (n * 8192 + o % 8192), ahead := some n } := by
  unfold Filing.placeData
  simp only [hp, hd, Config.blockBytes, hm, ha, if_true, hg]
  rfl

/-- A data write drains as the Channel Controller places it. -/
theorem exec_dataWrite {s : State} {x : Staged} {c o : Nat} {r : Placed} (hdr : s.drains x = true)
    (hx : x.cls = .landing c o) (ho : o < 1048448) (hr : s.filing.dataWrite c o x.write.width.bytes = r) :
    exec .dataWrite s = .next (State.drained (r.dest.map .page) r.ahead { s with filing := r.filing }) := by
  have hrow : s.filing.drainRow x = .data := by simp [Filing.drainRow, hx, Config.dataAreaBytes, ho]
  subst hr
  show execDataWrite s = _
  rw [execDataWrite, State.drainAs_of_drains hdr hrow, hx]
  rfl

theorem Filing.dataWrite_of_page {c o w : Nat} (h : (f.chan c).state = .page) :
    f.dataWrite c o w = f.placeData c o w := by
  rw [Filing.dataWrite, h]

theorem Filing.dataWrite_discarded {c o w : Nat} (h : (f.chan c).state = .discard ∨ (f.chan c).state = .locked) :
    f.dataWrite c o w = Placed.discarded f := by
  rcases h with h | h <;> rw [Filing.dataWrite, h]

/-- The grant in full: usage with its OVER event, the free chain's head with its LOW event, document, map, mark and timer. -/
theorem Filing.placeData_spec {c o w p d n : Nat} {rest : List Nat}
    (hp : (f.chan c).openPage = some p) (hd : (f.chan c).doc = some d)
    (hm : Tbl.find (f.chan c).map (o / 8192) = none) (hf : f.blocks.free = n :: rest) (hn : n ∉ f.pageChain p)
    (ha : f.admits (f.doc (slotOf d)).mailbox = true) :
    ∃ g, f.placeData c o w =
        { filing := g.granted c (slotOf d) p o w n, dest := some (n * 8192 + o % 8192), ahead := some n } ∧
      (f.setUsage (f.doc (slotOf d)).mailbox ((f.mailbox (f.doc (slotOf d)).mailbox).usage + 1)).allocate p
        (o / 8192) = some (g, n) ∧
      g.ring = ((f.setUsage (f.doc (slotOf d)).mailbox ((f.mailbox (f.doc (slotOf d)).mailbox).usage + 1)).headTaken
        rest).ring ∧
      g.monitors = ((f.setUsage (f.doc (slotOf d)).mailbox
        ((f.mailbox (f.doc (slotOf d)).mailbox).usage + 1)).headTaken rest).monitors ∧
      g.block n = { state := .landing, index := o / 8192, next := none } ∧ g.dirty (.block n) = false := by
  set u := f.setUsage (f.doc (slotOf d)).mailbox ((f.mailbox (f.doc (slotOf d)).mailbox).usage + 1) with hu
  have hchain : u.pageChain p = f.pageChain p := Filing.pageChain_congr (Filing.setUsage_blocks ..) (Filing.setUsage_page ..)
  obtain ⟨g, hg, hrest⟩ := u.allocate_of_free (p := p) (j := o / 8192) (by rw [hu, Filing.setUsage_blocks, hf])
    (by rw [hchain]; exact hn)
  exact ⟨g, Filing.placeData_granted hp hd hm ha hg, hg, hrest⟩

end

end Sys2Proof.Machine

open Sys2Proof Sys2Proof.Machine

/-- Settles O32: a mapped index writes to its block, DISCARD and LOCKED drop the write, and an unmapped index takes the
free chain's head, where `Filing.placeData_spec` gives the grant in full and `Filing.grant_events` its events. -/
theorem dataWriteLandsOrAllocates : Obligations.DataWriteLandsOrAllocates := by
  refine ⟨fun s x c o hdr hx ho => ⟨fun p d n hst hp hd hm => ?_, fun hst => ?_⟩,
    fun s x c o p d n rest hdr hx ho hst hp hd hm hf hn hadm => ?_⟩
  · have hdata : s.filing.dataWrite c o x.write.width.bytes = _ :=
      (Filing.dataWrite_of_page hst).trans (Filing.placeData_mapped hp hd hm)
    refine ⟨_, exec_dataWrite hdr hx ho hdata, rfl, rfl, Filing.landed_chan .., fun e he => ?_, rfl, rfl, rfl,
      Filing.mark_dirty_of_dirty (Filing.mark_dirty ..), Filing.mark_dirty ..⟩
    exact Filing.chan_setChan_ne _ _ he
  · have hdata : s.filing.dataWrite c o x.write.width.bytes = _ := Filing.dataWrite_discarded hst
    refine ⟨_, exec_dataWrite hdr hx ho hdata, State.leaveQueue_queue _, State.leaveQueue_head _, State.leaveQueue_store _,
      fun hport => ?_⟩
    exact (congrArg State.filing (State.leaveQueue_of_idle (s := s) hport)).trans rfl
  · have hrun : s.filing.running = true := by
      rw [Filing.running, ((State.drains_iff s x).mp hdr).1]
      rfl
    have hadmits : s.filing.admits (s.filing.doc (slotOf d)).mailbox = true := by
      simp only [Filing.admits, Bool.and_eq_true, Bool.or_eq_true, decide_eq_true_eq]
      exact ⟨by simp [Filing.freeCount, hf], hadm⟩
    obtain ⟨g, hg, halloc, hring, hmon, hblock, hclean⟩ :=
      Filing.placeData_spec (w := x.write.width.bytes) hp hd hm hf hn hadmits
    obtain ⟨rest', hfree', hrest, hscrub, hpage, hdocs, hchannels, hboxes, -⟩ := Filing.allocate_some _ halloc
    rw [Filing.setUsage_blocks, hf, List.cons.injEq] at hfree'
    have hchan := Filing.granted_chan (g := g) c (slotOf d) p o x.write.width.bytes n
    have hgchan : g.chan c = s.filing.chan c := by
      rw [Filing.chan, hchannels, Filing.setUsage_channels, Filing.chan]
    have hgdoc : g.doc (slotOf d) = s.filing.doc (slotOf d) := by
      rw [Filing.doc, hdocs, Filing.setUsage_dir, Filing.doc]
    have hgbox (m : Nat) : g.mailbox m =
        (s.filing.setUsage (s.filing.doc (slotOf d)).mailbox
          ((s.filing.mailbox (s.filing.doc (slotOf d)).mailbox).usage + 1)).mailbox m := by
      exact congrArg (fun b : Boxes => (Tbl.find b.mailboxes m).getD Mailbox.fresh) hboxes
    rw [hgchan] at hchan
    refine ⟨_, exec_dataWrite hdr hx ho ((Filing.dataWrite_of_page hst).trans hg), rfl, rfl, hrest.trans hfree'.2.symm, ?_,
      hblock, Filing.granted_dirty hclean, ?_, ?_, ?_, ?_, fun j hj => ?_, ?_, ?_, ?_⟩
    · exact hscrub.trans (by rw [Filing.setUsage_blocks])
    · exact congrArg Page.count (hpage.trans (by rw [Filing.setUsage_page]))
    · exact (congrArg Doc.blockTotal (Filing.granted_doc (g := g) c (slotOf d) p o _ n)).trans (by rw [hgdoc])
    · exact (congrArg Mailbox.usage (hgbox _)).trans (Filing.setUsage_usage ..)
    · exact (congrArg (fun k : Channel => Tbl.find k.map (o / 8192)) hchan).trans (Tbl.find_put_self ..)
    · exact (congrArg (fun k : Channel => Tbl.find k.map j) hchan).trans (Tbl.find_put_ne _ _ hj)
    · exact congrArg Channel.timer hchan
    · exact (congrArg Mailbox.overQuota (hgbox _)).trans (s.filing.setUsage_spec hrun).1
    · exact Filing.grant_events hrun hf hring hmon

end

section
/-! PROOFS. The rebuild's closes (R25, R26, R48, R185): each LANDING page closed in its turn, the other pages left as they are. -/

namespace Sys2Proof.Machine

/-! ## Chains and sorted chains that stand -/

theorem followBlocks_congr {t u : Tbl BlockEntry} (n : Nat) (o : Option Nat)
    (h : ∀ b ∈ followBlocks t n o, (Tbl.find u b).getD BlockEntry.reserved = (Tbl.find t b).getD BlockEntry.reserved) :
    followBlocks u n o = followBlocks t n o := by
  induction n generalizing o with
  | zero => rfl
  | succ n ih =>
    cases o with
    | none => rfl
    | some b =>
      rw [followBlocks] at h
      rw [followBlocks, followBlocks, h b List.mem_cons_self, ih _ fun x hx => h x (List.mem_cons_of_mem _ hx)]

theorem insertBy_congr {α : Type} {key key' : α → Nat} {x : α} {xs : List α} (hx : key x = key' x)
    (h : ∀ y ∈ xs, key y = key' y) : insertBy key x xs = insertBy key' x xs := by
  induction xs with
  | nil => rfl
  | cons y ys ih =>
    rw [insertBy, insertBy, hx, h y List.mem_cons_self, ih fun z hz => h z (List.mem_cons_of_mem _ hz)]

theorem sortBy_congr {α : Type} {key key' : α → Nat} {xs : List α} (h : ∀ x ∈ xs, key x = key' x) :
    sortBy key xs = sortBy key' xs := by
  have hfold (acc : List α) (hacc : ∀ x ∈ acc, key x = key' x) :
      xs.foldl (fun acc x => insertBy key x acc) acc = xs.foldl (fun acc x => insertBy key' x acc) acc := by
    induction xs generalizing acc with
    | nil => rfl
    | cons x xs ih =>
      have hx := h x List.mem_cons_self
      rw [List.foldl_cons, List.foldl_cons, insertBy_congr hx hacc]
      refine ih (fun y hy => h y (List.mem_cons_of_mem _ hy)) _ fun y hy => ?_
      rcases List.mem_cons.mp ((insertBy_perm key' x acc).subset hy) with rfl | hy
      · exact hx
      · exact hacc y hy
  exact hfold [] fun _ hx => nomatch hx

section
variable {f g h : Filing} {p l : Nat}

/-- g holds page p as f does: its record and the entries of its blocks. -/
structure Filing.holdsPage (p : Nat) (f g : Filing) : Prop where
  page : g.page p = f.page p
  block : ∀ n ∈ f.pageChain p, g.block n = f.block n

section
variable (a : f.holdsPage p g)
include a

theorem Filing.holdsPage.chain : g.pageChain p = f.pageChain p := by
  rw [Filing.pageChain, a.page]
  exact followBlocks_congr _ _ a.block

theorem Filing.holdsPage.sorted : sortBy (fun n => (g.block n).index) (g.pageChain p) =
    sortBy (fun n => (f.block n).index) (f.pageChain p) := by
  rw [a.chain]
  exact sortBy_congr fun n hn => congrArg BlockEntry.index (a.block n hn)

theorem Filing.holdsPage.block_of_sorted {n : Nat} (hn : n ∈ sortBy (fun n => (f.block n).index) (f.pageChain p)) :
    g.block n = f.block n := a.block n ((sortBy_perm _ _).subset hn)

theorem Filing.holdsPage.keptBlocks : g.keptBlocks p l = f.keptBlocks p l := by
  rw [Filing.keptBlocks, a.sorted]
  exact List.filter_congr fun n hn => by rw [a.block_of_sorted hn]

theorem Filing.holdsPage.trimmedBlocks : g.trimmedBlocks p l = f.trimmedBlocks p l := by
  rw [Filing.trimmedBlocks, a.sorted]
  exact List.filter_congr fun n hn => by rw [a.block_of_sorted hn]

theorem Filing.holdsPage.chainHoles (k : Nat) : g.chainHoles p k = f.chainHoles p k := by
  have hany (j : Nat) : (f.pageChain p).any (fun n => (g.block n).index == j) =
      (f.pageChain p).any (fun n => (f.block n).index == j) := by
    rw [Bool.eq_iff_iff, List.any_eq_true, List.any_eq_true]
    exact exists_congr fun n => and_congr_right fun hn => by rw [a.block n hn]
  rw [Filing.chainHoles, a.chain, Filing.chainHoles]
  simp only [hany]

theorem Filing.holdsPage.trans (b : g.holdsPage p h) : f.holdsPage p h :=
  ⟨b.page.trans a.page, fun n hn => (b.block n (a.chain.symm ▸ hn)).trans (a.block n hn)⟩

end

theorem Filing.holdsPage_of_eq (hb : g.blocks = f.blocks) (hp : g.page p = f.page p) : f.holdsPage p g :=
  ⟨hp, fun n _ => by rw [Filing.block, hb, Filing.block]⟩

/-! ## One page closed at recovery -/

/-- The length at which recovery closes page p (R185). -/
def Filing.recoveredLen (p : Nat) (f : Filing) : Nat := recoveredLength (f.page p).count

/-- Page p as recovery closes it (R48, R185). -/
def Filing.recoveredPage (p : Nat) (f : Filing) : Page :=
  { f.page p with
    state := .closed, length := f.recoveredLen p, first := (f.keptBlocks p (f.recoveredLen p)).head?
    count := (f.keptBlocks p (f.recoveredLen p)).length, holes := f.chainHoles p (keepCount (f.recoveredLen p))
    truncated := true, estimated := true, closed := some f.now }

theorem Filing.holdsPage.recoveredPage (a : f.holdsPage p g) (hnow : g.now = f.now) :
    g.recoveredPage p = f.recoveredPage p := by
  have hlen : g.recoveredLen p = f.recoveredLen p := by rw [Filing.recoveredLen, a.page, Filing.recoveredLen]
  rw [Filing.recoveredPage, hlen, a.keptBlocks, a.chainHoles, a.page, hnow, Filing.recoveredPage]

/-- The close of a LANDING page at recovery is the close of any page, told. -/
theorem Filing.recoverPage_of_landing (hp : (f.page p).state = .landing) (s : Nat) : f.recoverPage s p =
    (f.completePage s p (f.recoveredLen p) true true (f.chainHoles p (keepCount (f.recoveredLen p)))).raisePageClosed
      ((f.doc s).channel.getD 0) s p := if_pos hp

theorem Filing.recoverPage_of_not (hp : (f.page p).state ≠ .landing) (s : Nat) : f.recoverPage s p = f := if_neg hp

theorem Filing.recoverPage_doc (s p k : Nat) :
    (f.recoverPage s p).doc k = { f.doc k with blockTotal := ((f.recoverPage s p).doc k).blockTotal } := by
  by_cases hp : (f.page p).state = .landing
  · rw [Filing.recoverPage_of_landing hp, Filing.raisePageClosed_doc]
    by_cases hk : k = s
    · subst hk; exact Filing.completePage_doc true true
    · rw [Filing.completePage_doc_ne hk]
  · rw [Filing.recoverPage_of_not hp]

theorem Filing.recoverPage_bindings (s p : Nat) : (f.recoverPage s p).bindings = f.bindings := by
  unfold Filing.recoverPage
  split_ifs
  · exact Filing.closePage_bindings ..
  · rfl

/-! ## The LANDING pages of a list closed -/

/-- g is f with the pages of qs closed by recovery, one after the other. -/
structure Filing.closedPages (qs : List Nat) (f g : Filing) : Prop where
  now : g.now = f.now
  free : g.blocks.free = f.blocks.free
  scrub : g.blocks.scrub = f.blocks.scrub ++ qs.flatMap fun p => f.trimmedBlocks p (f.recoveredLen p)
  page : ∀ p ∈ qs, g.page p = f.recoveredPage p
  page_other : ∀ p, p ∉ qs → g.page p = f.page p
  chain : ∀ p ∈ qs, g.pageChain p = f.keptBlocks p (f.recoveredLen p)
  filed : ∀ p ∈ qs, ∀ n ∈ f.keptBlocks p (f.recoveredLen p),
    (g.block n).state = .filed ∧ (g.block n).index = (f.block n).index
  trimmed : ∀ p ∈ qs, ∀ n ∈ f.trimmedBlocks p (f.recoveredLen p), g.block n = BlockEntry.scrubbed
  block_other : ∀ n, (∀ p ∈ qs, n ∉ f.pageChain p) → g.block n = f.block n

theorem Filing.closedPages_nil (f : Filing) : f.closedPages [] f where
  now := rfl
  free := rfl
  scrub := (List.append_nil _).symm
  page := fun _ h => nomatch h
  page_other := fun _ _ => rfl
  chain := fun _ h => nomatch h
  filed := fun _ h => nomatch h
  trimmed := fun _ h => nomatch h
  block_other := fun _ _ => rfl

section
variable {qs : List Nat} (a : f.closedPages qs g)
include a

theorem Filing.closedPages.of_same (hnow : h.now = g.now) (hb : h.blocks = g.blocks) (hp : ∀ p, h.page p = g.page p) :
    f.closedPages qs h := by
  have hblock (n : Nat) : h.block n = g.block n := by rw [Filing.block, hb, Filing.block]
  refine ⟨hnow.trans a.now, by rw [hb]; exact a.free, by rw [hb]; exact a.scrub, fun p hq => ?_, fun p hq => ?_, fun p hq => ?_,
    fun p hq n hn => ?_, fun p hq n hn => ?_, fun n hn => ?_⟩
  · rw [hp]; exact a.page p hq
  · rw [hp]; exact a.page_other p hq
  · rw [Filing.pageChain_congr hb (hp p)]; exact a.chain p hq
  · rw [hblock]; exact a.filed p hq n hn
  · rw [hblock]; exact a.trimmed p hq n hn
  · rw [hblock]; exact a.block_other n hn

/-- A page outside the list whose blocks no page of the list holds stands as it was. -/
theorem Filing.closedPages.holdsPage (hp : p ∉ qs) (hn : ∀ n ∈ f.pageChain p, ∀ q ∈ qs, n ∉ f.pageChain q) :
    f.holdsPage p g := ⟨a.page_other p hp, fun n h => a.block_other n (hn n h)⟩

theorem Filing.closedPages.page_next (p : Nat) : (g.page p).next = (f.page p).next := by
  by_cases hp : p ∈ qs
  · rw [a.page p hp]; rfl
  · rw [a.page_other p hp]

/-- One page more. -/
theorem Filing.closedPages.snoc (s : Nat) (hp : p ∉ qs) (hst : (f.page p).state = .landing) (hnodup : (f.pageChain p).Nodup)
    (hn : ∀ q ∈ qs, ∀ n ∈ f.pageChain p, n ∉ f.pageChain q) : f.closedPages (qs ++ [p]) (g.recoverPage s p) := by
  have hold := a.holdsPage hp fun n h q hq => hn q hq n h
  have hlen : g.recoveredLen p = f.recoveredLen p := by rw [Filing.recoveredLen, hold.page, Filing.recoveredLen]
  have hholes := hold.chainHoles (keepCount (f.recoveredLen p))
  have hkept := hold.keptBlocks (l := f.recoveredLen p)
  have htrim := hold.trimmedBlocks (l := f.recoveredLen p)
  have hpage := hold.recoveredPage a.now
  rw [Filing.recoverPage_of_landing (by rw [hold.page]; exact hst), hlen, hholes]
  rw [Filing.recoveredPage, hlen, hkept, hholes] at hpage
  generalize hl : f.recoveredLen p = l at *
  generalize f.chainHoles p (keepCount l) = x at *
  have hblocks : (g.completePage s p l true true x).blocks =
      (Filing.fileAll (f.keptBlocks p l) (g.scrubAll (f.trimmedBlocks p l))).blocks := by
    rw [Filing.completePage_blocks, hkept, htrim]
  have hother {q n : Nat} (hq : q ∈ qs) (h : n ∈ f.pageChain q) : n ∉ g.pageChain p := by
    rw [hold.chain]
    exact fun h' => hn q hq n h' h
  have hstands {q : Nat} (hq : q ∈ qs) : g.holdsPage q (g.completePage s p l true true x) := by
    refine ⟨Filing.completePage_page_ne (fun e : q = p => hp (e ▸ hq)) true true, fun n h => ?_⟩
    refine Filing.completePage_block_other (hother hq ?_)
    rw [a.chain q hq] at h
    exact (Filing.mem_keptBlocks.mp h).1
  have hmain : f.closedPages (qs ++ [p]) (g.completePage s p l true true x) := by
    refine ⟨?_, ?_, ?_, fun q hq => ?_, fun q hq => ?_, fun q hq => ?_, fun q hq n h => ?_, fun q hq n h => ?_, fun n h => ?_⟩
    · rw [Filing.completePage_now, a.now]
    · rw [hblocks, Filing.fileAll_free, Filing.scrubAll_free, a.free]
    · rw [hblocks, Filing.fileAll_scrub, Filing.scrubAll_scrub, a.scrub, List.flatMap_append, List.flatMap_cons,
        List.flatMap_nil, List.append_nil, List.append_assoc, hl]
    · rcases List.mem_append.mp hq with hq | hq
      · rw [(hstands hq).page, a.page q hq]
      · obtain rfl := List.mem_singleton.mp hq
        rw [Filing.completePage_page, hkept, ← hpage, Bool.or_true, Bool.or_true]
    · obtain ⟨h1, h2⟩ := not_or.mp (mt List.mem_append.mpr hq)
      rw [Filing.completePage_page_ne (fun e => h2 (List.mem_singleton.mpr e)), a.page_other q h1]
    · rcases List.mem_append.mp hq with hq | hq
      · rw [(hstands hq).chain, a.chain q hq]
      · obtain rfl := List.mem_singleton.mp hq
        rw [Filing.completePage_chain (by rw [hold.chain]; exact hnodup), hkept, hl]
    · rcases List.mem_append.mp hq with hq | hq
      · rw [Filing.completePage_block_other (hother hq (Filing.mem_keptBlocks.mp h).1)]
        exact a.filed q hq n h
      · obtain rfl := List.mem_singleton.mp hq
        rw [hl] at h
        have hb := Filing.completePage_block_kept (s := s) (n := x) (x := true) (y := true) (hkept.symm ▸ h)
        rwa [hold.block n (Filing.mem_keptBlocks.mp h).1] at hb
    · rcases List.mem_append.mp hq with hq | hq
      · rw [Filing.completePage_block_other (hother hq (Filing.mem_trimmedBlocks.mp h).1)]
        exact a.trimmed q hq n h
      · obtain rfl := List.mem_singleton.mp hq
        rw [hl] at h
        exact Filing.completePage_block_trimmed (htrim.symm ▸ h)
    · rw [Filing.completePage_block_other, a.block_other n fun q hq => h q (List.mem_append_left _ hq)]
      rw [hold.chain]
      exact h p (List.mem_append_right _ (List.mem_singleton_self _))
  exact hmain.of_same (Filing.raisePageClosed_now ..) (Filing.raisePageClosed_blocks ..) fun q => Filing.raisePageClosed_page ..

end

end

end Sys2Proof.Machine

end

section
/-! PROOFS. The rebuild's documents (R91, R98, R99, R185): the interrupted calls closed slot by slot, and the documents released
that nothing holds. -/

namespace Sys2Proof.Machine

/-- A loop holds, at its end, what each of its steps carries on to the part of the list done by then. -/
theorem foldl_snoc {α β : Type} {op : β → α → β} {R : List α → β → Prop} {l : List α} {b : β} (h0 : R [] b)
    (step : ∀ done x rest y, l = done ++ x :: rest → R done y → R (done ++ [x]) (op y x)) : R l (l.foldl op b) := by
  have h (done rest : List α) (y : β) (hl : l = done ++ rest) (hy : R done y) : R l (rest.foldl op y) := by
    induction rest generalizing done y with
    | nil => rwa [hl, List.append_nil]
    | cons x rest ih => exact ih (done ++ [x]) _ (by rw [hl, List.append_assoc]; rfl) (step done x rest y hl hy)
  exact h [] l b rfl h0

/-! ## What a release looks at -/

/-- Record e has the page list of record d and holds its document as d does (R98). -/
structure Doc.ties (d e : Doc) : Prop where
  count : e.pageCount = d.pageCount
  first : e.firstPage = d.firstPage
  gen : e.gen = d.gen
  hold : e.hold = d.hold
  expired : e.expired = d.expired
  live : e.anyLive = d.anyLive

theorem Doc.ties_refl (d : Doc) : d.ties d := ⟨rfl, rfl, rfl, rfl, rfl, rfl⟩

theorem Doc.ties.trans {d e x : Doc} (a : d.ties e) (b : e.ties x) : d.ties x :=
  ⟨b.count.trans a.count, b.first.trans a.first, b.gen.trans a.gen, b.hold.trans a.hold, b.expired.trans a.expired,
    b.live.trans a.live⟩

theorem Doc.ties_blockTotal (d : Doc) (n : Nat) : d.ties { d with blockTotal := n } := ⟨rfl, rfl, rfl, rfl, rfl, rfl⟩

/-- Some recipient is live in e where one is in d, if the recipients of each place agree in that. -/
theorem Doc.anyLive_congr {d e : Doc} (h : ∀ i, i < 4 → (e.recipient i).state.live = (d.recipient i).state.live) :
    e.anyLive = d.anyLive := by
  rw [Bool.eq_iff_iff, Doc.anyLive_iff, Doc.anyLive_iff]
  exact exists_congr fun i => and_congr_right fun hi => by rw [h i hi]

/-- Record e is record d after the closes of recovery (R185, item 2): a document with pages is FILED or REVIEW, and what a
release looks at stands. -/
structure Doc.recoveredAs (d e : Doc) : Prop where
  empty : d.pageCount = 0 → e.pageCount = 0
  ties : d.pageCount ≠ 0 → d.ties e
  shelved : d.pageCount ≠ 0 → d.state ≠ .free → e.state = .filed ∨ e.state = .review

section
variable {f g h : Filing} {k c p : Nat}

theorem Filing.docPages_of_ties (a : (f.doc k).ties (g.doc k)) (hp : ∀ p, (g.page p).next = (f.page p).next) :
    g.docPages k = f.docPages k := Filing.docPages_of_links a.count a.first hp

/-! ## The close of one slot at recovery -/

theorem Filing.closeDoc_doc_ne {j : Nat} (hj : j ≠ k) (c : Nat) (cl : Closure) : (f.closeDoc c k cl).doc j = f.doc j := by
  by_cases hz : (f.doc k).pageCount = 0
  · rw [Filing.closeDoc_of_no_pages hz, Filing.releaseDoc_quiet_doc_ne _ _ hj, Filing.closedEmpty_doc_ne hj]
  · rw [Filing.closeDoc_doc_ne_of_pages hz _ _ hj]

theorem Filing.closeDoc_recoveredAs (c : Nat) (cl : Closure) :
    (f.doc k).recoveredAs ((f.closeDoc c k cl).doc k) := by
  by_cases hz : (f.doc k).pageCount = 0
  · rw [Filing.closeDoc_of_empty hz]
    exact ⟨fun _ => rfl, fun h => absurd hz h, fun h => absurd hz h⟩
  · have hdoc := Filing.closeDoc_doc_of_pages hz c cl
    have hlive : ((f.closeDoc c k cl).doc k).anyLive = (f.doc k).anyLive := by
      refine Doc.anyLive_congr fun i hi => ?_
      rw [Filing.closeDoc_recipient_of_pages hz c cl hi]
      split_ifs with h
      · rw [h.2]; rfl
      · rfl
    refine ⟨fun h => absurd h hz, fun _ => ⟨?_, ?_, ?_, ?_, ?_, hlive⟩, fun _ _ => ?_⟩
    any_goals rw [hdoc]
    exact f.stateAtClose_cases k cl

/-- The LANDING pages of a list. -/
def Filing.landingOf (ps : List Nat) (f : Filing) : List Nat :=
  ps.filter fun p => decide ((f.page p).state = .landing)

theorem Filing.mem_landingOf {ps : List Nat} : p ∈ f.landingOf ps ↔ p ∈ ps ∧ (f.page p).state = .landing := by
  rw [Filing.landingOf, List.mem_filter, decide_eq_true_eq]

/-- No page of a list comes twice, and no block comes twice in their chains. -/
structure Filing.apart (ps : List Nat) (f : Filing) : Prop where
  nodup : ps.Nodup
  chain : ∀ p ∈ ps, (f.pageChain p).Nodup
  disjoint : ∀ p ∈ ps, ∀ q ∈ ps, p ≠ q → ∀ n ∈ f.pageChain p, n ∉ f.pageChain q

/-- The LANDING pages of a list closed in order, behind those of another. -/
theorem Filing.closedPages.recoverPages {ps rs : List Nat} (s : Nat) (hf : f.apart (ps ++ rs))
    (a : f.closedPages (f.landingOf ps) g) :
    f.closedPages (f.landingOf (ps ++ rs)) (rs.foldl (fun g p => g.recoverPage s p) g) := by
  refine foldl_snoc (R := fun done y => f.closedPages (f.landingOf (ps ++ done)) y) (by rwa [List.append_nil])
    fun done r rest y hl b => ?_
  subst hl
  have hmem : r ∈ ps ++ (done ++ r :: rest) := by simp
  have hold : r ∉ ps ++ done := fun h => by
    have := hf.nodup
    rw [← List.append_assoc] at this
    exact (List.nodup_append.mp this).2.2 r h r List.mem_cons_self rfl
  have hold' : r ∉ f.landingOf (ps ++ done) := fun h => hold (Filing.mem_landingOf.mp h).1
  rw [← List.append_assoc, Filing.landingOf, List.filter_append]
  by_cases hst : (f.page r).state = .landing
  · rw [List.filter_singleton, decide_eq_true hst]
    refine b.snoc s hold' hst (hf.chain r hmem) fun q hq => ?_
    have hq := (Filing.mem_landingOf.mp hq).1
    refine hf.disjoint r hmem q ?_ fun e => hold (e ▸ hq)
    rw [← List.append_assoc]
    exact List.mem_append_left _ hq
  · rw [List.filter_singleton, decide_eq_false hst, Bool.cond_false, List.append_nil, Filing.recoverPage_of_not]
    · exact b
    · rw [b.page_other r hold']; exact hst

theorem Filing.recoverPage_doc_ne {j : Nat} (hj : j ≠ k) : (f.recoverPage k p).doc j = f.doc j := by
  by_cases hp : (f.page p).state = .landing
  · rw [Filing.recoverPage_of_landing hp, Filing.raisePageClosed_doc, Filing.completePage_doc_ne hj]
  · rw [Filing.recoverPage_of_not hp]

/-- The interrupted call's pages closed. -/
def Filing.pagesRecovered (k : Nat) (f : Filing) : Filing := (f.docPages k).foldl (fun f p => f.recoverPage k p) f

theorem Filing.pagesRecovered_doc : (f.pagesRecovered k).doc k =
    { f.doc k with blockTotal := ((f.pagesRecovered k).doc k).blockTotal } := by
  unfold Filing.pagesRecovered
  refine foldl_snoc (R := fun _ (y : Filing) => y.doc k = { f.doc k with blockTotal := (y.doc k).blockTotal }) rfl
    fun _ p _ y _ hy => ?_
  rw [Filing.recoverPage_doc, hy]

theorem Filing.pagesRecovered_doc_ne {j : Nat} (hj : j ≠ k) : (f.pagesRecovered k).doc j = f.doc j :=
  foldl_keeps (fun f : Filing => f.doc j) _ _ _ fun _ _ => Filing.recoverPage_doc_ne hj

theorem Filing.pagesRecovered_bindings : (f.pagesRecovered k).bindings = f.bindings :=
  foldl_keeps (fun f : Filing => f.bindings) _ _ _ fun _ _ => Filing.recoverPage_bindings ..

/-- A slot's recovery closes the document of an interrupted call, and but for that its pages alone. -/
theorem Filing.recoverDoc_cases (f : Filing) (k : Nat) : ∃ c n, f.recoverDoc k =
    if (f.doc k).state = .receiving then
      { (f.pagesRecovered k).closeDoc c k .recovered with
        boot := { ((f.pagesRecovered k).closeDoc c k .recovered).boot with recovered := n } }
    else f.pagesRecovered k := ⟨_, _, rfl⟩

theorem Filing.recoverDoc_bindings : (f.recoverDoc k).bindings = f.bindings := by
  obtain ⟨c, n, h⟩ := f.recoverDoc_cases k
  rw [h]
  split_ifs
  · exact (Filing.closeDoc_bindings ..).trans Filing.pagesRecovered_bindings
  · exact Filing.pagesRecovered_bindings

theorem Filing.recoverDoc_doc_ne {j : Nat} (hj : j ≠ k) : (f.recoverDoc k).doc j = f.doc j := by
  obtain ⟨c, n, h⟩ := f.recoverDoc_cases k
  rw [h]
  split_ifs
  · exact (Filing.closeDoc_doc_ne hj ..).trans (Filing.pagesRecovered_doc_ne hj)
  · exact Filing.pagesRecovered_doc_ne hj

theorem Filing.recoverDoc_recoveredAs : (f.doc k).recoveredAs ((f.recoverDoc k).doc k) := by
  obtain ⟨c, n, h⟩ := f.recoverDoc_cases k
  have hdoc := f.pagesRecovered_doc (k := k)
  have hties : (f.doc k).ties ((f.pagesRecovered k).doc k) := hdoc ▸ (f.doc k).ties_blockTotal _
  have hstate : ((f.pagesRecovered k).doc k).state = (f.doc k).state := by rw [hdoc]
  rw [h]
  split_ifs with hst
  · obtain ⟨h1, h2, h3⟩ := (f.pagesRecovered k).closeDoc_recoveredAs (k := k) c .recovered
    rw [hties.count] at h1 h2 h3
    rw [hstate] at h3
    exact ⟨h1, fun hz => hties.trans (h2 hz), h3⟩
  · refine ⟨fun hz => hties.count.trans hz, fun _ => hties, fun _ hf => ?_⟩
    rw [hstate]
    cases hs : (f.doc k).state with
    | free => exact absurd hs hf
    | receiving => exact absurd hs hst
    | filed => exact .inl rfl
    | review => exact .inr rfl

theorem Filing.closedPages.recoverDoc {ps : List Nat} (hf : f.apart (ps ++ f.docPages k))
    (a : f.closedPages (f.landingOf ps) g) (hdoc : g.doc k = f.doc k) :
    f.closedPages (f.landingOf (ps ++ f.docPages k)) (g.recoverDoc k) := by
  obtain ⟨c, n, h⟩ := g.recoverDoc_cases k
  have hpages : g.docPages k = f.docPages k := Filing.docPages_of_ties (hdoc ▸ (f.doc k).ties_refl) a.page_next
  have hb := a.recoverPages k hf
  rw [← hpages] at hb ⊢
  rw [h]
  split_ifs
  · exact hb.of_same (Filing.acts.closeDoc (K := fun _ => True) .refl (fun _ _ => trivial) (fun _ _ => trivial) c k .recovered).now
      (Filing.closeDoc_blocks _) fun p => Filing.closeDoc_page_any _ p
  · exact hb

/-- g is f with the slots of ks recovered, one after the other (R185, item 2). -/
structure Filing.recoveredDocs (ks : List Nat) (f g : Filing) : Prop where
  pages : f.closedPages (f.landingOf (ks.flatMap f.docPages)) g
  doc : ∀ k ∈ ks, (f.doc k).recoveredAs (g.doc k)
  doc_other : ∀ k, k ∉ ks → g.doc k = f.doc k
  bindings : g.bindings = f.bindings

theorem Filing.recoverDocs_recoveredDocs {ks : List Nat} (hks : ks.Nodup) (hf : f.apart (ks.flatMap f.docPages)) :
    f.recoveredDocs ks (ks.foldl (fun f k => f.recoverDoc k) f) := by
  refine foldl_snoc (R := fun done y => f.recoveredDocs done y)
    ⟨f.closedPages_nil, (fun _ h => nomatch h), fun _ _ => rfl, rfl⟩ fun done k rest y hl a => ?_
  subst hl
  have hk : k ∉ done := fun h => (List.nodup_append.mp hks).2.2 k h k List.mem_cons_self rfl
  have hsub : f.apart (done.flatMap f.docPages ++ f.docPages k) := by
    have hs : (done.flatMap f.docPages ++ f.docPages k).Sublist ((done ++ k :: rest).flatMap f.docPages) := by
      rw [List.flatMap_append, List.flatMap_cons]
      exact (List.Sublist.refl _).append (List.sublist_append_left _ _)
    exact ⟨hf.nodup.sublist hs, fun p hp => hf.chain p (hs.subset hp),
      fun p hp q hq => hf.disjoint p (hs.subset hp) q (hs.subset hq)⟩
  refine ⟨?_, fun j hj => ?_, fun j hj => ?_, Filing.recoverDoc_bindings.trans a.bindings⟩
  · rw [List.flatMap_append, List.flatMap_singleton]
    exact a.pages.recoverDoc hsub (a.doc_other k hk)
  · rcases List.mem_append.mp hj with hj | hj
    · rw [Filing.recoverDoc_doc_ne (fun e : j = k => hk (e ▸ hj))]
      exact a.doc j hj
    · obtain rfl := List.mem_singleton.mp hj
      rw [← a.doc_other j hk]
      exact Filing.recoverDoc_recoveredAs
  · obtain ⟨h1, h2⟩ := not_or.mp (mt List.mem_append.mpr hj)
    rw [Filing.recoverDoc_doc_ne (fun e => h2 (List.mem_singleton.mpr e)), a.doc_other j h1]

/-! ## The releases -/

/-- The pages and the blocks of two slots are apart. -/
structure Filing.slotsApart (f : Filing) : Prop where
  pages : ∀ j k, j ≠ k → ∀ p ∈ f.docPages j, p ∉ f.docPages k
  blocks : ∀ j k, j ≠ k → ∀ n ∈ f.docBlocks j, n ∉ f.docBlocks k

/-- g is f with the documents of ks released, one after the other (R99). -/
structure Filing.releasedDocs (ks : List Nat) (f g : Filing) : Prop where
  free : g.blocks.free = f.blocks.free
  scrub : g.blocks.scrub = f.blocks.scrub ++ ks.flatMap f.docBlocks
  block : ∀ n ∈ ks.flatMap f.docBlocks, g.block n = BlockEntry.scrubbed
  block_other : ∀ n, n ∉ ks.flatMap f.docBlocks → g.block n = f.block n
  page : ∀ p ∈ ks.flatMap f.docPages, g.page p = Page.freed
  page_other : ∀ p, p ∉ ks.flatMap f.docPages → g.page p = f.page p
  doc_other : ∀ k, k ∉ ks → g.doc k = f.doc k
  bindings : g.bindings = f.bindings

theorem Filing.releaseDoc_loud_blocks : (f.releaseDoc false k).blocks = (f.scrubAll (f.docBlocks k)).blocks := by
  rw [Filing.releaseDoc_loud_eq, Filing.raise_blocks, Filing.releaseDoc_quiet_blocks]

theorem Filing.releaseDoc_loud_block (n : Nat) :
    (f.releaseDoc false k).block n = if n ∈ f.docBlocks k then BlockEntry.scrubbed else f.block n := by
  rw [Filing.releaseDoc_loud_eq, Filing.raise_block, Filing.releaseDoc_quiet_block]

theorem Filing.releaseDoc_loud_page (p : Nat) :
    (f.releaseDoc false k).page p = if p ∈ f.docPages k then Page.freed else f.page p := by
  rw [Filing.releaseDoc_loud_eq, Filing.raise_page, Filing.releaseDoc_quiet_page]

theorem Filing.releaseDoc_loud_doc_ne {j : Nat} (hj : j ≠ k) : (f.releaseDoc false k).doc j = f.doc j := by
  rw [Filing.releaseDoc_loud_eq, Filing.raise_doc, Filing.releaseDoc_quiet_doc_ne _ _ hj]

theorem not_mem_flatMap_of_apart {α β : Type} {h : α → List β} {ks : List α} {k : α} (hk : k ∉ ks)
    (hapart : ∀ i j, i ≠ j → ∀ x ∈ h i, x ∉ h j) : ∀ x ∈ h k, x ∉ ks.flatMap h := fun x hx hm => by
  obtain ⟨j, hj, hxj⟩ := List.mem_flatMap.mp hm
  exact hapart k j (fun e => hk (e ▸ hj)) x hx hxj

theorem Filing.releasedDocs.snoc {ks : List Nat} (a : f.releasedDocs ks g) (hf : f.slotsApart) (hk : k ∉ ks) :
    f.releasedDocs (ks ++ [k]) (g.releaseDoc false k) := by
  have hdoc := a.doc_other k hk
  have hpage (p : Nat) (hp : p ∈ f.docPages k) : g.page p = f.page p :=
    a.page_other p (not_mem_flatMap_of_apart hk hf.pages p hp)
  have hpages : g.docPages k = f.docPages k := Filing.docPages_congr hdoc hpage
  have hblocks : g.docBlocks k = f.docBlocks k := by
    rw [Filing.docBlocks, hpages, Filing.docBlocks]
    refine List.flatMap_congr fun p hp => Filing.holdsPage.chain ⟨hpage p hp, fun n hn => a.block_other n ?_⟩
    exact not_mem_flatMap_of_apart hk hf.blocks n (List.mem_flatMap.mpr ⟨p, hp, hn⟩)
  have hb (n : Nat) : n ∈ (ks ++ [k]).flatMap f.docBlocks ↔ n ∈ ks.flatMap f.docBlocks ∨ n ∈ f.docBlocks k := by
    rw [List.flatMap_append, List.flatMap_singleton, List.mem_append]
  have hp (p : Nat) : p ∈ (ks ++ [k]).flatMap f.docPages ↔ p ∈ ks.flatMap f.docPages ∨ p ∈ f.docPages k := by
    rw [List.flatMap_append, List.flatMap_singleton, List.mem_append]
  refine ⟨?_, ?_, fun n hn => ?_, fun n hn => ?_, fun p hpm => ?_, fun p hpm => ?_, fun j hj => ?_, ?_⟩
  · rw [Filing.releaseDoc_loud_blocks, Filing.scrubAll_free, a.free]
  · rw [Filing.releaseDoc_loud_blocks, Filing.scrubAll_scrub, a.scrub, hblocks, List.flatMap_append, List.flatMap_singleton,
      List.append_assoc]
  · rw [Filing.releaseDoc_loud_block, hblocks]
    split_ifs with h
    · rfl
    · exact a.block n (((hb n).mp hn).resolve_right h)
  · obtain ⟨h1, h2⟩ := not_or.mp (mt (hb n).mpr hn)
    rw [Filing.releaseDoc_loud_block, hblocks, if_neg h2, a.block_other n h1]
  · rw [Filing.releaseDoc_loud_page, hpages]
    split_ifs with h
    · rfl
    · exact a.page p (((hp p).mp hpm).resolve_right h)
  · obtain ⟨h1, h2⟩ := not_or.mp (mt (hp p).mpr hpm)
    rw [Filing.releaseDoc_loud_page, hpages, if_neg h2, a.page_other p h1]
  · obtain ⟨h1, h2⟩ := not_or.mp (mt List.mem_append.mpr hj)
    rw [Filing.releaseDoc_loud_doc_ne (fun e => h2 (List.mem_singleton.mpr e)), a.doc_other j h1]
  · exact (Filing.releaseDoc_bindings ..).trans a.bindings

/-- The checks of a list of slots release the documents of the list that meet the conditions at their start (R98). -/
theorem Filing.checkReleases_releasedDocs {ks : List Nat} (hks : ks.Nodup) (hf : f.slotsApart) :
    f.releasedDocs (ks.filter fun k => f.releasable k) (ks.foldl (fun f k => f.checkRelease k) f) := by
  refine foldl_snoc (R := fun done y => f.releasedDocs (done.filter fun k => f.releasable k) y)
    ⟨rfl, (List.append_nil _).symm, (fun _ h => nomatch h), fun _ _ => rfl, (fun _ h => nomatch h), fun _ _ => rfl,
      fun _ _ => rfl, rfl⟩ fun done k rest y hl a => ?_
  subst hl
  have hk : k ∉ done.filter fun k => f.releasable k := fun h =>
    (List.nodup_append.mp hks).2.2 k (List.mem_filter.mp h).1 k List.mem_cons_self rfl
  have hsame : y.releasable k = f.releasable k := by
    rw [Bool.eq_iff_iff, Filing.releasable_iff, Filing.releasable_iff, Filing.docId, Filing.docId, a.doc_other k hk,
      Filing.bound, Filing.bound, a.bindings]
  rw [List.filter_append, List.filter_singleton, Filing.checkRelease, hsame]
  cases f.releasable k with
  | true => exact a.snoc hf hk
  | false => rw [Bool.cond_false, List.append_nil]; exact a

end

end Sys2Proof.Machine

end

section
/-! PROOFS. The rebuild (R185): blocks and pages, from tables as the walk leaves them to the tables that its closes and its
releases leave. -/

namespace Sys2Proof.Machine

/-! ## Tables mapped -/

theorem Tbl.find_map {α β : Type} (h : Nat → α → β) (t : Tbl α) (i : Nat) :
    Tbl.find (t.map fun x => (x.1, h x.1 x.2)) i = (Tbl.find t i).map (h i) := by
  induction t with
  | nil => rfl
  | cons x t ih =>
    obtain ⟨k, v⟩ := x
    by_cases hk : k = i
    · subst hk; simp [Tbl.find]
    · simp [Tbl.find, hk, ih]

/-- The keys of the records that pass a test, where each key stands once. -/
theorem Tbl.keys_filter {α : Type} {t : Tbl α} (h : (t.map fun x => x.1).Nodup) (d : α) (P : α → Bool) :
    (t.filter fun x => P x.2).map (fun x => x.1) = (t.map fun x => x.1).filter fun n => P ((Tbl.find t n).getD d) := by
  induction t with
  | nil => rfl
  | cons x t ih =>
    obtain ⟨k, v⟩ := x
    obtain ⟨hk, ht⟩ := List.nodup_cons.mp h
    have hrest : ((t.map fun x => x.1).filter fun n => P ((Tbl.find ((k, v) :: t) n).getD d)) =
        (t.filter fun x => P x.2).map fun x => x.1 := by
      rw [ih ht]
      refine List.filter_congr fun n hn => ?_
      rw [Tbl.find, if_neg fun e : k = n => hk (e ▸ hn)]
    rw [List.filter_cons, List.map_cons, List.filter_cons, hrest, Tbl.find, if_pos rfl, Option.getD_some]
    split_ifs <;> rfl

/-- The entries of a state. -/
theorem blocksIn_eq {es : Tbl BlockEntry} (h : (es.map fun x => x.1).Nodup) (st : BlockState) : blocksIn st es =
    (es.map fun x => x.1).filter fun n => ((Tbl.find es n).getD BlockEntry.reserved).state == st :=
  Tbl.keys_filter h BlockEntry.reserved fun b => b.state == st

theorem Tbl.find_ne_none {α : Type} {t : Tbl α} {i : Nat} (h : i ∈ t.map fun x => x.1) : Tbl.find t i ≠ none := by
  induction t with
  | nil => cases h
  | cons x t ih =>
    rw [Tbl.find]
    split_ifs with hx
    · exact Option.some_ne_none _
    · exact ih ((List.mem_cons.mp h).resolve_left fun e => hx e.symm)

section
variable {f g u : Filing} {k p n : Nat}

/-! ## Tables as the walk leaves them -/

/-- Page p holds a page of a document. -/
def Filing.keepsPage (p : Nat) (f : Filing) : Prop := (f.page p).state ≠ .free

theorem Filing.pageCount_ne_zero_of_mem (h : p ∈ f.docPages k) : (f.doc k).pageCount ≠ 0 := fun hz => by
  rw [Filing.docPages_of_pageCount_zero hz] at h
  cases h

section
variable (w : f.walked)
include w

theorem Filing.walked.keys : f.blocks.entries.map (fun x => x.1) = usableBlocks f.blockCount := w.1

theorem Filing.walked.pageCount_of_free (h : (f.doc k).state = .free ∨ 1024 ≤ k) : (f.doc k).pageCount = 0 := by
  rw [w.2.1 k h]; rfl

theorem Filing.walked.list_nodup (k : Nat) : (f.docPages k).Nodup := (w.2.2.1 k).1

theorem Filing.walked.of_mem_list (h : p ∈ f.docPages k) : f.keepsPage p ∧ (f.page p).owner = k := (w.2.2.1 k).2.2 p h

theorem Filing.walked.mem_list (h : f.keepsPage p) : p ∈ f.docPages (f.page p).owner := (w.2.2.2.1 p h).1

theorem Filing.walked.chain_nodup (h : f.keepsPage p) : (f.pageChain p).Nodup := (w.2.2.2.1 p h).2.2.1

theorem Filing.walked.block_of_chain (h : f.keepsPage p) (hn : n ∈ f.pageChain p) : n ∈ usableBlocks f.blockCount ∧
    ((f.block n).state = .landing ∨ (f.block n).state = .filed) := by
  obtain ⟨h1, h2, h3⟩ := (w.2.2.2.1 p h).2.2.2 n hn
  exact ⟨mem_usableBlocks.mpr ⟨h1, h2⟩, h3⟩

theorem Filing.walked.chains_disjoint {q : Nat} (hp : f.keepsPage p) (hq : f.keepsPage q) (h : p ≠ q) :
    ∀ n ∈ f.pageChain p, n ∉ f.pageChain q := w.2.2.2.2 p q hp hq h

theorem Filing.walked.live_slot (h : p ∈ f.docPages k) : (f.doc k).state ≠ .free ∧ k < 1024 := by
  have hz := Filing.pageCount_ne_zero_of_mem h
  refine ⟨fun e => hz (w.pageCount_of_free (.inl e)), ?_⟩
  by_contra hk
  exact hz (w.pageCount_of_free (.inr (Nat.le_of_not_lt hk)))

theorem Filing.walked.mem_allPages : p ∈ f.allPages ↔ f.keepsPage p := by
  refine ⟨fun h => ?_, fun h => List.mem_flatMap.mpr ⟨_, ?_, w.mem_list h⟩⟩
  · obtain ⟨k, -, hk⟩ := List.mem_flatMap.mp h
    exact (w.of_mem_list hk).1
  · exact mem_numbers.mpr ⟨Nat.zero_le _, (w.live_slot (w.mem_list h)).2.trans_eq (Nat.zero_add _).symm⟩

theorem Filing.walked.chain_block_unique {q : Nat} (hp : f.keepsPage p) (hq : f.keepsPage q) (hn : n ∈ f.pageChain p)
    (hn' : n ∈ f.pageChain q) : p = q := by
  by_contra h
  exact w.chains_disjoint hp hq h n hn hn'

theorem Filing.walked.apart : f.apart f.allPages := by
  refine ⟨?_, fun p hp => w.chain_nodup (w.mem_allPages.mp hp),
    fun p hp q hq => w.chains_disjoint (w.mem_allPages.mp hp) (w.mem_allPages.mp hq)⟩
  refine List.nodup_flatMap.mpr ⟨fun k _ => w.list_nodup k, ?_⟩
  have hslots : (numbers 0 Config.docSlots).Nodup := by
    rw [numbers]
    exact List.nodup_range.map fun a b => Nat.add_left_cancel
  refine hslots.imp fun {j k} hjk p hj hk => hjk ?_
  rw [← (w.of_mem_list hj).2, ← (w.of_mem_list hk).2]

end

/-- The blocks that page chains hold. -/
def Filing.chained (f : Filing) : List Nat := f.allPages.flatMap fun p => f.pageChain p

theorem Filing.walked.mem_chained (w : f.walked) : n ∈ f.chained ↔ ∃ p, f.keepsPage p ∧ n ∈ f.pageChain p := by
  rw [Filing.chained, List.mem_flatMap]
  exact exists_congr fun p => and_congr_left fun _ => w.mem_allPages

/-! ## The Block Table rebuilt (R185, item 1) -/

theorem BlockEntry.rebuilt_of_reached {b : BlockEntry} (h : b.state = .landing ∨ b.state = .filed) : b.rebuilt true = b := by
  unfold BlockEntry.rebuilt
  rcases h with h | h <;> rw [h] <;> rfl

theorem BlockEntry.rebuilt_of_not (b : BlockEntry) :
    b.rebuilt false = if b.state = .free then BlockEntry.freed else BlockEntry.scrubbed := by
  unfold BlockEntry.rebuilt
  cases b.state <;> rfl

theorem Filing.rebuildBlocks_block (h : n ∈ f.blocks.entries.map fun x => x.1) :
    f.rebuildBlocks.block n = (f.block n).rebuilt (decide (n ∈ f.chained)) := by
  have hfind : Tbl.find f.rebuildBlocks.blocks.entries n =
      (Tbl.find f.blocks.entries n).map fun b => b.rebuilt (decide (n ∈ f.chained)) :=
    Tbl.find_map (fun n (b : BlockEntry) => b.rebuilt (decide (n ∈ f.chained))) _ _
  rw [Filing.block, hfind, Filing.block]
  obtain ⟨b, hb⟩ := Option.ne_none_iff_exists'.mp (Tbl.find_ne_none h)
  rw [hb]
  rfl

section
variable (w : f.walked)
include w

theorem Filing.walked.rebuildBlocks_block_chained (h : n ∈ f.chained) : f.rebuildBlocks.block n = f.block n := by
  obtain ⟨p, hp, hn⟩ := w.mem_chained.mp h
  obtain ⟨hu, hst⟩ := w.block_of_chain hp hn
  rw [Filing.rebuildBlocks_block (w.keys ▸ hu), decide_eq_true h, BlockEntry.rebuilt_of_reached hst]

theorem Filing.walked.rebuildBlocks_block_other (hu : n ∈ usableBlocks f.blockCount) (h : n ∉ f.chained) :
    f.rebuildBlocks.block n = if (f.block n).state = .free then BlockEntry.freed else BlockEntry.scrubbed := by
  rw [Filing.rebuildBlocks_block (w.keys ▸ hu), decide_eq_false h, BlockEntry.rebuilt_of_not]

theorem Filing.walked.holdsPage_rebuildBlocks (h : f.keepsPage p) : f.holdsPage p f.rebuildBlocks :=
  ⟨rfl, fun _ hn => w.rebuildBlocks_block_chained (w.mem_chained.mpr ⟨p, h, hn⟩)⟩

theorem Filing.walked.rebuildBlocks_lists (st : BlockState) :
    blocksIn st f.rebuildBlocks.blocks.entries =
      (usableBlocks f.blockCount).filter fun n => (f.rebuildBlocks.block n).state == st := by
  have hkeys : f.rebuildBlocks.blocks.entries.map (fun x => x.1) = usableBlocks f.blockCount := by
    rw [← w.keys]
    exact List.map_map
  have hnodup : (usableBlocks f.blockCount).Nodup := List.nodup_range.map fun a b => Nat.add_left_cancel
  rw [blocksIn_eq (hkeys ▸ hnodup), hkeys]
  rfl

theorem Filing.walked.rebuildBlocks_free : f.rebuildBlocks.blocks.free =
    (usableBlocks f.blockCount).filter fun n => decide ((f.block n).state = .free) := by
  refine (w.rebuildBlocks_lists .free).trans (List.filter_congr fun n hn => ?_)
  by_cases h : n ∈ f.chained
  · rw [w.rebuildBlocks_block_chained h]
    rfl
  · rw [w.rebuildBlocks_block_other hn h]
    split_ifs with hst
    · rw [hst]; rfl
    · rw [decide_eq_false hst]; rfl

theorem Filing.walked.rebuildBlocks_scrub : f.rebuildBlocks.blocks.scrub =
    (usableBlocks f.blockCount).filter fun n => decide ((f.block n).state ≠ .free ∧ n ∉ f.chained) := by
  refine (w.rebuildBlocks_lists .scrub).trans (List.filter_congr fun n hn => ?_)
  by_cases h : n ∈ f.chained
  · obtain ⟨p, hp, hnp⟩ := w.mem_chained.mp h
    rw [w.rebuildBlocks_block_chained h, decide_eq_false fun hc => hc.2 h]
    rcases (w.block_of_chain hp hnp).2 with hst | hst <;> rw [hst] <;> rfl
  · rw [w.rebuildBlocks_block_other hn h]
    split_ifs with hst
    · rw [decide_eq_false fun hc => hc.1 hst]; rfl
    · rw [decide_eq_true ⟨hst, h⟩]; rfl

end

end

end Sys2Proof.Machine

end

section
/-! PROOFS. The rebuild's steps one after the other (R185), and what they leave of blocks and pages. -/

namespace Sys2Proof.Machine

section
variable {f g u : Filing} {k p n : Nat}

/-! ## The steps around the closes -/

/-- The tables at which the closes begin, a torn header's due times put in place (R182, R185). -/
def Filing.rebuildBase (f : Filing) : Filing :=
  if f.rebuildBlocks.boot.tornHeader then f.rebuildBlocks.dropDues else f.rebuildBlocks

/-- The tables after the closes. -/
def Filing.rebuildClosed (f : Filing) : Filing := (numbers 0 Config.docSlots).foldl (fun f s => f.recoverDoc s) f.rebuildBase

/-- Recipients, queue and deadlines as recovery leaves them. -/
def Filing.relisted (f : Filing) : Filing := f.recoverRecipients.rebuildQueue.rebuildDeadlines

/-- The tables before the releases. -/
def Filing.rebuildListed (f : Filing) : Filing := f.rebuildClosed.relisted

/-- The slots that the release checks of recovery go by. -/
def Filing.shelvedSlots (f : Filing) : List Nat := f.slotsOf fun d => d.state == .filed || d.state == .review

/-- The tables after the releases. -/
def Filing.rebuildReleased (f : Filing) : Filing :=
  f.rebuildListed.shelvedSlots.foldl (fun f s => f.checkRelease s) f.rebuildListed

/-- The recounts with which the rebuild ends (R185, item 7). -/
def Filing.rebuildFinished (f : Filing) : Filing :=
  let g := ((numbers 0 Config.mailboxCount).foldl (fun f m => f.recountBox m) f.countBlocks).rebuildFreePages
  { g with boot := { g.boot with phase := .rebuilt }, mirror := { g.mirror with sizeMiB := g.boot.sizeMiB } }

theorem Filing.rebuild_eq (f : Filing) : f.rebuild = f.rebuildReleased.rebuildFinished := by
  unfold Filing.rebuild Filing.rebuildReleased Filing.shelvedSlots Filing.rebuildListed Filing.relisted Filing.rebuildClosed
    Filing.rebuildBase Filing.rebuildFinished
  with_reducible rfl

theorem Filing.rebuildFinished_blocks (f : Filing) : f.rebuildFinished.blocks = f.blocks := by
  unfold Filing.rebuildFinished Filing.rebuildFreePages
  generalize numbers 0 Config.mailboxCount = l
  dsimp only
  refine (foldl_keeps (fun f : Filing => f.blocks) (fun f m => f.recountBox m) l _ fun _ _ => rfl).trans ?_
  exact foldl_keeps (fun f : Filing => f.blocks) _ _ _ fun _ _ => rfl

theorem Filing.rebuildFinished_pages (f : Filing) : f.rebuildFinished.dir.pages = f.dir.pages := by
  unfold Filing.rebuildFinished Filing.rebuildFreePages
  generalize numbers 0 Config.mailboxCount = l
  dsimp only
  refine (foldl_keeps (fun f : Filing => f.dir.pages) (fun f m => f.recountBox m) l _ fun _ _ => rfl).trans ?_
  unfold Filing.countBlocks
  exact foldl_keeps (fun f : Filing => f.dir.pages) _ _ _ fun _ _ => rfl

/-- A change of every document record that leaves what a FREE slot reads as. -/
theorem Filing.doc_of_map (h : Doc → Doc) (hd : g.dir.docs = f.dir.docs.map fun x => (x.1, h x.2))
    (hfree : h (Doc.freed 0) = Doc.freed 0) (k : Nat) : g.doc k = h (f.doc k) := by
  rw [Filing.doc, hd, Tbl.find_map fun _ => h, Filing.doc]
  cases Tbl.find f.dir.docs k with
  | none => exact hfree.symm
  | some d => rfl

/-- A change of every recipient that leaves who is live. -/
theorem Doc.anyLive_map (d : Doc) (h : Recipient → Recipient) (hl : ∀ r, (h r).state.live = r.state.live)
    (e : Doc) (he : e.recipients = d.recipients.map fun r => (r.1, h r.2)) : e.anyLive = d.anyLive := by
  refine Doc.anyLive_congr fun i _ => ?_
  rw [Doc.recipient, he, Tbl.find_map fun _ => h, Doc.recipient]
  cases Tbl.find d.recipients i with
  | none => rfl
  | some r => exact hl r

/-- A document's record with a torn header's due times put in place (R182). -/
def Doc.duesDropped (d : Doc) : Doc :=
  { d with
    retention := if d.expired then d.retention else d.retention.map fun _ => ticks (Config.maxRetention * Config.ticksPerHour)
    recipients := d.recipients.map fun r => (r.1, { r.2 with retryDue := r.2.retryDue.map fun _ => 0 }) }

/-- A document's record with its recipients as recovery leaves them (R185, items 3 and 5). -/
def Doc.recipientsRecovered (now : Time) (d : Doc) : Doc :=
  { d with recipients := d.recipients.map fun r => (r.1, r.2.recover now) }

theorem Filing.dropDues_doc (f : Filing) (k : Nat) :
    (f.doc k).ties (f.dropDues.doc k) ∧ (f.dropDues.doc k).state = (f.doc k).state := by
  rw [Filing.doc_of_map (g := f.dropDues) (f := f) Doc.duesDropped rfl rfl k]
  exact ⟨⟨rfl, rfl, rfl, rfl, rfl, Doc.anyLive_map _ (fun r => { r with retryDue := r.retryDue.map (fun _ => 0) })
    (fun _ => rfl) _ rfl⟩, rfl⟩

theorem Recipient.recover_live (now : Time) (r : Recipient) : (r.recover now).state.live = r.state.live := by
  unfold Recipient.recover
  cases h : r.state <;> simp [h, RecipientState.live]

theorem Filing.recoverRecipients_doc (f : Filing) (k : Nat) :
    (f.doc k).ties (f.recoverRecipients.doc k) ∧ (f.recoverRecipients.doc k).state = (f.doc k).state := by
  rw [Filing.doc_of_map (g := f.recoverRecipients) (f := f) (Doc.recipientsRecovered f.now) rfl rfl k]
  exact ⟨⟨rfl, rfl, rfl, rfl, rfl, Doc.anyLive_map _ (fun r => r.recover f.now) (fun r => r.recover_live _) _ rfl⟩, rfl⟩

theorem Filing.rebuildDeadlines_eq (f : Filing) : ∃ l, f.rebuildDeadlines = { f with clock := { f.clock with deadlines := l } } := by
  unfold Filing.rebuildDeadlines
  refine foldl_snoc (R := fun _ (y : Filing) => ∃ l, y = { f with clock := { f.clock with deadlines := l } }) ⟨[], rfl⟩ ?_
  rintro done e rest _ - ⟨l, rfl⟩
  exact ⟨_, rfl⟩

theorem Filing.rebuildBase_spec (f : Filing) : f.rebuildBase.blocks = f.rebuildBlocks.blocks ∧
    (∀ p, f.rebuildBase.page p = f.page p) ∧ f.rebuildBase.now = f.now ∧ f.rebuildBase.bindings = f.bindings ∧
    ∀ k, (f.doc k).ties (f.rebuildBase.doc k) ∧ (f.rebuildBase.doc k).state = (f.doc k).state := by
  unfold Filing.rebuildBase
  split_ifs
  · exact ⟨rfl, fun _ => rfl, rfl, rfl, fun k => f.rebuildBlocks.dropDues_doc k⟩
  · exact ⟨rfl, fun _ => rfl, rfl, rfl, fun k => ⟨(f.doc k).ties_refl, rfl⟩⟩

theorem Filing.relisted_spec (f : Filing) : f.relisted.blocks = f.blocks ∧ f.relisted.dir.pages = f.dir.pages ∧
    f.relisted.bindings = f.bindings ∧
    ∀ k, (f.doc k).ties (f.relisted.doc k) ∧ (f.relisted.doc k).state = (f.doc k).state := by
  obtain ⟨l, h⟩ := f.recoverRecipients.rebuildQueue.rebuildDeadlines_eq
  rw [Filing.relisted, h]
  exact ⟨rfl, rfl, rfl, fun k => f.recoverRecipients_doc k⟩

theorem Filing.rebuildBase_recoveredLen (f : Filing) (p : Nat) : f.rebuildBase.recoveredLen p = f.recoveredLen p := by
  rw [Filing.recoveredLen, f.rebuildBase_spec.2.1, Filing.recoveredLen]

/-! ## The tables before the releases -/

/-- The blocks that the closes of recovery scrub, in order. -/
def Filing.recoveryTrims (f : Filing) : List Nat :=
  (f.landingOf f.allPages).flatMap fun p => f.trimmedBlocks p (f.recoveredLen p)

/-- u is f, as the walk leaves it, with the Block Table rebuilt and every LANDING page closed (R185, items 1 and 2). -/
structure Filing.rebuiltTo (f u : Filing) : Prop where
  free : u.blocks.free = f.rebuildBlocks.blocks.free
  scrub : u.blocks.scrub = f.rebuildBlocks.blocks.scrub ++ f.recoveryTrims
  landing : ∀ p, (f.page p).state = .landing → u.page p = f.recoveredPage p ∧
    u.pageChain p = f.keptBlocks p (f.recoveredLen p) ∧ ∀ n ∈ f.keptBlocks p (f.recoveredLen p),
      (u.block n).state = .filed ∧ (u.block n).index = (f.block n).index
  closed : ∀ p, f.keepsPage p → (f.page p).state ≠ .landing → f.holdsPage p u
  free_page : ∀ p, ¬ f.keepsPage p → u.page p = f.page p
  trimmed : ∀ n ∈ f.recoveryTrims, u.block n = BlockEntry.scrubbed
  block_other : ∀ n, n ∉ f.chained → u.block n = f.rebuildBlocks.block n
  doc : ∀ k, (f.doc k).recoveredAs (u.doc k)
  bindings : u.bindings = f.bindings

theorem Filing.keepsPage_of_landing (h : (f.page p).state = .landing) : f.keepsPage p := by
  rw [Filing.keepsPage, h]
  exact fun e => nomatch e

theorem Filing.apart.of_holds {ps : List Nat} (a : f.apart ps) (h : ∀ p ∈ ps, f.holdsPage p g) : g.apart ps where
  nodup := a.nodup
  chain p hp := (h p hp).chain ▸ a.chain p hp
  disjoint p hp q hq hne := (h p hp).chain ▸ (h q hq).chain ▸ a.disjoint p hp q hq hne

theorem Doc.recoveredAs.of_ties {d e x y : Doc} (a : e.recoveredAs x) (hd : d.ties e) (hs : e.state = d.state)
    (hx : x.ties y) (hy : y.state = x.state) : d.recoveredAs y := by
  obtain ⟨h1, h2, h3⟩ := a
  rw [hd.count] at h1 h2 h3
  rw [hs] at h3
  exact ⟨fun hz => hx.count.trans (h1 hz), fun hz => hd.trans ((h2 hz).trans hx), fun hz hf => hy ▸ h3 hz hf⟩

theorem Filing.rebuildBase_docPages (f : Filing) : f.rebuildBase.docPages = f.docPages :=
  funext fun k => Filing.docPages_of_ties (f.rebuildBase_spec.2.2.2.2 k).1 fun p => by rw [f.rebuildBase_spec.2.1]

theorem Filing.rebuildBase_landingOf (f : Filing) (ps : List Nat) : f.rebuildBase.landingOf ps = f.landingOf ps := by
  simp only [Filing.landingOf, f.rebuildBase_spec.2.1]

section
variable (w : f.walked)
include w

/-- The tables at which the closes begin hold every page as the walk left it. -/
theorem Filing.walked.holdsPage_rebuildBase (h : f.keepsPage p) : f.holdsPage p f.rebuildBase :=
  (w.holdsPage_rebuildBlocks h).trans (Filing.holdsPage_of_eq f.rebuildBase_spec.1 (f.rebuildBase_spec.2.1 p))

theorem Filing.walked.mem_landingOf : p ∈ f.landingOf f.allPages ↔ (f.page p).state = .landing := by
  rw [Filing.mem_landingOf, w.mem_allPages]
  exact and_iff_right_of_imp Filing.keepsPage_of_landing

theorem Filing.walked.mem_recoveryTrims : n ∈ f.recoveryTrims ↔
    ∃ p, (f.page p).state = .landing ∧ n ∈ f.trimmedBlocks p (f.recoveredLen p) := by
  rw [Filing.recoveryTrims, List.mem_flatMap]
  exact exists_congr fun p => and_congr_left fun _ => w.mem_landingOf

theorem Filing.walked.rebuildClosed : f.rebuildBase.recoveredDocs (numbers 0 Config.docSlots) f.rebuildClosed := by
  have hslots : (numbers 0 Config.docSlots).Nodup := List.nodup_range.map fun a b => Nat.add_left_cancel
  refine Filing.recoverDocs_recoveredDocs hslots ?_
  rw [f.rebuildBase_docPages]
  exact w.apart.of_holds fun p hp => w.holdsPage_rebuildBase (w.mem_allPages.mp hp)

theorem Filing.walked.rebuildListed : f.rebuiltTo f.rebuildListed := by
  obtain ⟨hbb, hbp, hbn, hbi, hbd⟩ := f.rebuildBase_spec
  obtain ⟨hu, hlp, hli, hld⟩ := f.rebuildClosed.relisted_spec
  obtain ⟨hclosed, hdoc, hother, hbind⟩ := w.rebuildClosed
  rw [Filing.rebuildListed]
  generalize f.rebuildClosed.relisted = u at *
  generalize f.rebuildClosed = c at *
  rw [f.rebuildBase_docPages, f.rebuildBase_landingOf] at hclosed
  have hpages : (numbers 0 Config.docSlots).flatMap f.docPages = f.allPages := rfl
  rw [hpages] at hclosed
  have hup (p : Nat) : u.page p = c.page p := by
    rw [Filing.page, Filing.page]
    exact congrArg (fun t => (Tbl.find t p).getD Page.freed) hlp
  have hub (n : Nat) : u.block n = c.block n := by rw [Filing.block, hu, Filing.block]
  have htrim (p : Nat) (hp : (f.page p).state = .landing) :
      f.rebuildBase.trimmedBlocks p (f.rebuildBase.recoveredLen p) = f.trimmedBlocks p (f.recoveredLen p) := by
    rw [f.rebuildBase_recoveredLen, (w.holdsPage_rebuildBase (Filing.keepsPage_of_landing hp)).trimmedBlocks]
  have hkept (p : Nat) (hp : (f.page p).state = .landing) :
      f.rebuildBase.keptBlocks p (f.rebuildBase.recoveredLen p) = f.keptBlocks p (f.recoveredLen p) := by
    rw [f.rebuildBase_recoveredLen, (w.holdsPage_rebuildBase (Filing.keepsPage_of_landing hp)).keptBlocks]
  refine ⟨?_, ?_, fun p hp => ⟨?_, ?_, fun n hn => ?_⟩, fun p hp hl => ?_, fun p hp => ?_, fun n hn => ?_, fun n hn => ?_,
    fun k => ?_, ?_⟩
  · rw [hu, hclosed.free, hbb]
  · rw [hu, hclosed.scrub, hbb, Filing.recoveryTrims]
    exact congrArg _ (List.flatMap_congr fun p hp => htrim p (w.mem_landingOf.mp hp))
  · rw [hup, hclosed.page p (w.mem_landingOf.mpr hp)]
    exact (w.holdsPage_rebuildBase (Filing.keepsPage_of_landing hp)).recoveredPage hbn
  · rw [Filing.pageChain_congr hu (hup p), hclosed.chain p (w.mem_landingOf.mpr hp), hkept p hp]
  · rw [hub]
    have h := hclosed.filed p (w.mem_landingOf.mpr hp) n (by rw [hkept p hp]; exact hn)
    rwa [(w.holdsPage_rebuildBase (Filing.keepsPage_of_landing hp)).block n (Filing.mem_keptBlocks.mp hn).1] at h
  · have hno : p ∉ f.landingOf f.allPages := fun h => hl (w.mem_landingOf.mp h)
    refine ((w.holdsPage_rebuildBase hp).trans (hclosed.holdsPage hno fun n hn q hq hnq => ?_)).trans
      (Filing.holdsPage_of_eq hu (hup p))
    have hkq := Filing.keepsPage_of_landing (w.mem_landingOf.mp hq)
    rw [(w.holdsPage_rebuildBase hp).chain] at hn
    rw [(w.holdsPage_rebuildBase hkq).chain] at hnq
    exact hno (w.chain_block_unique hp hkq hn hnq ▸ hq)
  · rw [hup, hclosed.page_other p fun h => hp (Filing.keepsPage_of_landing (w.mem_landingOf.mp h)), hbp]
  · obtain ⟨p, hp, hnp⟩ := w.mem_recoveryTrims.mp hn
    rw [hub]
    exact hclosed.trimmed p (w.mem_landingOf.mpr hp) n (by rw [htrim p hp]; exact hnp)
  · rw [hub, hclosed.block_other n fun p hp hnp => hn ?_, Filing.block, hbb, Filing.block]
    have hkp := Filing.keepsPage_of_landing (w.mem_landingOf.mp hp)
    exact w.mem_chained.mpr ⟨p, hkp, (w.holdsPage_rebuildBase hkp).chain ▸ hnp⟩
  · by_cases hk : k < 1024
    · exact (hdoc k (mem_numbers.mpr ⟨Nat.zero_le _, hk.trans_eq (Nat.zero_add _).symm⟩)).of_ties (hbd k).1 (hbd k).2
        (hld k).1 (hld k).2
    · have hz := w.pageCount_of_free (k := k) (.inr (Nat.le_of_not_lt hk))
      have hno : k ∉ numbers 0 Config.docSlots := fun h => hk ((mem_numbers.mp h).2.trans_eq (Nat.zero_add _))
      refine ⟨fun _ => ?_, fun h => absurd hz h, fun h => absurd hz h⟩
      have h := (hld k).1.count
      rw [hother k hno, (hbd k).1.count, hz] at h
      exact h
  · exact hli.trans (hbind.trans hbi)

end

end

end Sys2Proof.Machine

end

section
/-! PROOFS. The releases of the rebuild, and its blocks and pages at the end (R98, R99, R185). -/

namespace Sys2Proof.Machine

section
variable {f u : Filing} {k p n : Nat}

/-! ## What the closes leave for the releases -/

theorem Filing.rebuiltTo.page_next (a : f.rebuiltTo u) (p : Nat) : (u.page p).next = (f.page p).next := by
  by_cases hl : (f.page p).state = .landing
  · rw [(a.landing p hl).1]; rfl
  · by_cases hp : f.keepsPage p
    · rw [(a.closed p hp hl).page]
    · rw [a.free_page p hp]

theorem Filing.rebuiltTo.docPages (a : f.rebuiltTo u) (k : Nat) : u.docPages k = f.docPages k := by
  by_cases hz : (f.doc k).pageCount = 0
  · rw [Filing.docPages_of_pageCount_zero hz, Filing.docPages_of_pageCount_zero ((a.doc k).empty hz)]
  · exact Filing.docPages_of_ties ((a.doc k).ties hz) a.page_next

/-- A page's chain after the closes: what its close kept, or the whole chain. -/
theorem Filing.rebuiltTo.mem_chain (a : f.rebuiltTo u) (hp : f.keepsPage p) : n ∈ u.pageChain p ↔
    n ∈ f.pageChain p ∧ ((f.page p).state = .landing → (f.block n).index < keepCount (f.recoveredLen p)) := by
  by_cases hl : (f.page p).state = .landing
  · rw [(a.landing p hl).2.1, Filing.mem_keptBlocks]
    exact and_congr_right fun _ => ⟨fun h _ => h, fun h => h hl⟩
  · rw [(a.closed p hp hl).chain]
    exact ⟨fun h => ⟨h, fun e => absurd e hl⟩, fun h => h.1⟩

theorem Filing.rebuiltTo.chain_nodup (a : f.rebuiltTo u) (w : f.walked) (hp : f.keepsPage p) : (u.pageChain p).Nodup := by
  by_cases hl : (f.page p).state = .landing
  · rw [(a.landing p hl).2.1, (f.keptBlocks_perm p _).nodup_iff]
    exact (w.chain_nodup hp).filter _
  · rw [(a.closed p hp hl).chain]
    exact w.chain_nodup hp

theorem Filing.rebuiltTo.mem_docBlocks (a : f.rebuiltTo u) :
    n ∈ u.docBlocks k ↔ ∃ p ∈ f.docPages k, n ∈ u.pageChain p := by
  rw [Filing.docBlocks, a.docPages, List.mem_flatMap]

/-- The slots that the rebuild releases. -/
def Filing.goneSlots (u : Filing) : List Nat := u.shelvedSlots.filter fun k => u.releasable k

theorem Filing.mem_goneSlots : k ∈ u.goneSlots ↔ k < 1024 ∧ (u.doc k).loose ∧ u.bound (u.docId k) = false := by
  have hslots : k ∈ numbers 0 Config.docSlots ↔ k < 1024 := by
    rw [mem_numbers]
    exact ⟨fun h => h.2.trans_eq (Nat.zero_add _), fun h => ⟨Nat.zero_le _, h.trans_eq (Nat.zero_add _).symm⟩⟩
  rw [Filing.goneSlots, List.mem_filter, Filing.releasable_iff, Filing.shelvedSlots, Filing.slotsOf, List.mem_filter, hslots,
    Bool.or_eq_true, beq_iff_eq, beq_iff_eq]
  exact ⟨fun h => ⟨h.1.1, h.2⟩, fun h => ⟨⟨h.1, h.2.1.1⟩, h.2⟩⟩

theorem Filing.landingOf_nodup {ps : List Nat} (h : ps.Nodup) : (f.landingOf ps).Nodup := h.filter _

theorem Filing.shelvedSlots_nodup (u : Filing) : u.shelvedSlots.Nodup := by
  have hslots : (numbers 0 Config.docSlots).Nodup := List.nodup_range.map fun a b => Nat.add_left_cancel
  rw [Filing.shelvedSlots, Filing.slotsOf]
  exact hslots.filter _

theorem Filing.goneSlots_nodup (u : Filing) : u.goneSlots.Nodup := u.shelvedSlots_nodup.filter _

section
variable (a : f.rebuiltTo u) (w : f.walked)
include a w

theorem Filing.rebuiltTo.slotsApart : u.slotsApart where
  pages j k hjk p hj hk := by
    rw [a.docPages] at hj hk
    exact hjk ((w.of_mem_list hj).2.symm.trans (w.of_mem_list hk).2)
  blocks j k hjk n hj hk := by
    obtain ⟨p, hp, hnp⟩ := a.mem_docBlocks.mp hj
    obtain ⟨q, hq, hnq⟩ := a.mem_docBlocks.mp hk
    obtain ⟨hkp, hop⟩ := w.of_mem_list hp
    obtain ⟨hkq, hoq⟩ := w.of_mem_list hq
    have hpq := w.chain_block_unique hkp hkq ((a.mem_chain hkp).mp hnp).1 ((a.mem_chain hkq).mp hnq).1
    exact hjk (by rw [← hop, ← hoq, hpq])

/-- The document of a page is released exactly where nothing holds it once EXPIRED is set (R98). -/
theorem Filing.rebuiltTo.mem_goneSlots (hp : p ∈ f.docPages k) : k ∈ u.goneSlots ↔ f.goesAtRebuild k := by
  have hz := Filing.pageCount_ne_zero_of_mem hp
  obtain ⟨hst, hk⟩ := w.live_slot hp
  have t := (a.doc k).ties hz
  have hid : u.bound (u.docId k) = f.bound (f.docId k) := by
    rw [Filing.bound, a.bindings, Filing.docId, t.gen, Filing.bound, Filing.docId]
  rw [Filing.mem_goneSlots, Doc.loose, hid, t.hold, t.expired, t.live, Filing.goesAtRebuild]
  exact ⟨fun h => .inr ⟨h.2.1.2.1, h.2.1.2.2.1, h.2.1.2.2.2, h.2.2⟩, fun h => h.elim (fun e => absurd e.2 hz)
    fun e => ⟨hk, ⟨(a.doc k).shelved hz hst, e.1, e.2.1, e.2.2.1⟩, e.2.2.2⟩⟩

theorem Filing.rebuiltTo.mem_gonePages :
    p ∈ u.goneSlots.flatMap u.docPages ↔ f.keepsPage p ∧ f.goesAtRebuild (f.page p).owner := by
  rw [List.mem_flatMap]
  constructor
  · rintro ⟨k, hk, hp⟩
    rw [a.docPages] at hp
    obtain ⟨hkp, hop⟩ := w.of_mem_list hp
    exact ⟨hkp, hop.symm ▸ (a.mem_goneSlots w hp).mp hk⟩
  · rintro ⟨hkp, hg⟩
    have hp := w.mem_list hkp
    exact ⟨_, (a.mem_goneSlots w hp).mpr hg, (a.docPages _).symm ▸ hp⟩

theorem Filing.rebuiltTo.mem_goneBlocks : n ∈ u.goneSlots.flatMap u.docBlocks ↔
    ∃ p, f.keepsPage p ∧ f.goesAtRebuild (f.page p).owner ∧ n ∈ u.pageChain p := by
  rw [List.mem_flatMap]
  constructor
  · rintro ⟨k, hk, hn⟩
    obtain ⟨p, hp, hnp⟩ := a.mem_docBlocks.mp hn
    obtain ⟨hkp, hop⟩ := w.of_mem_list hp
    exact ⟨p, hkp, hop.symm ▸ (a.mem_goneSlots w hp).mp hk, hnp⟩
  · rintro ⟨p, hkp, hg, hnp⟩
    have hp := w.mem_list hkp
    exact ⟨_, (a.mem_goneSlots w hp).mpr hg, a.mem_docBlocks.mpr ⟨p, hp, hnp⟩⟩

/-- The blocks that the rebuild scrubs behind the orphans: those trimmed by a close, then those of the documents released. -/
def Filing.scrubbedLate (f u : Filing) : List Nat := f.recoveryTrims ++ u.goneSlots.flatMap u.docBlocks

/-- A block of page p is scrubbed late where its document goes or the page's close trims it. -/
theorem Filing.rebuiltTo.mem_scrubbedLate (hp : f.keepsPage p) (hn : n ∈ f.pageChain p) : n ∈ f.scrubbedLate u ↔
    f.goesAtRebuild (f.page p).owner ∨
      ((f.page p).state = .landing ∧ keepCount (f.recoveredLen p) ≤ (f.block n).index) := by
  rw [Filing.scrubbedLate, List.mem_append, w.mem_recoveryTrims, a.mem_goneBlocks w]
  constructor
  · rintro (⟨q, hq, hnq⟩ | ⟨q, hkq, hg, hnq⟩)
    · obtain ⟨hnq, hle⟩ := Filing.mem_trimmedBlocks.mp hnq
      obtain rfl := w.chain_block_unique hp (Filing.keepsPage_of_landing hq) hn hnq
      exact .inr ⟨hq, hle⟩
    · obtain rfl := w.chain_block_unique hp hkq hn ((a.mem_chain hkq).mp hnq).1
      exact .inl hg
  · intro h
    by_cases ht : (f.page p).state = .landing ∧ keepCount (f.recoveredLen p) ≤ (f.block n).index
    · exact .inl ⟨p, ht.1, Filing.mem_trimmedBlocks.mpr ⟨hn, ht.2⟩⟩
    · refine .inr ⟨p, hp, h.resolve_right ht, (a.mem_chain hp).mpr ⟨hn, fun hl => ?_⟩⟩
      exact Nat.lt_of_not_le fun hle => ht ⟨hl, hle⟩

theorem Filing.rebuiltTo.mem_chained_of_late (hn : n ∈ f.scrubbedLate u) : n ∈ f.chained := by
  refine w.mem_chained.mpr ?_
  rcases List.mem_append.mp hn with h | h
  · obtain ⟨p, hp, hnp⟩ := w.mem_recoveryTrims.mp h
    exact ⟨p, Filing.keepsPage_of_landing hp, (Filing.mem_trimmedBlocks.mp hnp).1⟩
  · obtain ⟨p, hp, -, hnp⟩ := (a.mem_goneBlocks w).mp h
    exact ⟨p, hp, ((a.mem_chain hp).mp hnp).1⟩

theorem Filing.rebuiltTo.scrubbedLate_nodup : (f.scrubbedLate u).Nodup := by
  refine List.nodup_append.mpr ⟨?_, ?_, ?_⟩
  · refine List.nodup_flatMap.mpr ⟨fun p hp => ?_, ?_⟩
    · rw [(f.trimmedBlocks_perm p _).nodup_iff]
      exact (w.chain_nodup (Filing.keepsPage_of_landing (w.mem_landingOf.mp hp))).filter _
    · refine (f.landingOf_nodup w.apart.nodup).imp_of_mem fun {p q} hp hq hpq n hnp hnq => ?_
      exact hpq (w.chain_block_unique (Filing.keepsPage_of_landing (w.mem_landingOf.mp hp))
        (Filing.keepsPage_of_landing (w.mem_landingOf.mp hq)) (Filing.mem_trimmedBlocks.mp hnp).1
        (Filing.mem_trimmedBlocks.mp hnq).1)
  · refine List.nodup_flatMap.mpr ⟨fun k _ => ?_, u.goneSlots_nodup.imp fun {j k} hjk n hj hk =>
      (a.slotsApart w).blocks j k hjk n hj hk⟩
    rw [Filing.docBlocks, a.docPages]
    refine List.nodup_flatMap.mpr ⟨fun p hp => a.chain_nodup w (w.of_mem_list hp).1, ?_⟩
    refine (w.list_nodup k).imp_of_mem fun {p q} hp hq hpq n hnp hnq => hpq ?_
    have hkp := (w.of_mem_list hp).1
    have hkq := (w.of_mem_list hq).1
    exact w.chain_block_unique hkp hkq ((a.mem_chain hkp).mp hnp).1 ((a.mem_chain hkq).mp hnq).1
  · rintro n hn m hm rfl
    obtain ⟨p, hp, hnp⟩ := w.mem_recoveryTrims.mp hn
    obtain ⟨hnp, hle⟩ := Filing.mem_trimmedBlocks.mp hnp
    obtain ⟨q, hkq, -, hnq⟩ := (a.mem_goneBlocks w).mp hm
    obtain ⟨hnq, hlt⟩ := (a.mem_chain hkq).mp hnq
    obtain rfl := w.chain_block_unique (Filing.keepsPage_of_landing hp) hkq hnp hnq
    exact absurd hle (Nat.not_le.mpr (hlt hp))

end

/-- The blocks of the page chains, slot by slot. -/
theorem Filing.chained_eq (f : Filing) :
    f.chained = (List.range 1024).flatMap fun k => (f.docPages k).flatMap fun p => f.pageChain p := by
  have hslots : numbers 0 Config.docSlots = List.range 1024 := by
    rw [numbers]
    simp only [Nat.zero_add, List.map_id']
    rfl
  rw [Filing.chained, Filing.allPages, hslots, List.flatMap_assoc]

/-! ## The tables at the end -/

theorem Filing.walked.rebuildReleased (w : f.walked) :
    f.rebuildListed.releasedDocs f.rebuildListed.goneSlots f.rebuildReleased := by
  rw [Filing.rebuildReleased, Filing.goneSlots]
  exact Filing.checkReleases_releasedDocs (Filing.shelvedSlots_nodup _) (w.rebuildListed.slotsApart w)

theorem State.rebuild_filing (s : State) : s.rebuild.filing = s.filing.rebuild := by
  unfold State.rebuild
  dsimp only

theorem Filing.rebuild_block (f : Filing) (n : Nat) : f.rebuild.block n = f.rebuildReleased.block n := by
  rw [Filing.block, f.rebuild_eq, Filing.rebuildFinished_blocks, Filing.block]

theorem Filing.rebuild_page (f : Filing) (p : Nat) : f.rebuild.page p = f.rebuildReleased.page p := by
  rw [Filing.page, f.rebuild_eq, Filing.rebuildFinished_pages, Filing.page]

section
variable (w : f.walked)
include w

/-- The blocks that the rebuild scrubs behind the orphans. -/
theorem Filing.walked.rebuild_block_late (hn : n ∈ f.scrubbedLate f.rebuildListed) :
    f.rebuild.block n = BlockEntry.scrubbed := by
  rw [Filing.rebuild_block]
  by_cases hg : n ∈ f.rebuildListed.goneSlots.flatMap f.rebuildListed.docBlocks
  · exact w.rebuildReleased.block n hg
  · rw [w.rebuildReleased.block_other n hg]
    exact w.rebuildListed.trimmed n ((List.mem_append.mp hn).resolve_right hg)

theorem Filing.walked.rebuild_block_other (hn : n ∉ f.chained) : f.rebuild.block n = f.rebuildBlocks.block n := by
  have hlate : n ∉ f.scrubbedLate f.rebuildListed := fun h => hn (w.rebuildListed.mem_chained_of_late w h)
  rw [Filing.rebuild_block, w.rebuildReleased.block_other n fun h => hlate (List.mem_append_right _ h)]
  exact w.rebuildListed.block_other n hn

theorem Filing.walked.rebuild_page_gone (hp : f.keepsPage p) (hg : f.goesAtRebuild (f.page p).owner) :
    f.rebuild.page p = Page.freed := by
  rw [Filing.rebuild_page]
  exact w.rebuildReleased.page p ((w.rebuildListed.mem_gonePages w).mpr ⟨hp, hg⟩)

/-- A page whose document stays is as the closes leave it. -/
theorem Filing.walked.rebuild_page_kept (hg : ¬ (f.keepsPage p ∧ f.goesAtRebuild (f.page p).owner)) :
    f.rebuild.page p = f.rebuildListed.page p := by
  rw [Filing.rebuild_page]
  exact w.rebuildReleased.page_other p (mt (w.rebuildListed.mem_gonePages w).mp hg)

theorem Filing.walked.rebuild_holdsPage (hp : f.keepsPage p) (hg : ¬ f.goesAtRebuild (f.page p).owner) :
    f.rebuildListed.holdsPage p f.rebuild := by
  refine ⟨w.rebuild_page_kept fun h => hg h.2, fun n hn => ?_⟩
  rw [Filing.rebuild_block]
  refine w.rebuildReleased.block_other n fun h => hg ?_
  obtain ⟨q, hkq, hgq, hnq⟩ := (w.rebuildListed.mem_goneBlocks w).mp h
  exact w.chain_block_unique hp hkq ((w.rebuildListed.mem_chain hp).mp hn).1 ((w.rebuildListed.mem_chain hkq).mp hnq).1 ▸ hgq

end

end

end Sys2Proof.Machine

open Sys2Proof Sys2Proof.Machine

/-- Settles O50: the Block Table rebuilt, every LANDING page closed (`Filing.walked.rebuildListed`), the documents that nothing
holds released (`Filing.walked.rebuildReleased`). -/
theorem rebuildSettlesBlocksAndPages : Obligations.RebuildSettlesBlocksAndPages := by
  intro s h w
  obtain ⟨hp, hk⟩ := (State.startsAt_iff s _).mp h
  have hrun : exec .rebuild s = .next (s.granted .flush).rebuild :=
    State.startUnit_eq (p := fun p => p == .rebuilding) (by rw [hp]; rfl) hk
  refine ⟨_, s.filing.scrubbedLate s.filing.rebuildListed, hrun, ?_⟩
  rw [State.rebuild_filing, State.granted_filing]
  generalize s.filing = f at w ⊢
  have a := w.rebuildListed
  have hblocks : f.rebuild.blocks = f.rebuildReleased.blocks := by rw [f.rebuild_eq, Filing.rebuildFinished_blocks]
  have husable : usableBlocks f.blockCount = (List.range (f.blockCount - 128)).map (128 + ·) := rfl
  have hchained (n : Nat) : n ∈ (List.range 1024).flatMap (fun k => (f.docPages k).flatMap fun p => f.pageChain p) ↔
      n ∈ f.chained := by
    rw [f.chained_eq]
  refine ⟨?_, ?_, a.scrubbedLate_nodup w, fun n h1 h2 hn => ?_, fun n hn => ⟨?_, w.rebuild_block_late hn⟩, fun p hp => ?_,
    fun p hp => ⟨fun n hn => a.mem_scrubbedLate w hp hn, w.rebuild_page_gone hp, fun hg hst => ?_, fun hg hst => ?_⟩⟩
  · rw [hblocks, w.rebuildReleased.free, a.free, w.rebuildBlocks_free, husable]
  · rw [hblocks, w.rebuildReleased.scrub, a.scrub, w.rebuildBlocks_scrub, List.append_assoc]
    simp only [hchained]
    rw [husable, Filing.scrubbedLate]
  · rw [w.rebuild_block_other (mt (hchained n).mpr hn),
      w.rebuildBlocks_block_other (mem_usableBlocks.mpr ⟨h1, h2⟩) (mt (hchained n).mpr hn)]
    split_ifs <;> rfl
  · exact (hchained n).mpr (a.mem_chained_of_late w hn)
  · rw [w.rebuild_page_kept fun h => hp h.1, a.free_page p hp]
  · have hold := (a.closed p hp (by rw [hst]; exact fun e => nomatch e)).trans (w.rebuild_holdsPage hp hg)
    exact ⟨hold.page, hold.chain, hold.block⟩
  · have hold := w.rebuild_holdsPage hp hg
    obtain ⟨hpage, hchain, hfiled⟩ := a.landing p hst
    have hcount := (f.keptBlocks_perm p (f.recoveredLen p)).length_eq
    have hholes : f.chainHoles p (keepCount (f.recoveredLen p)) = ((List.range (keepCount (f.recoveredLen p))).filter fun j =>
        !(f.pageChain p).any fun n => (f.block n).index == j).length := by
      rw [Filing.chainHoles, numbers]
      simp only [Nat.zero_add, List.map_id']
    refine ⟨?_, ?_, ?_, fun n hn => ?_⟩
    · rw [hold.page, hpage, Filing.recoveredPage, hcount, hholes]
      rfl
    · rw [hold.chain, hchain]
      exact f.keptBlocks_perm ..
    · rw [hold.chain, hchain]
      exact (sortBy_pairwise _ _).filter _
    · have hn := (f.keptBlocks_perm p (f.recoveredLen p)).mem_iff.mpr hn
      rw [hold.block n (hchain.symm ▸ hn)]
      exact hfiled n hn

end

section
/-! PROOFS. Tables in the order of their keys, as the recovery walk builds them. -/

namespace Sys2Proof.Machine

section
variable {α : Type} {t : Tbl α} {i : Nat}

/-- Keys in strictly rising order. -/
def Tbl.sorted (t : Tbl α) : Prop := (t.map fun x => x.1).Pairwise (· < ·)

theorem Tbl.sorted_nil : Tbl.sorted ([] : Tbl α) := List.Pairwise.nil

theorem Tbl.mem_keys_put (x : α) (j : Nat) :
    j ∈ (Tbl.put t i x).map (fun y => y.1) ↔ j = i ∨ j ∈ t.map fun y => y.1 := by
  induction t with
  | nil => simp [Tbl.put]
  | cons y t ih =>
    obtain ⟨k, v⟩ := y
    rw [Tbl.put]
    split_ifs with h1 h2
    · subst h1
      simp
    · simp
    · rw [List.map_cons, List.mem_cons, ih, List.map_cons, List.mem_cons]
      exact or_left_comm

theorem Tbl.sorted.put (h : Tbl.sorted t) (x : α) : Tbl.sorted (Tbl.put t i x) := by
  induction t with
  | nil => exact List.pairwise_singleton ..
  | cons y t ih =>
    obtain ⟨k, v⟩ := y
    obtain ⟨hk, ht⟩ := List.pairwise_cons.mp h
    rw [Tbl.put]
    split_ifs with h1 h2
    · subst h1
      exact h
    · refine List.pairwise_cons.mpr ⟨fun j hj => ?_, h⟩
      rcases List.mem_cons.mp hj with rfl | hj
      · exact h2
      · exact h2.trans (hk j hj)
    · refine List.pairwise_cons.mpr ⟨fun j hj => ?_, ih ht⟩
      rcases (Tbl.mem_keys_put x j).mp hj with rfl | hj
      · exact Nat.lt_of_le_of_ne (Nat.le_of_not_lt h2) h1
      · exact hk j hj

/-- A record replaced where its key stands. -/
theorem Tbl.keys_put (h : Tbl.sorted t) (hi : i ∈ t.map fun x => x.1) (x : α) :
    (Tbl.put t i x).map (fun y => y.1) = t.map fun y => y.1 := by
  refine (h.put x).eq_of_mem_iff h fun j => ?_
  rw [Tbl.mem_keys_put]
  exact or_iff_right_of_imp fun e => e ▸ hi

end

end Sys2Proof.Machine

end

section
/-! PROOFS. The records that the recovery walk restores (R184): documents and pages as their words show them, torn ones told. -/

namespace Sys2Proof.Machine

section
variable {f g h : Filing} {errs : List RecordId} {st : Store} {k p : Nat}

/-! ## TORN (R172) -/

/-- g is f further on in the walk: what the start-up has found out stands, and TORN stays latched. -/
structure Filing.walksOn (f g : Filing) : Prop where
  boot : g.boot = { f.boot with tornCount := g.boot.tornCount }
  torn : f.monitors.latches.getLsbD 9 = true → g.monitors.latches.getLsbD 9 = true

theorem Filing.walksOn_refl (f : Filing) : f.walksOn f := ⟨rfl, id⟩

theorem Filing.walksOn.trans (a : f.walksOn g) (b : g.walksOn h) : f.walksOn h :=
  ⟨by rw [b.boot, a.boot], fun x => b.torn (a.torn x)⟩

theorem Filing.walksOn.of_eq (a : f.walksOn g) (hb : h.boot = g.boot) (hm : h.monitors.latches = g.monitors.latches) :
    f.walksOn h := ⟨by rw [hb]; exact a.boot, by rw [hm]; exact a.torn⟩

theorem Filing.latchTorn_dir (r : RecordId) (d : Option Nat) : (f.latchTorn r d).dir = f.dir := by
  unfold Filing.latchTorn
  rw [Filing.latch_dir]

/-- TORN cannot be masked (R168). -/
theorem Filing.latchTorn_latches (r : RecordId) (d : Option Nat) :
    (f.latchTorn r d).monitors.latches = f.monitors.latches ||| latchBit .torn := by
  unfold Filing.latchTorn
  rw [Filing.latch_latches]
  rfl

theorem Filing.latchTorn_torn (r : RecordId) (d : Option Nat) : (f.latchTorn r d).monitors.latches.getLsbD 9 = true := by
  rw [Filing.latchTorn_latches, BitVec.getLsbD_or, latchBit_getLsbD (by omega), Bool.or_eq_true]
  exact .inr rfl

theorem Filing.walksOn.latchTorn (a : f.walksOn g) (r : RecordId) (d : Option Nat) : f.walksOn (g.latchTorn r d) := by
  refine a.trans ⟨?_, fun _ => Filing.latchTorn_torn r d⟩
  unfold Filing.latchTorn
  rw [Filing.latch_boot]

theorem Filing.walksOn.foldl {op : Filing → Nat → Filing} (l : List Nat) (a : f.walksOn g)
    (step : ∀ (x : Filing) i, x.walksOn (op x i)) : f.walksOn (l.foldl op g) := by
  induction l generalizing g with
  | nil => exact a
  | cons i l ih => exact ih (a.trans (step g i))

/-! ## What the words of a record show -/

/-- Document record k as its words show it; none where it is torn. -/
def Store.shownDoc (errs : List RecordId) (st : Store) (k : Nat) : Option Doc :=
  (st.recordWords errs (.document k) (Config.docBase + 0x100 * k) 64).bind restoreDoc

/-- Page record p as its words show it; none where it is torn. -/
def Store.shownPage (errs : List RecordId) (st : Store) (p : Nat) : Option Page :=
  if RecordId.page p ∈ errs then none else restorePage (st.pageWords p)

/-- The record of slot k as the walk restores it. -/
def Store.restoredDoc (errs : List RecordId) (st : Store) (k : Nat) : Doc :=
  (st.shownDoc errs k).getD (Doc.freed (tornGeneration (st.docWords k)))

/-- Page record p as the walk restores it. -/
def Store.restoredPage (errs : List RecordId) (st : Store) (p : Nat) : Page :=
  if p < 8192 then (st.shownPage errs p).getD Page.freed else Page.freed

/-- A page record that can be read is FREE, or names a slot and counts 255 blocks at most. -/
theorem restorePage_cases {ws : List Word} {g : Page} (h : restorePage ws = some g) :
    g = Page.freed ∨ (g.state ≠ .free ∧ g.owner < 1024 ∧ g.count < 256) := by
  unfold restorePage at h
  dsimp only at h
  split at h
  · rename_i st _ _ _
    obtain ⟨-, h⟩ := Option.ite_none_right_eq_some.mp h
    rw [← Option.some.inj h]
    by_cases hst : st = .free
    · exact .inl (if_pos hst)
    · rw [if_neg hst]
      exact .inr ⟨hst, Nat.mod_lt _ (by decide), Nat.mod_lt _ (by decide)⟩
  · cases h

/-- A document record of state FREE shows its generation alone. -/
theorem restoreDoc_of_free {ws : List Word} {d : Doc} (h : restoreDoc ws = some d) (hd : d.state = .free) :
    d = Doc.freed d.gen := by
  unfold restoreDoc at h
  dsimp only at h
  split at h
  · rename_i st _ _ _ _ _ _ _ _ _
    split at h
    · obtain ⟨-, h⟩ := Option.ite_none_right_eq_some.mp h
      rw [← Option.some.inj h] at hd ⊢
      by_cases hst : st = .free
      · rw [if_pos hst]; rfl
      · rw [if_neg hst] at hd
        exact absurd hd hst
    · cases h
  · cases h

/-! ## The records restored one by one -/

theorem Filing.restoreDocAt_eq (errs : List RecordId) (st : Store) (k : Nat) (f : Filing) : f.restoreDocAt errs st k =
    f.setDoc k (st.restoredDoc errs k) ∨
      ∃ d, f.restoreDocAt errs st k = (f.setDoc k (st.restoredDoc errs k)).latchTorn (.document k) d := by
  unfold Filing.restoreDocAt Store.restoredDoc Store.shownDoc
  split
  · rename_i h
    rw [h]; exact .inl rfl
  · rename_i h
    rw [h]; exact .inr ⟨_, rfl⟩

theorem Filing.restoreDocAt_dir (errs : List RecordId) (st : Store) (k : Nat) (f : Filing) :
    (f.restoreDocAt errs st k).dir = (f.setDoc k (st.restoredDoc errs k)).dir := by
  rcases f.restoreDocAt_eq errs st k with h | ⟨d, h⟩ <;> rw [h]
  rw [Filing.latchTorn_dir]

theorem Filing.restoreDocAt_walksOn (errs : List RecordId) (st : Store) (k : Nat) (f : Filing) :
    f.walksOn (f.restoreDocAt errs st k) := by
  have hset : f.walksOn (f.setDoc k (st.restoredDoc errs k)) := f.walksOn_refl.of_eq rfl rfl
  rcases f.restoreDocAt_eq errs st k with h | ⟨d, h⟩ <;> rw [h]
  · exact hset
  · exact hset.latchTorn _ _

theorem Filing.restorePageAt_of_some {g : Page} (h : st.shownPage errs p = some g) :
    f.restorePageAt errs st p = if g.state = .free then f else f.setPage p g := by
  unfold Filing.restorePageAt
  rw [Store.shownPage] at h
  simp only [h]

theorem Filing.restorePageAt_of_none (h : st.shownPage errs p = none) :
    ∃ d, f.restorePageAt errs st p = f.latchTorn (.page p) d := by
  unfold Filing.restorePageAt
  rw [Store.shownPage] at h
  simp only [h]
  exact ⟨_, rfl⟩

theorem Filing.restorePageAt_walksOn (errs : List RecordId) (st : Store) (p : Nat) (f : Filing) :
    f.walksOn (f.restorePageAt errs st p) := by
  cases h : st.shownPage errs p with
  | none =>
    obtain ⟨d, hd⟩ := f.restorePageAt_of_none h
    rw [hd]
    exact f.walksOn_refl.latchTorn _ _
  | some g =>
    rw [Filing.restorePageAt_of_some h]
    split_ifs
    · exact f.walksOn_refl
    · exact f.walksOn_refl.of_eq rfl rfl

theorem Filing.restorePageAt_docs (errs : List RecordId) (st : Store) (p : Nat) (f : Filing) :
    (f.restorePageAt errs st p).dir.docs = f.dir.docs := by
  cases h : st.shownPage errs p with
  | none =>
    obtain ⟨d, hd⟩ := f.restorePageAt_of_none h
    rw [hd, Filing.latchTorn_dir]
  | some g =>
    rw [Filing.restorePageAt_of_some h]
    split_ifs <;> rfl

/-- Page record p restored; where none is set, the record reads FREE as before. -/
theorem Filing.restorePageAt_pages (errs : List RecordId) (st : Store) (p : Nat) (f : Filing) :
    (f.restorePageAt errs st p).dir.pages = Tbl.put f.dir.pages p ((st.shownPage errs p).getD Page.freed) ∨
      ((st.shownPage errs p).getD Page.freed = Page.freed ∧ (f.restorePageAt errs st p).dir.pages = f.dir.pages) := by
  cases h : st.shownPage errs p with
  | none =>
    obtain ⟨d, hd⟩ := f.restorePageAt_of_none h
    rw [hd, Filing.latchTorn_dir]
    exact .inr ⟨rfl, rfl⟩
  | some g =>
    rw [Filing.restorePageAt_of_some h]
    split_ifs with hg
    · rw [Store.shownPage] at h
      split_ifs at h
      exact .inr ⟨(restorePage_cases h).resolve_right fun e => e.1 hg, rfl⟩
    · exact .inl rfl

theorem Filing.restoreMailboxAt_walksOn (m : Nat) :
    f.walksOn (f.restoreMailboxAt errs st m) ∧ (f.restoreMailboxAt errs st m).dir = f.dir := by
  unfold Filing.restoreMailboxAt
  split
  · exact ⟨f.walksOn_refl.of_eq rfl rfl, rfl⟩
  · exact ⟨f.walksOn_refl.latchTorn _ _, Filing.latchTorn_dir _ _⟩

theorem Filing.restoreRouteAt_walksOn (e : Nat) :
    f.walksOn (f.restoreRouteAt errs st e) ∧ (f.restoreRouteAt errs st e).dir = f.dir := by
  unfold Filing.restoreRouteAt
  split
  · split_ifs
    · exact ⟨f.walksOn_refl.of_eq rfl rfl, rfl⟩
    · exact ⟨f.walksOn_refl.of_eq rfl rfl, rfl⟩
  · exact ⟨f.walksOn_refl, rfl⟩
  · exact ⟨f.walksOn_refl.latchTorn _ _, Filing.latchTorn_dir _ _⟩

theorem Filing.restorePolicyAt_walksOn :
    f.walksOn (f.restorePolicyAt errs st) ∧ (f.restorePolicyAt errs st).dir = f.dir := by
  have h0 : f.walksOn { f with monitors := { f.monitors with policy := Policy.fresh } } := f.walksOn_refl.of_eq rfl rfl
  unfold Filing.restorePolicyAt
  split
  · exact ⟨f.walksOn_refl.of_eq rfl rfl, rfl⟩
  · exact ⟨h0.latchTorn _ _, Filing.latchTorn_dir _ _⟩

theorem Filing.restoreChannelAt_walksOn (c : Nat) :
    f.walksOn (f.restoreChannelAt errs st c) ∧ (f.restoreChannelAt errs st c).dir = f.dir := by
  unfold Filing.restoreChannelAt
  split <;> exact ⟨f.walksOn_refl.of_eq rfl rfl, rfl⟩

/-! ## Every record restored -/

theorem mem_numbers_zero {n i : Nat} : i ∈ numbers 0 n ↔ i < n := by
  rw [mem_numbers, Nat.zero_add]
  exact and_iff_right (Nat.zero_le i)

/-- The document records of a list restored, from tables with none. -/
theorem Filing.restoreDocs_spec (errs : List RecordId) (st : Store) (f : Filing) (l : List Nat) :
    let h := l.foldl (fun f s => f.restoreDocAt errs st s) f.emptyTables
    f.walksOn h ∧ h.dir.pages = [] ∧ (∀ k ∈ l, h.doc k = st.restoredDoc errs k) ∧ ∀ k, k ∉ l → h.doc k = Doc.freed 0 := by
  refine foldl_snoc (R := fun done (y : Filing) => f.walksOn y ∧ y.dir.pages = [] ∧
    (∀ k ∈ done, y.doc k = st.restoredDoc errs k) ∧ ∀ k, k ∉ done → y.doc k = Doc.freed 0)
    ⟨f.walksOn_refl.of_eq rfl rfl, rfl, fun _ h => absurd h List.not_mem_nil, fun _ _ => rfl⟩ ?_
  rintro done x rest y - ⟨hw, hp, hd, hno⟩
  have hdir := y.restoreDocAt_dir errs st x
  have hdoc (k : Nat) : (y.restoreDocAt errs st x).doc k = (y.setDoc x (st.restoredDoc errs x)).doc k := by
    rw [Filing.doc, hdir, Filing.doc]
  refine ⟨hw.trans (y.restoreDocAt_walksOn errs st x), by rw [hdir]; exact hp, fun k hk => ?_, fun k hk => ?_⟩ <;> rw [hdoc]
  · by_cases hx : k = x
    · subst hx; exact Filing.doc_setDoc ..
    · rw [Filing.doc_setDoc_ne _ _ hx]
      exact hd k ((List.mem_append.mp hk).resolve_right fun h => hx (List.mem_singleton.mp h))
  · obtain ⟨h1, h2⟩ := not_or.mp (mt List.mem_append.mpr hk)
    rw [Filing.doc_setDoc_ne _ _ fun e => h2 (List.mem_singleton.mpr e), hno k h1]

theorem Filing.restorePageAt_page (errs : List RecordId) (st : Store) (p : Nat) (f : Filing) (hf : (f.page p) = Page.freed) :
    (f.restorePageAt errs st p).page p = (st.shownPage errs p).getD Page.freed := by
  rcases f.restorePageAt_pages errs st p with h | ⟨hfree, h⟩ <;> rw [Filing.page, h]
  · rw [Tbl.find_put_self]; rfl
  · rw [hfree]; exact hf

theorem Filing.restorePageAt_page_ne {q : Nat} (errs : List RecordId) (st : Store) (hq : q ≠ p) :
    (f.restorePageAt errs st p).page q = f.page q := by
  rcases f.restorePageAt_pages errs st p with h | ⟨-, h⟩ <;> rw [Filing.page, h]
  · rw [Tbl.find_put_ne _ _ hq, Filing.page]
  · rfl

/-- The page records of a list restored, from tables with none. -/
theorem Filing.restorePages_spec (errs : List RecordId) (st : Store) {l : List Nat} (hl : l.Nodup) (hw : f.walksOn g)
    (hg : g.dir.pages = []) :
    let h := l.foldl (fun f p => f.restorePageAt errs st p) g
    f.walksOn h ∧ h.dir.docs = g.dir.docs ∧ Tbl.sorted h.dir.pages ∧
    (∀ p ∈ l, h.page p = (st.shownPage errs p).getD Page.freed) ∧ (∀ p, p ∉ l → h.page p = Page.freed) ∧
    ∀ p ∈ l, st.shownPage errs p = none → h.monitors.latches.getLsbD 9 = true := by
  refine foldl_snoc (R := fun done (y : Filing) => f.walksOn y ∧ y.dir.docs = g.dir.docs ∧ Tbl.sorted y.dir.pages ∧
    (∀ p ∈ done, y.page p = (st.shownPage errs p).getD Page.freed) ∧ (∀ p, p ∉ done → y.page p = Page.freed) ∧
    ∀ p ∈ done, st.shownPage errs p = none → y.monitors.latches.getLsbD 9 = true)
    ⟨hw, rfl, by rw [hg]; exact Tbl.sorted_nil, fun _ h => absurd h List.not_mem_nil, fun p _ => ?_,
      fun _ h => absurd h List.not_mem_nil⟩ ?_
  · rw [Filing.page, hg]
    rfl
  rintro done x rest y hsplit ⟨hw, hd, hs, hpage, hno, ht⟩
  subst hsplit
  have hx : x ∉ done := fun h => (List.nodup_append.mp hl).2.2 x h x List.mem_cons_self rfl
  have hwx := y.restorePageAt_walksOn errs st x
  refine ⟨hw.trans hwx, (y.restorePageAt_docs errs st x).trans hd, ?_, fun p hp => ?_, fun p hp => ?_, fun p hp hnone => ?_⟩
  · rcases y.restorePageAt_pages errs st x with h | ⟨-, h⟩ <;> rw [h]
    · exact hs.put _
    · exact hs
  · rcases List.mem_append.mp hp with hp | hp
    · rw [Filing.restorePageAt_page_ne _ _ (fun e : p = x => hx (e ▸ hp))]
      exact hpage p hp
    · obtain rfl := List.mem_singleton.mp hp
      exact y.restorePageAt_page errs st p (hno p hx)
  · obtain ⟨h1, h2⟩ := not_or.mp (mt List.mem_append.mpr hp)
    rw [Filing.restorePageAt_page_ne _ _ fun e => h2 (List.mem_singleton.mpr e), hno p h1]
  · rcases List.mem_append.mp hp with hp | hp
    · exact hwx.torn (ht p hp hnone)
    · obtain rfl := List.mem_singleton.mp hp
      obtain ⟨d, h⟩ := y.restorePageAt_of_none hnone
      rw [h]
      exact Filing.latchTorn_torn ..

/-- What the walk has restored of documents and pages (R184). -/
structure Filing.restored (errs : List RecordId) (st : Store) (f g : Filing) : Prop where
  on : f.walksOn g
  sorted : Tbl.sorted g.dir.pages
  page : ∀ p, g.page p = st.restoredPage errs p
  doc : ∀ k, g.doc k = if k < 1024 then st.restoredDoc errs k else Doc.freed 0
  torn : ∀ p, p < 8192 → st.shownPage errs p = none → g.monitors.latches.getLsbD 9 = true

theorem Filing.restored.further (a : f.restored errs st g) (hw : g.walksOn h) (hd : h.dir = g.dir) :
    f.restored errs st h where
  on := a.on.trans hw
  sorted := hd ▸ a.sorted
  page p := by rw [Filing.page, hd]; exact a.page p
  doc k := by rw [Filing.doc, hd]; exact a.doc k
  torn p hp hn := hw.torn (a.torn p hp hn)

theorem Filing.restored.foldl {op : Filing → Nat → Filing} (l : List Nat) (a : f.restored errs st g)
    (step : ∀ (x : Filing) i, x.walksOn (op x i) ∧ (op x i).dir = x.dir) : f.restored errs st (l.foldl op g) := by
  induction l generalizing g with
  | nil => exact a
  | cons i l ih => exact ih (a.further (step g i).1 (step g i).2)

theorem numbers_nodup (a n : Nat) : (numbers a n).Nodup := List.nodup_range.map fun _ _ => Nat.add_left_cancel

theorem Filing.restoreRecords_restored (errs : List RecordId) (st : Store) (f : Filing) :
    f.restored errs st (f.restoreRecords errs st) := by
  unfold Filing.restoreRecords
  dsimp only
  obtain ⟨hw, hp, hd, hno⟩ := f.restoreDocs_spec errs st (numbers 0 Config.docSlots)
  generalize (numbers 0 Config.docSlots).foldl (fun f s => f.restoreDocAt errs st s) f.emptyTables = f1 at *
  obtain ⟨hw, hdocs, hs, hpage, hpno, ht⟩ := Filing.restorePages_spec errs st (numbers_nodup 0 Config.pageRecords) hw hp
  generalize (numbers 0 Config.pageRecords).foldl (fun f p => f.restorePageAt errs st p) f1 = f2 at *
  have a : f.restored errs st f2 := by
    refine ⟨hw, hs, fun p => ?_, fun k => ?_, fun p h => ht p (mem_numbers_zero.mpr h)⟩
    · rw [Store.restoredPage]
      split_ifs with h
      · exact hpage p (mem_numbers_zero.mpr h)
      · exact hpno p (mt mem_numbers_zero.mp h)
    · rw [Filing.doc, hdocs, ← Filing.doc]
      split_ifs with h
      · exact hd k (mem_numbers_zero.mpr h)
      · exact hno k (mt mem_numbers_zero.mp h)
  have a3 := a.foldl (op := fun f m => f.restoreMailboxAt errs st m) (numbers 0 Config.mailboxCount)
    fun _ m => Filing.restoreMailboxAt_walksOn m
  have a4 := a3.foldl (op := fun f e => f.restoreRouteAt errs st e) (numbers 0 Config.routeCount)
    fun _ e => Filing.restoreRouteAt_walksOn e
  exact (a4.further Filing.restorePolicyAt_walksOn.1 Filing.restorePolicyAt_walksOn.2).foldl
    (op := fun f c => f.restoreChannelAt errs st c) channelNumbers fun _ c => Filing.restoreChannelAt_walksOn c

end

end Sys2Proof.Machine

end

section
/-! PROOFS. The recovery walk's settlement of each document's pages (R184): of two pages of one sequence number one is kept. -/

namespace Sys2Proof.Machine

section
variable {f g h : Filing} {t : Tbl Page} {k p s : Nat}

/-! ## Changes of the directory alone -/

/-- g is f but for its directory. -/
def Filing.dirOnly (f g : Filing) : Prop := g = { f with dir := g.dir }

theorem Filing.dirOnly_refl (f : Filing) : f.dirOnly f := rfl

theorem Filing.dirOnly.trans (a : f.dirOnly g) (b : g.dirOnly h) : f.dirOnly h := by
  rw [Filing.dirOnly] at a b ⊢
  rw [b, a]

theorem Filing.dirOnly.foldl {op : Filing → Nat → Filing} (l : List Nat) (a : f.dirOnly g)
    (step : ∀ (x : Filing) i, x.dirOnly (op x i)) : f.dirOnly (l.foldl op g) := by
  induction l generalizing g with
  | nil => exact a
  | cons i l ih => exact ih (a.trans (step g i))

theorem Filing.setPage_dirOnly (p : Nat) (x : Page) (f : Filing) : f.dirOnly (f.setPage p x) := rfl

theorem Filing.setDoc_dirOnly (s : Nat) (x : Doc) (f : Filing) : f.dirOnly (f.setDoc s x) := rfl

theorem Tbl.find_of_not_mem {α : Type} {u : Tbl α} {i : Nat} (h : i ∉ u.map fun x => x.1) : Tbl.find u i = none := by
  induction u with
  | nil => rfl
  | cons x u ih =>
    obtain ⟨h1, h2⟩ := not_or.mp (mt List.mem_cons.mpr h)
    rw [Tbl.find, if_neg (Ne.symm h1), ih h2]

/-! ## The pages that name a slot -/

/-- Page record p names slot s. -/
def Filing.names (s p : Nat) (f : Filing) : Prop := (f.page p).state ≠ .free ∧ (f.page p).owner = s

theorem Filing.namingPages_eq (hf : Tbl.sorted f.dir.pages) (s : Nat) : f.namingPages s =
    (f.dir.pages.map fun x => x.1).filter fun p => (f.page p).state != .free && (f.page p).owner == s :=
  Tbl.keys_filter (hf.imp fun h => Nat.ne_of_lt h) Page.freed fun g => g.state != .free && g.owner == s

theorem Filing.mem_namingPages (hf : Tbl.sorted f.dir.pages) : p ∈ f.namingPages s ↔ f.names s p := by
  rw [Filing.namingPages_eq hf, List.mem_filter, Bool.and_eq_true, bne_iff_ne, beq_iff_eq, Filing.names]
  refine and_iff_right_of_imp fun h => ?_
  by_contra hno
  refine h.1 ?_
  rw [Filing.page, Tbl.find_of_not_mem hno]
  rfl

theorem Filing.namingPages_rising (hf : Tbl.sorted f.dir.pages) : (f.namingPages s).Pairwise (· < ·) := by
  rw [Filing.namingPages_eq hf]
  exact hf.filter _

theorem Filing.namingPages_congr (hf : Tbl.sorted f.dir.pages) (hg : Tbl.sorted g.dir.pages)
    (h : ∀ p, f.names s p ∨ g.names s p → g.page p = f.page p) : g.namingPages s = f.namingPages s := by
  refine (Filing.namingPages_rising hg).eq_of_mem_iff (Filing.namingPages_rising hf) fun p => ?_
  rw [Filing.mem_namingPages hf, Filing.mem_namingPages hg]
  constructor
  · intro hp
    rwa [Filing.names, h p (.inr hp)] at hp
  · intro hp
    rwa [Filing.names, ← h p (.inl hp)] at hp

/-! ## The pages kept -/

/-- The page records that the recorded list of slot s reaches, in order. -/
def Filing.reached (t : Tbl Page) (s : Nat) (f : Filing) : List Nat :=
  followPages t Config.pageRecords (f.doc s).firstPage

/-- The pages of slot s that the walk keeps, in ascending sequence number. -/
def Filing.keepers (t : Tbl Page) (s : Nat) (f : Filing) : List Nat :=
  if (f.doc s).state = .free then []
  else sortBy (fun p => (f.page p).seq) ((f.namingPages s).filter fun p =>
    f.keptPage (f.reached t s) (f.namingPages s) (f.page p).seq == some p)

/-- The pages that name slot s and are dropped. -/
def Filing.dropped (t : Tbl Page) (s : Nat) (f : Filing) : List Nat :=
  (f.namingPages s).filter fun p => decide (p ∉ f.keepers t s)

/-- The record of slot s with its pages settled. -/
def Filing.settledDoc (t : Tbl Page) (s : Nat) (f : Filing) : Doc :=
  if (f.doc s).state = .free then f.doc s
  else { f.doc s with
    pageCount := (f.keepers t s).length, firstPage := (f.keepers t s).head?
    damaged := (f.doc s).damaged || !(f.dropped t s).isEmpty || (f.keepers t s).length != (f.doc s).pageCount }

theorem Filing.keepers_of_live (h : (f.doc s).state ≠ .free) : f.keepers t s =
    sortBy (fun p => (f.page p).seq) ((f.namingPages s).filter fun p =>
      f.keptPage (f.reached t s) (f.namingPages s) (f.page p).seq == some p) := if_neg h

theorem Filing.mem_keepers (hf : Tbl.sorted f.dir.pages) : p ∈ f.keepers t s ↔ (f.doc s).state ≠ .free ∧ f.names s p ∧
    f.keptPage (f.reached t s) (f.namingPages s) (f.page p).seq = some p := by
  by_cases hd : (f.doc s).state = .free
  · rw [Filing.keepers, if_pos hd]
    exact iff_of_false List.not_mem_nil fun h => h.1 hd
  · rw [Filing.keepers_of_live hd, (sortBy_perm _ _).mem_iff, List.mem_filter, Filing.mem_namingPages hf, beq_iff_eq]
    exact (and_iff_right hd).symm

theorem Filing.mem_dropped (hf : Tbl.sorted f.dir.pages) :
    p ∈ f.dropped t s ↔ f.names s p ∧ p ∉ f.keepers t s := by
  rw [Filing.dropped, List.mem_filter, Filing.mem_namingPages hf, decide_eq_true_eq]

/-- The page kept for a sequence number names the slot and has that number. -/
theorem Filing.keptPage_spec {reached cands : List Nat} {q : Nat} (h : f.keptPage reached cands q = some p) :
    p ∈ cands ∧ (f.page p).seq = q := by
  rw [Filing.keptPage, Option.or_eq_some_iff] at h
  rcases h with h | ⟨-, h⟩
  · have := List.find?_some h
    rw [Bool.and_eq_true, decide_eq_true_eq, beq_iff_eq] at this
    exact this
  · have hseq := List.find?_some h
    exact ⟨List.mem_of_find?_eq_some h, beq_iff_eq.mp hseq⟩

/-- Of the pages of a sequence number one is kept. -/
theorem Filing.keptPage_exists {reached cands : List Nat} (hp : p ∈ cands) :
    ∃ x, f.keptPage reached cands (f.page p).seq = some x := by
  have h : (f.keptPage reached cands (f.page p).seq).isSome = true := by
    rw [Filing.keptPage, Option.isSome_or, Bool.or_eq_true, List.find?_isSome, List.find?_isSome]
    exact .inr ⟨p, hp, beq_self_eq_true _⟩
  exact Option.isSome_iff_exists.mp h

theorem Filing.keepers_seq_unique (hf : Tbl.sorted f.dir.pages) {q : Nat} (hp : p ∈ f.keepers t s) (hq : q ∈ f.keepers t s)
    (h : (f.page p).seq = (f.page q).seq) : p = q := by
  have h1 := ((Filing.mem_keepers hf).mp hp).2.2
  have h2 := ((Filing.mem_keepers hf).mp hq).2.2
  rw [h, h2] at h1
  exact (Option.some.inj h1).symm

theorem Filing.keepers_nodup (hf : Tbl.sorted f.dir.pages) : (f.keepers t s).Nodup := by
  by_cases hd : (f.doc s).state = .free
  · rw [Filing.keepers, if_pos hd]
    exact List.nodup_nil
  · rw [Filing.keepers_of_live hd, (sortBy_perm _ _).nodup_iff]
    exact ((Filing.namingPages_rising hf).imp fun h => Nat.ne_of_lt h).filter _

theorem Filing.keepers_rising (hf : Tbl.sorted f.dir.pages) :
    (f.keepers t s).Pairwise fun p q => (f.page p).seq < (f.page q).seq := by
  have hle : (f.keepers t s).Pairwise fun p q => (f.page p).seq ≤ (f.page q).seq := by
    unfold Filing.keepers
    split_ifs
    · exact List.Pairwise.nil
    · exact sortBy_pairwise _ _
  refine (hle.and (Filing.keepers_nodup hf)).imp_of_mem fun {p q} hp hq h => ?_
  exact Nat.lt_of_le_of_ne h.1 fun e => h.2 (Filing.keepers_seq_unique hf hp hq e)

theorem Filing.keptPage_congr {reached cands : List Nat} {q : Nat} (h : ∀ p ∈ cands, (g.page p).seq = (f.page p).seq) :
    g.keptPage reached cands q = f.keptPage reached cands q := by
  have h1 : (fun p => decide (p ∈ cands) && (g.page p).seq == q) = fun p => decide (p ∈ cands) && (f.page p).seq == q := by
    funext p
    by_cases hp : p ∈ cands
    · rw [h p hp]
    · rw [decide_eq_false hp, Bool.false_and, Bool.false_and]
  have h2 : cands.find? (fun p => (g.page p).seq == q) = cands.find? fun p => (f.page p).seq == q :=
    List.find?_congr fun p hp => by rw [h p hp]
  rw [Filing.keptPage, h1, h2, Filing.keptPage]

/-- What is kept of a slot hangs on its document's record and on the pages that name it. -/
theorem Filing.keepers_congr (hf : Tbl.sorted f.dir.pages) (hg : Tbl.sorted g.dir.pages) (hd : g.doc s = f.doc s)
    (h : ∀ p, f.names s p ∨ g.names s p → g.page p = f.page p) : g.keepers t s = f.keepers t s := by
  have hnames := Filing.namingPages_congr hf hg h
  have hpage (p : Nat) (hp : p ∈ f.namingPages s) : g.page p = f.page p := h p (.inl ((Filing.mem_namingPages hf).mp hp))
  have hkept (q : Nat) : g.keptPage (f.reached t s) (f.namingPages s) q = f.keptPage (f.reached t s) (f.namingPages s) q :=
    Filing.keptPage_congr fun p hp => by rw [hpage p hp]
  rw [Filing.keepers, Filing.keepers, hnames, Filing.reached, hd, ← Filing.reached]
  have hfilter : ((f.namingPages s).filter fun p =>
      g.keptPage (f.reached t s) (f.namingPages s) (g.page p).seq == some p) =
      (f.namingPages s).filter fun p => f.keptPage (f.reached t s) (f.namingPages s) (f.page p).seq == some p :=
    List.filter_congr fun p hp => by rw [hkept, hpage p hp]
  rw [hfilter, sortBy_congr fun p hp => by rw [hpage p (List.mem_filter.mp hp).1]]

theorem Filing.settledDoc_congr (hf : Tbl.sorted f.dir.pages) (hg : Tbl.sorted g.dir.pages) (hd : g.doc s = f.doc s)
    (h : ∀ p, f.names s p ∨ g.names s p → g.page p = f.page p) : g.settledDoc t s = f.settledDoc t s := by
  have hk := Filing.keepers_congr (t := t) hf hg hd h
  rw [Filing.settledDoc, Filing.settledDoc, hd, Filing.dropped, Filing.dropped, Filing.namingPages_congr hf hg h, hk]

/-! ## One slot settled -/

/-- The pages of a list FREE. -/
def Filing.dropPages (ps : List Nat) (f : Filing) : Filing := ps.foldl (fun f p => f.setPage p Page.freed) f

theorem Filing.dropPages_page (ps : List Nat) (f : Filing) (p : Nat) :
    (f.dropPages ps).page p = if p ∈ ps then Page.freed else f.page p := by
  unfold Filing.dropPages
  induction ps generalizing f with
  | nil => rfl
  | cons q ps ih =>
    rw [List.foldl_cons, ih]
    by_cases h : p = q
    · subst h; simp
    · simp [Filing.page_setPage_ne _ _ h, h]

theorem Filing.dropPages_dirOnly (ps : List Nat) (f : Filing) : f.dirOnly (f.dropPages ps) :=
  f.dirOnly_refl.foldl ps fun x p => x.setPage_dirOnly p Page.freed

theorem Filing.dropPages_docs (ps : List Nat) (f : Filing) : (f.dropPages ps).dir.docs = f.dir.docs :=
  foldl_keeps (fun f : Filing => f.dir.docs) _ _ _ fun _ _ => rfl

theorem Filing.dropPages_sorted (ps : List Nat) (hf : Tbl.sorted f.dir.pages) : Tbl.sorted (f.dropPages ps).dir.pages := by
  unfold Filing.dropPages
  induction ps generalizing f with
  | nil => exact hf
  | cons p ps ih => exact ih (hf.put _)

theorem Filing.linkPages_dirOnly (ps : List Nat) (f : Filing) : f.dirOnly (Filing.linkPages ps f) := by
  induction ps generalizing f with
  | nil => exact f.dirOnly_refl
  | cons p ps ih => exact (f.setPage_dirOnly p _).trans (ih _)

theorem Filing.linkPages_docs (ps : List Nat) (f : Filing) : (Filing.linkPages ps f).dir.docs = f.dir.docs := by
  induction ps generalizing f with
  | nil => rfl
  | cons p ps ih => exact ih _

theorem Filing.linkPages_sorted (ps : List Nat) (hf : Tbl.sorted f.dir.pages) :
    Tbl.sorted (Filing.linkPages ps f).dir.pages := by
  induction ps generalizing f with
  | nil => exact hf
  | cons p ps ih => exact ih (hf.put _)

theorem Filing.linkPages_page_of_not_mem {ps : List Nat} (hp : p ∉ ps) (f : Filing) :
    (Filing.linkPages ps f).page p = f.page p := by
  induction ps generalizing f with
  | nil => rfl
  | cons q ps ih =>
    obtain ⟨h1, h2⟩ := not_or.mp (mt List.mem_cons.mpr hp)
    rw [Filing.linkPages, ih h2, Filing.page_setPage_ne _ _ h1]

/-- A page linked keeps everything but its link. -/
theorem Filing.linkPages_page (ps : List Nat) (f : Filing) (p : Nat) :
    (Filing.linkPages ps f).page p = { f.page p with next := ((Filing.linkPages ps f).page p).next } := by
  induction ps generalizing f with
  | nil => rfl
  | cons q ps ih =>
    rw [Filing.linkPages]
    refine (ih _).trans ?_
    by_cases h : p = q
    · subst h; rw [Filing.page_setPage]
    · rw [Filing.page_setPage_ne _ _ h]

/-- Pages linked make one list, in the order given (R88). -/
theorem Filing.linkPages_list {ps : List Nat} (h : ps.Nodup) (f : Filing) :
    followPages (Filing.linkPages ps f).dir.pages ps.length ps.head? = ps := by
  induction ps generalizing f with
  | nil => rfl
  | cons p ps ih =>
    obtain ⟨hp, hps⟩ := List.nodup_cons.mp h
    have hnext : ((Filing.linkPages (p :: ps) f).page p).next = ps.head? := by
      rw [Filing.linkPages, Filing.linkPages_page_of_not_mem hp, Filing.page_setPage]
    rw [List.head?_cons, List.length_cons, followPages_some, Filing.nextOf_pages, hnext]
    exact congrArg (p :: ·) (ih hps _)

theorem Filing.settlePages_of_free (h : (f.doc s).state = .free) :
    f.settlePages t s = f.dropPages (f.namingPages s) := if_pos h

theorem Filing.settlePages_of_live (h : (f.doc s).state ≠ .free) : f.settlePages t s =
    (Filing.linkPages (f.keepers t s) (f.dropPages (f.dropped t s))).setDoc s (f.settledDoc t s) := by
  unfold Filing.settlePages
  dsimp only
  rw [if_neg h, Filing.settledDoc, if_neg h, Filing.dropped, Filing.keepers_of_live h]
  rfl

theorem Filing.settlePages_dirOnly (t : Tbl Page) (s : Nat) (f : Filing) : f.dirOnly (f.settlePages t s) := by
  by_cases h : (f.doc s).state = .free
  · rw [Filing.settlePages_of_free h]
    exact f.dropPages_dirOnly _
  · rw [Filing.settlePages_of_live h]
    exact ((f.dropPages_dirOnly _).trans (Filing.linkPages_dirOnly _ _)).trans (Filing.setDoc_dirOnly ..)

theorem Filing.settlePages_sorted (hf : Tbl.sorted f.dir.pages) : Tbl.sorted (f.settlePages t s).dir.pages := by
  by_cases h : (f.doc s).state = .free
  · rw [Filing.settlePages_of_free h]
    exact Filing.dropPages_sorted _ hf
  · rw [Filing.settlePages_of_live h]
    exact Filing.linkPages_sorted _ (Filing.dropPages_sorted _ hf)

theorem Filing.settlePages_doc (t : Tbl Page) (s : Nat) (f : Filing) : (f.settlePages t s).doc s = f.settledDoc t s := by
  by_cases h : (f.doc s).state = .free
  · rw [Filing.settlePages_of_free h, Filing.settledDoc, if_pos h, Filing.doc, Filing.dropPages_docs, Filing.doc]
  · rw [Filing.settlePages_of_live h, Filing.doc_setDoc]

theorem Filing.settlePages_doc_ne (h : k ≠ s) : (f.settlePages t s).doc k = f.doc k := by
  by_cases hs : (f.doc s).state = .free
  · rw [Filing.settlePages_of_free hs, Filing.doc, Filing.dropPages_docs, Filing.doc]
  · rw [Filing.settlePages_of_live hs, Filing.doc_setDoc_ne _ _ h, Filing.doc, Filing.linkPages_docs, Filing.dropPages_docs,
      Filing.doc]

section
variable (hf : Tbl.sorted f.dir.pages)
include hf

theorem Filing.settlePages_page_other (hp : ¬ f.names s p) : (f.settlePages t s).page p = f.page p := by
  have hdrop : p ∉ f.dropped t s := fun h => hp ((Filing.mem_dropped hf).mp h).1
  have hkeep : p ∉ f.keepers t s := fun h => hp ((Filing.mem_keepers hf).mp h).2.1
  by_cases hs : (f.doc s).state = .free
  · rw [Filing.settlePages_of_free hs, Filing.dropPages_page, if_neg (mt (Filing.mem_namingPages hf).mp hp)]
  · rw [Filing.settlePages_of_live hs, Filing.setDoc_page, Filing.linkPages_page_of_not_mem hkeep, Filing.dropPages_page,
      if_neg hdrop]

theorem Filing.settlePages_page_dropped (hp : f.names s p) (hk : p ∉ f.keepers t s) :
    (f.settlePages t s).page p = Page.freed := by
  by_cases hs : (f.doc s).state = .free
  · rw [Filing.settlePages_of_free hs, Filing.dropPages_page, if_pos ((Filing.mem_namingPages hf).mpr hp)]
  · rw [Filing.settlePages_of_live hs, Filing.setDoc_page, Filing.linkPages_page_of_not_mem hk, Filing.dropPages_page,
      if_pos ((Filing.mem_dropped hf).mpr ⟨hp, hk⟩)]

theorem Filing.settlePages_page_kept (hk : p ∈ f.keepers t s) :
    (f.settlePages t s).page p = { f.page p with next := ((f.settlePages t s).page p).next } := by
  have hdrop : p ∉ f.dropped t s := fun h => ((Filing.mem_dropped hf).mp h).2 hk
  have hpage : (f.settlePages t s).page p = (Filing.linkPages (f.keepers t s) (f.dropPages (f.dropped t s))).page p := by
    rw [Filing.settlePages_of_live ((Filing.mem_keepers hf).mp hk).1, Filing.setDoc_page]
  have hlink := Filing.linkPages_page (f.keepers t s) (f.dropPages (f.dropped t s)) p
  rw [Filing.dropPages_page, if_neg hdrop] at hlink
  rw [hpage]
  exact hlink

theorem Filing.settlePages_docPages (hs : (f.doc s).state ≠ .free) : (f.settlePages t s).docPages s = f.keepers t s := by
  rw [Filing.docPages, Filing.settlePages_doc, Filing.settledDoc, if_neg hs, Filing.settlePages_of_live hs]
  exact Filing.linkPages_list (Filing.keepers_nodup hf) _

end

/-! ## Every slot settled -/

/-- g is f with the slots of ks settled, one after the other. -/
structure Filing.slotsSettled (t : Tbl Page) (ks : List Nat) (f g : Filing) : Prop where
  only : f.dirOnly g
  sorted : Tbl.sorted g.dir.pages
  free : ∀ p, (f.page p).state = .free → g.page p = f.page p
  other : ∀ p, (f.page p).owner ∉ ks → g.page p = f.page p
  kept : ∀ s ∈ ks, ∀ p ∈ f.keepers t s, g.page p = { f.page p with next := (g.page p).next }
  dropped : ∀ s ∈ ks, ∀ p, f.names s p → p ∉ f.keepers t s → g.page p = Page.freed
  doc : ∀ s ∈ ks, g.doc s = f.settledDoc t s
  doc_other : ∀ s, s ∉ ks → g.doc s = f.doc s
  list : ∀ s ∈ ks, (f.doc s).state ≠ .free → g.docPages s = f.keepers t s

/-- A page that names a slot not yet settled stands as it was; one that did not name it does not name it now. -/
theorem Filing.slotsSettled.same {ks : List Nat} (a : f.slotsSettled t ks g) (hs : s ∉ ks)
    (hp : f.names s p ∨ g.names s p) : g.page p = f.page p := by
  by_cases ho : (f.page p).owner ∈ ks
  · rcases hp with hp | hp
    · exact absurd (hp.2 ▸ ho) hs
    · by_cases hfree : (f.page p).state = .free
      · exact a.free p hfree
      · by_cases hk : p ∈ f.keepers t (f.page p).owner
        · have hown : (g.page p).owner = (f.page p).owner := by rw [a.kept _ ho p hk]
          exact absurd (hp.2 ▸ hown ▸ ho) hs
        · have hfreed := a.dropped _ ho p ⟨hfree, rfl⟩ hk
          rw [Filing.names, hfreed] at hp
          exact absurd rfl hp.1
  · exact a.other p ho

theorem Filing.slotsSettled.snoc {ks : List Nat} (a : f.slotsSettled t ks g) (hf : Tbl.sorted f.dir.pages) (hs : s ∉ ks) :
    f.slotsSettled t (ks ++ [s]) (g.settlePages t s) := by
  have hsame (p : Nat) (hp : f.names s p ∨ g.names s p) : g.page p = f.page p := a.same hs hp
  have hkeep : g.keepers t s = f.keepers t s := Filing.keepers_congr hf a.sorted (a.doc_other s hs) hsame
  have hnames (p : Nat) (hp : g.names s p) : f.names s p := by
    rwa [Filing.names, hsame p (.inr hp)] at hp
  have hstand (p : Nat) (hp : ¬ f.names s p) : (g.settlePages t s).page p = g.page p :=
    Filing.settlePages_page_other a.sorted (mt (hnames p) hp)
  have hne {k p : Nat} (hk : k ∈ ks) (hp : (f.page p).owner = k) : ¬ f.names s p := fun h =>
    hs (h.2 ▸ hp ▸ hk)
  refine ⟨a.only.trans (g.settlePages_dirOnly t s), Filing.settlePages_sorted a.sorted, fun p hp => ?_, fun p hp => ?_,
    fun k hk p hp => ?_, fun k hk p hp hno => ?_, fun k hk => ?_, fun k hk => ?_, fun k hk hd => ?_⟩
  · rw [hstand p fun h => h.1 hp, a.free p hp]
  · obtain ⟨h1, h2⟩ := not_or.mp (mt List.mem_append.mpr hp)
    rw [hstand p fun h => h2 (List.mem_singleton.mpr h.2), a.other p h1]
  · rcases List.mem_append.mp hk with hk | hk
    · rw [hstand p (hne hk ((Filing.mem_keepers hf).mp hp).2.1.2)]
      exact a.kept k hk p hp
    · obtain rfl := List.mem_singleton.mp hk
      have h := Filing.settlePages_page_kept (t := t) a.sorted (hkeep.symm ▸ hp)
      rwa [hsame p (.inl ((Filing.mem_keepers hf).mp hp).2.1)] at h
  · rcases List.mem_append.mp hk with hk | hk
    · rw [hstand p (hne hk hp.2)]
      exact a.dropped k hk p hp hno
    · obtain rfl := List.mem_singleton.mp hk
      refine Filing.settlePages_page_dropped a.sorted ?_ (hkeep.symm ▸ hno)
      rwa [Filing.names, hsame p (.inl hp)]
  · rcases List.mem_append.mp hk with hk | hk
    · rw [Filing.settlePages_doc_ne (fun e : k = s => hs (e ▸ hk))]
      exact a.doc k hk
    · obtain rfl := List.mem_singleton.mp hk
      rw [Filing.settlePages_doc]
      exact Filing.settledDoc_congr hf a.sorted (a.doc_other k hs) hsame
  · obtain ⟨h1, h2⟩ := not_or.mp (mt List.mem_append.mpr hk)
    rw [Filing.settlePages_doc_ne fun e => h2 (List.mem_singleton.mpr e), a.doc_other k h1]
  · rcases List.mem_append.mp hk with hk | hk
    · rw [← a.list k hk hd]
      refine Filing.docPages_congr (Filing.settlePages_doc_ne (fun e : k = s => hs (e ▸ hk))) fun p hp => ?_
      rw [a.list k hk hd] at hp
      exact hstand p (hne hk ((Filing.mem_keepers hf).mp hp).2.1.2)
    · obtain rfl := List.mem_singleton.mp hk
      rw [Filing.settlePages_docPages a.sorted (by rw [a.doc_other k hs]; exact hd), hkeep]

theorem Filing.settlePages_settled (hf : Tbl.sorted f.dir.pages) {ks : List Nat} (hks : ks.Nodup) :
    f.slotsSettled t ks (ks.foldl (fun g s => g.settlePages t s) f) := by
  refine foldl_snoc (R := fun done y => f.slotsSettled t done y)
    ⟨f.dirOnly_refl, hf, fun _ _ => rfl, fun _ _ => rfl, fun _ h => absurd h List.not_mem_nil,
      fun _ h => absurd h List.not_mem_nil, fun _ h => absurd h List.not_mem_nil, fun _ _ => rfl,
      fun _ h => absurd h List.not_mem_nil⟩ fun done s rest y hl a => ?_
  subst hl
  exact a.snoc hf fun h => (List.nodup_append.mp hks).2.2 s h s List.mem_cons_self rfl

end

end Sys2Proof.Machine

end

section
/-! PROOFS. The walk of one page chain (R184): what its rule takes, and where it ends. -/

namespace Sys2Proof.Machine

section
variable {rule : WalkRule} {taken : List Nat} {last : Option Nat} {n : Nat} {b : BlockEntry}

/-- A walk that trusts no recorded chain, of a CLOSED page. -/
def WalkRule.strict (rule : WalkRule) : Prop := rule.closed = true ∧ rule.trusted = false

theorem WalkRule.takes_of_strict (h : rule.strict) : rule.takes taken last n b = true ↔
    n ∉ taken ∧ b.state = .filed ∧ b.index < rule.keep ∧ ∀ j, last = some j → j < b.index := by
  obtain ⟨hc, ht⟩ := h
  unfold WalkRule.takes
  rw [hc, ht]
  cases last <;> simp [and_assoc]

theorem WalkRule.takes_of_not_strict (h : ¬ rule.strict) : rule.takes taken last n b = true ↔
    n ∉ taken ∧ (b.state = .filed ∨ b.state = .landing) := by
  have hb : (rule.closed && !rule.trusted) = false := by
    rw [WalkRule.strict] at h
    cases hc : rule.closed <;> cases ht : rule.trusted <;> simp_all
  unfold WalkRule.takes
  rw [hb]
  simp

theorem WalkRule.takes_not_taken (h : rule.takes taken last n b = true) : n ∉ taken := by
  by_cases hs : rule.strict
  · exact ((WalkRule.takes_of_strict hs).mp h).1
  · exact ((WalkRule.takes_of_not_strict hs).mp h).1

theorem WalkRule.takes_state (h : rule.takes taken last n b = true) : b.state = .landing ∨ b.state = .filed := by
  by_cases hs : rule.strict
  · exact .inr ((WalkRule.takes_of_strict hs).mp h).2.1
  · exact ((WalkRule.takes_of_not_strict hs).mp h).2.symm

/-- A walk looks at the blocks taken before as a set. -/
theorem WalkRule.takes_congr {taken' : List Nat} (h : n ∈ taken' ↔ n ∈ taken) :
    rule.takes taken' last n b = rule.takes taken last n b := by
  unfold WalkRule.takes
  simp only [h]

end

section
variable {N : Nat} {entry : Nat → BlockEntry} {rule : WalkRule}

/-- One step of a walk. -/
theorem walkChain_some (fuel : Nat) (taken : List Nat) (last : Option Nat) (n seen : Nat) :
    walkChain N entry rule (fuel + 1) taken last (some n) seen =
      if rule.bounded && seen == rule.count then []
      else if N ≤ n then walkChain N entry rule fuel taken last (entry n).next (seen + 1)
      else if rule.takes taken last n (entry n) then
        n :: walkChain N entry rule fuel (n :: taken) (some (entry n).index) (entry n).next (seen + 1)
      else [] := by
  rw [walkChain]

/-- The blocks taken: each once, in the bank, LANDING or FILED, and none taken before. -/
theorem walkChain_taken (fuel : Nat) (taken : List Nat) (last o : Option Nat) (seen : Nat) :
    (walkChain N entry rule fuel taken last o seen).Nodup ∧
    ∀ n ∈ walkChain N entry rule fuel taken last o seen, n < N ∧ n ∉ taken ∧
      ((entry n).state = .landing ∨ (entry n).state = .filed) := by
  induction fuel generalizing taken last o seen with
  | zero => exact ⟨List.nodup_nil, fun _ h => absurd h List.not_mem_nil⟩
  | succ fuel ih =>
    cases o with
    | none => exact ⟨List.nodup_nil, fun _ h => absurd h List.not_mem_nil⟩
    | some m =>
      rw [walkChain_some]
      split_ifs with h1 h2 h3
      · exact ⟨List.nodup_nil, fun _ h => absurd h List.not_mem_nil⟩
      · exact ih ..
      · obtain ⟨hnodup, hmem⟩ := ih (m :: taken) (some (entry m).index) (entry m).next (seen + 1)
        refine ⟨List.nodup_cons.mpr ⟨fun h => (hmem m h).2.1 List.mem_cons_self, hnodup⟩, fun n hn => ?_⟩
        rcases List.mem_cons.mp hn with rfl | hn
        · exact ⟨Nat.lt_of_not_le h2, WalkRule.takes_not_taken h3, WalkRule.takes_state h3⟩
        · obtain ⟨hN, hno, hst⟩ := hmem n hn
          exact ⟨hN, fun h => hno (List.mem_cons_of_mem _ h), hst⟩
      · exact ⟨List.nodup_nil, fun _ h => absurd h List.not_mem_nil⟩

/-- The walk of a CLOSED page takes FILED blocks of rising index below the keep count. -/
theorem walkChain_strict (hs : rule.strict) (fuel : Nat) (taken : List Nat) (last o : Option Nat) (seen : Nat) :
    (walkChain N entry rule fuel taken last o seen).Pairwise (fun a b => (entry a).index < (entry b).index) ∧
    ∀ n ∈ walkChain N entry rule fuel taken last o seen, (entry n).state = .filed ∧ (entry n).index < rule.keep ∧
      ∀ j, last = some j → j < (entry n).index := by
  induction fuel generalizing taken last o seen with
  | zero => exact ⟨List.Pairwise.nil, fun _ h => absurd h List.not_mem_nil⟩
  | succ fuel ih =>
    cases o with
    | none => exact ⟨List.Pairwise.nil, fun _ h => absurd h List.not_mem_nil⟩
    | some m =>
      rw [walkChain_some]
      split_ifs with h1 h2 h3
      · exact ⟨List.Pairwise.nil, fun _ h => absurd h List.not_mem_nil⟩
      · exact ih ..
      · obtain ⟨-, hst, hkeep, hlast⟩ := (WalkRule.takes_of_strict hs).mp h3
        obtain ⟨hpair, hmem⟩ := ih (m :: taken) (some (entry m).index) (entry m).next (seen + 1)
        refine ⟨List.pairwise_cons.mpr ⟨fun n hn => (hmem n hn).2.2 _ rfl, hpair⟩, fun n hn => ?_⟩
        rcases List.mem_cons.mp hn with rfl | hn
        · exact ⟨hst, hkeep, hlast⟩
        · obtain ⟨hf, hk, hj⟩ := hmem n hn
          exact ⟨hf, hk, fun j h => (hlast j h).trans (hj _ rfl)⟩
      · exact ⟨List.Pairwise.nil, fun _ h => absurd h List.not_mem_nil⟩

/-! ## Following a given chain -/

/-- The blocks of a chain that the bank has. -/
def stored (N : Nat) (ns : List Nat) : List Nat := ns.filter fun n => decide (n < N)

/-- The index that the next block taken is held against, once the blocks of ns have been taken. -/
def lastIndex (entry : Nat → BlockEntry) (last : Option Nat) (ns : List Nat) : Option Nat :=
  (ns.getLast?.map fun n => (entry n).index).or last

/-- The links of blocks ns lead from each to the next. -/
def linked (next : Nat → Option Nat) (ns : List Nat) : Prop := ∀ l a b r, ns = l ++ a :: b :: r → next a = some b

theorem linked_cons {next : Nat → Option Nat} {n : Nat} {ns : List Nat} (h : linked next (n :: ns)) :
    linked next ns ∧ (ns ≠ [] → next n = ns.head?) := by
  refine ⟨fun l a b r e => h (n :: l) a b r (by rw [e]; rfl), fun hne => ?_⟩
  cases ns with
  | nil => exact absurd rfl hne
  | cons m ns => exact h [] n m ns rfl

/-- Where the links of a chain lead from its end. -/
def onward (next : Nat → Option Nat) (o : Option Nat) (ns : List Nat) : Option Nat :=
  match ns.getLast? with
  | some n => next n
  | none => o

/-- A walk along a chain whose stored blocks it may take follows the chain, and is then at its end. -/
theorem walkChain_follow {ns : List Nat} (fuel : Nat) (taken : List Nat) (last o : Option Nat) (seen : Nat)
    (hhead : ns ≠ [] → o = ns.head?) (hlinks : linked (fun n => (entry n).next) ns)
    (hbound : rule.bounded = true → seen + ns.length ≤ rule.count)
    (htakes : ∀ l n r, ns = l ++ n :: r → n < N →
      rule.takes (stored N l ++ taken) (lastIndex entry last (stored N l)) n (entry n) = true) :
    walkChain N entry rule (fuel + ns.length) taken last o seen = stored N ns ++
      walkChain N entry rule fuel ((stored N ns).reverse ++ taken) (lastIndex entry last (stored N ns))
        (onward (fun n => (entry n).next) o ns) (seen + ns.length) := by
  induction ns generalizing taken last o seen with
  | nil => rfl
  | cons n ns ih =>
    obtain ⟨hrest, hnext⟩ := linked_cons hlinks
    have hlen : seen + (n :: ns).length = seen + 1 + ns.length := by rw [List.length_cons]; omega
    have hbounded : (rule.bounded && seen == rule.count) = false := by
      by_contra hb
      rw [Bool.not_eq_false, Bool.and_eq_true, beq_iff_eq] at hb
      have := hbound hb.1
      omega
    have honward : onward (fun n => (entry n).next) o (n :: ns) = onward (fun n => (entry n).next) (entry n).next ns := by
      cases ns with
      | nil => rfl
      | cons m ns => rw [onward, onward, List.getLast?_cons_cons, List.getLast?_cons]
    have hbound' (hb : rule.bounded = true) : seen + 1 + ns.length ≤ rule.count := hlen ▸ hbound hb
    rw [honward, hhead (List.cons_ne_nil n ns), List.head?_cons, List.length_cons, ← Nat.add_assoc, walkChain_some, hbounded,
      if_neg Bool.false_ne_true]
    have hlen' : seen + (ns.length + 1) = seen + 1 + ns.length := by omega
    by_cases hn : n < N
    · have hfirst : rule.takes taken last n (entry n) = true := htakes [] n ns rfl hn
      rw [if_neg (Nat.not_le.mpr hn), if_pos hfirst]
      have hs : stored N (n :: ns) = n :: stored N ns := by rw [stored, List.filter_cons, if_pos (decide_eq_true hn), ← stored]
      have hlast (l : List Nat) : lastIndex entry last (n :: l) = lastIndex entry (some (entry n).index) l := by
        cases l with
        | nil => rfl
        | cons m l => rw [lastIndex, lastIndex, List.getLast?_cons_cons, List.getLast?_cons]; rfl
      rw [ih (n :: taken) (some (entry n).index) (entry n).next (seen + 1) hnext hrest hbound' fun l m r e hm => ?_, hs, hlast,
        List.reverse_cons, List.append_assoc, hlen']
      · rfl
      · have h := htakes (n :: l) m r (by rw [e]; rfl) hm
        have hsl : stored N (n :: l) = n :: stored N l := by
          rw [stored, List.filter_cons, if_pos (decide_eq_true hn), ← stored]
        rw [hsl, hlast] at h
        rw [← h]
        refine WalkRule.takes_congr ?_
        simp only [List.mem_append, List.mem_cons]
        tauto
    · rw [if_pos (Nat.le_of_not_lt hn)]
      have hs (l : List Nat) : stored N (n :: l) = stored N l := by
        rw [stored, List.filter_cons, if_neg (by simpa using hn), ← stored]
      rw [ih taken last (entry n).next (seen + 1) hnext hrest hbound' fun l m r e hm => ?_, hs, hlen']
      have h := htakes (n :: l) m r (by rw [e]; rfl) hm
      rwa [hs] at h

/-- A walk ends where the links lead nowhere, the recorded count is reached, or the next block may not be taken. -/
theorem walkChain_ends (fuel : Nat) (taken : List Nat) (last o : Option Nat) (seen : Nat)
    (h : ∀ m, o = some m → (rule.bounded = true ∧ seen = rule.count) ∨
      (m < N ∧ rule.takes taken last m (entry m) = false)) : walkChain N entry rule fuel taken last o seen = [] := by
  cases fuel with
  | zero => rfl
  | succ fuel =>
    cases o with
    | none => rfl
    | some m =>
      rw [walkChain_some]
      rcases h m rfl with ⟨hb, hc⟩ | ⟨hm, ht⟩
      · rw [hb, hc, beq_self_eq_true, Bool.and_self, if_pos rfl]
      · rw [if_neg (Nat.not_le.mpr hm), ht, if_neg Bool.false_ne_true, ite_self]

end

end Sys2Proof.Machine

end

section
/-! PROOFS. The walk of every page's chain (R184): the blocks taken make the chains, each block in one place of one chain. -/

namespace Sys2Proof.Machine

section
variable {f g h : Filing} {errs : List RecordId} {st : Store} {p q n : Nat}

/-! ## Blocks linked -/

theorem Filing.linkBlocks_eq (ns : List Nat) (f : Filing) :
    Filing.linkBlocks ns f = { f with blocks := (Filing.linkBlocks ns f).blocks } := by
  induction ns generalizing f with
  | nil => rfl
  | cons n ns ih => exact ih _

theorem Filing.linkBlocks_block_of_not_mem {ns : List Nat} (hn : n ∉ ns) (f : Filing) :
    (Filing.linkBlocks ns f).block n = f.block n := by
  induction ns generalizing f with
  | nil => rfl
  | cons m ns ih =>
    obtain ⟨h1, h2⟩ := not_or.mp (mt List.mem_cons.mpr hn)
    rw [Filing.linkBlocks, ih h2, Filing.block_setBlock_ne _ _ h1]

/-- A block linked keeps its state and its index. -/
theorem Filing.linkBlocks_block (ns : List Nat) (f : Filing) (n : Nat) :
    ((Filing.linkBlocks ns f).block n).state = (f.block n).state ∧
      ((Filing.linkBlocks ns f).block n).index = (f.block n).index := by
  induction ns generalizing f with
  | nil => exact ⟨rfl, rfl⟩
  | cons m ns ih =>
    obtain ⟨h1, h2⟩ := ih (f.setBlock m { f.block m with next := ns.head? })
    rw [Filing.linkBlocks, h1, h2]
    by_cases h : n = m
    · subst h; rw [Filing.block_setBlock]; exact ⟨rfl, rfl⟩
    · rw [Filing.block_setBlock_ne _ _ h]; exact ⟨rfl, rfl⟩

/-- Blocks linked make one chain, in the order given. -/
theorem Filing.linkBlocks_chain {ns : List Nat} (h : ns.Nodup) (f : Filing) :
    followBlocks (Filing.linkBlocks ns f).blocks.entries ns.length ns.head? = ns := by
  induction ns generalizing f with
  | nil => rfl
  | cons n ns ih =>
    obtain ⟨hn, hns⟩ := List.nodup_cons.mp h
    have hnext : ((Filing.linkBlocks (n :: ns) f).block n).next = ns.head? := by
      rw [Filing.linkBlocks, Filing.linkBlocks_block_of_not_mem hn, Filing.block_setBlock]
    rw [List.head?_cons, List.length_cons, followBlocks]
    exact congrArg (n :: ·) ((congrArg (followBlocks _ _) hnext).trans (ih hns _))

theorem Filing.linkBlocks_keys {ns : List Nat} (hf : Tbl.sorted f.blocks.entries)
    (hns : ∀ n ∈ ns, n ∈ f.blocks.entries.map fun x => x.1) :
    (Filing.linkBlocks ns f).blocks.entries.map (fun x => x.1) = f.blocks.entries.map fun x => x.1 := by
  induction ns generalizing f with
  | nil => rfl
  | cons n ns ih =>
    have hput : (f.setBlock n { f.block n with next := ns.head? }).blocks.entries.map (fun x => x.1) =
        f.blocks.entries.map fun x => x.1 := Tbl.keys_put hf (hns n List.mem_cons_self) _
    rw [Filing.linkBlocks, ih (hf.put _) fun m hm => by rw [hput]; exact hns m (List.mem_cons_of_mem _ hm), hput]

/-! ## One page walked -/

/-- What the walk of page p holds to. -/
def Filing.walkRule (p : Nat) (f : Filing) : WalkRule :=
  { closed := (f.page p).state == .closed, trusted := f.boot.skipsWalk, keep := keepCount (f.page p).length
    count := (f.page p).count }

/-- The blocks that the walk of page p takes, where those of `taken` are taken. -/
def Filing.walkedChain (errs : List RecordId) (st : Store) (taken : List Nat) (p : Nat) (f : Filing) : List Nat :=
  walkChain f.blockCount (fun n => f.mirrorEntry errs st n) (f.walkRule p) walkFuel taken none (f.page p).first 0

theorem Filing.walkedChain_congr {taken : List Nat} (hb : g.boot = f.boot) (hp : g.page p = f.page p) :
    g.walkedChain errs st taken p = f.walkedChain errs st taken p := by
  have hcount : g.blockCount = f.blockCount := by rw [Filing.blockCount, hb, Filing.blockCount]
  have hentry : (fun n => g.mirrorEntry errs st n) = fun n => f.mirrorEntry errs st n := by
    funext n
    rw [Filing.mirrorEntry, hb, hcount, Filing.mirrorEntry]
  rw [Filing.walkedChain, hcount, hentry, Filing.walkRule, hb, hp, ← Filing.walkRule, Filing.walkedChain]

/-- Blocks ns made the chain of page p. -/
def Filing.takeChain (ns : List Nat) (p : Nat) (f : Filing) : Filing :=
  (Filing.linkBlocks ns f).setPage p { f.page p with first := ns.head?, count := ns.length }

/-- The walk of page p leaves its holes as recorded: the page is not CLOSED, or its trusted chain is whole. -/
def Filing.keepsHoles (p len : Nat) (f : Filing) : Prop :=
  ¬ ((f.page p).state = .closed ∧ ¬ (f.boot.skipsWalk = true ∧ len = (f.page p).count))

theorem Filing.walkPage_snd (taken : List Nat) (p : Nat) (f : Filing) :
    (Filing.walkPage errs st (f, taken) p).2 = f.walkedChain errs st taken p ++ taken := rfl

theorem Filing.walkPage_fst (taken : List Nat) (p : Nat) (f : Filing) :
    let ns := f.walkedChain errs st taken p
    let f1 := f.takeChain ns p
    (f.keepsHoles p ns.length ∧ (Filing.walkPage errs st (f, taken) p).1 = f1) ∨
      (¬ f.keepsHoles p ns.length ∧ (Filing.walkPage errs st (f, taken) p).1 =
        f1.setPage p { f1.page p with holes := f1.chainHoles p (keepCount (f.page p).length) }) := by
  intro ns f1
  by_cases h : f.keepsHoles p ns.length
  · exact .inl ⟨h, if_neg h⟩
  · exact .inr ⟨h, if_pos (not_not.mp h)⟩

section
variable (ns : List Nat) (p : Nat) (f : Filing)

theorem Filing.takeChain_page : (f.takeChain ns p).page p = { f.page p with first := ns.head?, count := ns.length } :=
  Filing.page_setPage ..

theorem Filing.takeChain_page_ne (h : q ≠ p) : (f.takeChain ns p).page q = f.page q := by
  rw [Filing.takeChain, Filing.page_setPage_ne _ _ h, Filing.linkBlocks_eq]
  rfl

theorem Filing.takeChain_rest : (f.takeChain ns p).boot = f.boot ∧ (f.takeChain ns p).dir.docs = f.dir.docs ∧
    (f.takeChain ns p).monitors = f.monitors := by
  rw [Filing.takeChain, Filing.linkBlocks_eq]
  exact ⟨rfl, rfl, rfl⟩

end

/-- g is f with blocks ns made the chain of page p, its holes recounted where the walk asks it. -/
structure Filing.walkedOne (p : Nat) (ns : List Nat) (f g : Filing) : Prop where
  boot : g.boot = f.boot
  docs : g.dir.docs = f.dir.docs
  monitors : g.monitors = f.monitors
  blocks : g.blocks = (Filing.linkBlocks ns f).blocks
  page : g.page p = { f.page p with first := ns.head?, count := ns.length, holes := (g.page p).holes }
  page_ne : ∀ q, q ≠ p → g.page q = f.page q
  holes : (f.keepsHoles p ns.length → (g.page p).holes = (f.page p).holes) ∧
    (¬ f.keepsHoles p ns.length → (g.page p).holes = g.chainHoles p (keepCount (f.page p).length))

theorem Filing.chainHoles_congr (hb : g.blocks = f.blocks) (hf : (g.page p).first = (f.page p).first)
    (hc : (g.page p).count = (f.page p).count) (k : Nat) : g.chainHoles p k = f.chainHoles p k := by
  have hchain : g.pageChain p = f.pageChain p := by rw [Filing.pageChain, hb, hf, hc, Filing.pageChain]
  have hblock (n : Nat) : g.block n = f.block n := by rw [Filing.block, hb, Filing.block]
  rw [Filing.chainHoles, hchain, Filing.chainHoles]
  simp only [hblock]

theorem Filing.walkPage_walkedOne (taken : List Nat) (p : Nat) (f : Filing) :
    f.walkedOne p (f.walkedChain errs st taken p) (Filing.walkPage errs st (f, taken) p).1 := by
  obtain ⟨hboot, hdocs, hmon⟩ := f.takeChain_rest (f.walkedChain errs st taken p) p
  have hpage := f.takeChain_page (f.walkedChain errs st taken p) p
  rcases Filing.walkPage_fst (errs := errs) (st := st) taken p f with ⟨hk, h⟩ | ⟨hk, h⟩ <;> rw [h] <;>
    generalize f.walkedChain errs st taken p = ns at *
  · refine ⟨hboot, hdocs, hmon, rfl, ?_, fun q hq => f.takeChain_page_ne ns p hq, fun _ => ?_, fun hn => absurd hk hn⟩ <;>
      rw [hpage]
  · have hset (x : Page) : ((f.takeChain ns p).setPage p x).page p = x := Filing.page_setPage ..
    refine ⟨hboot, hdocs, hmon, rfl, ?_, fun q hq => ?_, fun hn => absurd hn hk, fun _ => ?_⟩
    · rw [hset, hpage]
    · rw [Filing.page_setPage_ne _ _ hq, Filing.takeChain_page_ne _ _ _ hq]
    · rw [hset]
      refine (Filing.chainHoles_congr ?_ ?_ ?_ _).symm
      · rfl
      · rw [hset]
      · rw [hset]

section
variable {ns : List Nat} (a : f.walkedOne p ns g)
include a

theorem Filing.walkedOne.chain (hn : ns.Nodup) : g.pageChain p = ns := by
  rw [Filing.pageChain, a.page, a.blocks]
  exact Filing.linkBlocks_chain hn f

theorem Filing.walkedOne.holdsPage (hq : q ≠ p) (hn : ∀ n ∈ f.pageChain q, n ∉ ns) : f.holdsPage q g := by
  refine ⟨a.page_ne q hq, fun n h => ?_⟩
  rw [Filing.block, a.blocks, ← Filing.block]
  exact Filing.linkBlocks_block_of_not_mem (hn n h) f

theorem Filing.walkedOne.block (n : Nat) : (g.block n).state = (f.block n).state ∧ (g.block n).index = (f.block n).index := by
  rw [Filing.block, a.blocks, ← Filing.block]
  exact Filing.linkBlocks_block ns f n

end

/-! ## Every page walked -/

/-- x is f with the chains of the pages of ps walked, one after the other, and the blocks that they took. -/
structure Filing.chainsWalked (errs : List RecordId) (st : Store) (ps : List Nat) (f : Filing) (x : Filing × List Nat) :
    Prop where
  boot : x.1.boot = f.boot
  docs : x.1.dir.docs = f.dir.docs
  monitors : x.1.monitors = f.monitors
  keys : x.1.blocks.entries.map (fun y => y.1) = f.blocks.entries.map fun y => y.1
  block : ∀ n, (x.1.block n).state = (f.block n).state ∧ (x.1.block n).index = (f.block n).index
  page_other : ∀ p, p ∉ ps → x.1.page p = f.page p
  page : ∀ p ∈ ps, x.1.page p = { f.page p with
    first := (x.1.pageChain p).head?, count := (x.1.pageChain p).length, holes := (x.1.page p).holes }
  holes : ∀ p ∈ ps, (f.keepsHoles p (x.1.pageChain p).length → (x.1.page p).holes = (f.page p).holes) ∧
    (¬ f.keepsHoles p (x.1.pageChain p).length →
      (x.1.page p).holes = x.1.chainHoles p (keepCount (f.page p).length))
  walk : ∀ p ∈ ps, ∃ before, (∀ n ∈ before, ∃ q ∈ ps, q ≠ p ∧ n ∈ x.1.pageChain q) ∧
    x.1.pageChain p = f.walkedChain errs st before p
  taken : ∀ n, n ∈ x.2 ↔ ∃ p ∈ ps, n ∈ x.1.pageChain p
  disjoint : ∀ p ∈ ps, ∀ q ∈ ps, p ≠ q → ∀ n ∈ x.1.pageChain p, n ∉ x.1.pageChain q

theorem Filing.chainsWalked_nil (errs : List RecordId) (st : Store) (f : Filing) : f.chainsWalked errs st [] (f, []) where
  boot := rfl
  docs := rfl
  monitors := rfl
  keys := rfl
  block := fun _ => ⟨rfl, rfl⟩
  page_other := fun _ _ => rfl
  page := fun _ h => absurd h List.not_mem_nil
  holes := fun _ h => absurd h List.not_mem_nil
  walk := fun _ h => absurd h List.not_mem_nil
  taken := fun _ => ⟨fun h => absurd h List.not_mem_nil, fun ⟨_, h, _⟩ => absurd h List.not_mem_nil⟩
  disjoint := fun _ h => absurd h List.not_mem_nil

/-- The blocks that a walk may take stand in the Block Table that the mirror shows. -/
theorem Filing.mem_usable_of_entry (hn : n < f.blockCount)
    (hst : (f.mirrorEntry errs st n).state = .landing ∨ (f.mirrorEntry errs st n).state = .filed) :
    n ∈ usableBlocks f.blockCount := by
  refine mem_usableBlocks.mpr ⟨?_, hn⟩
  by_contra hlt
  rw [Filing.mirrorEntry, if_pos (.inr (Nat.lt_of_not_le hlt))] at hst
  rcases hst with h | h <;> cases h

theorem usableBlocks_rising (N : Nat) : (usableBlocks N).Pairwise (· < ·) :=
  List.pairwise_lt_range.map _ fun _ _ h => Nat.add_lt_add_left h _

theorem Filing.chainsWalked.snoc {ps : List Nat} {x : Filing × List Nat} (a : f.chainsWalked errs st ps x)
    (hkeys : f.blocks.entries.map (fun y => y.1) = usableBlocks f.blockCount) (hp : p ∉ ps) :
    f.chainsWalked errs st (ps ++ [p]) (Filing.walkPage errs st x p) := by
  obtain ⟨g, taken⟩ := x
  have hns : g.walkedChain errs st taken p = f.walkedChain errs st taken p :=
    Filing.walkedChain_congr a.boot (a.page_other p hp)
  have b := g.walkPage_walkedOne (errs := errs) (st := st) taken p
  have hsnd := Filing.walkPage_snd (errs := errs) (st := st) taken p g
  rw [hns] at b hsnd
  generalize Filing.walkPage errs st (g, taken) p = y at b hsnd ⊢
  obtain ⟨h, taken'⟩ := y
  dsimp only at b hsnd a
  subst hsnd
  obtain ⟨hnodup, hmem⟩ := walkChain_taken (N := f.blockCount) (entry := fun n => f.mirrorEntry errs st n)
    (rule := f.walkRule p) walkFuel taken none (f.page p).first 0
  rw [← Filing.walkedChain] at hnodup hmem
  generalize hgen : f.walkedChain errs st taken p = ns at *
  have hchain := b.chain hnodup
  have hne {q : Nat} (hq : q ∈ ps) : q ≠ p := fun e => hp (e ▸ hq)
  have hold {q : Nat} (hq : q ∈ ps) : g.holdsPage q h :=
    b.holdsPage (hne hq) fun n hn hno => (hmem n hno).2.1 ((a.taken n).mpr ⟨q, hq, hn⟩)
  have hkeeps (len : Nat) : g.keepsHoles p len ↔ f.keepsHoles p len := by
    rw [Filing.keepsHoles, a.page_other p hp, a.boot, Filing.keepsHoles]
  have hsplit {P : Nat → Prop} (h1 : ∀ q ∈ ps, P q) (h2 : P p) : ∀ q ∈ ps ++ [p], P q := fun q hq =>
    (List.mem_append.mp hq).elim (h1 q) fun hq => List.mem_singleton.mp hq ▸ h2
  refine ⟨b.boot.trans a.boot, b.docs.trans a.docs, b.monitors.trans a.monitors, ?_, fun n => ?_, fun q hq => ?_,
    hsplit (fun q hq => ?_) ?_, hsplit (fun q hq => ?_) ?_, hsplit (fun q hq => ?_) ?_, fun n => ?_,
    hsplit (fun q hq => hsplit (fun r hr hqr => ?_) fun _ => ?_) (hsplit (fun r hr _ => ?_) fun hpp => absurd rfl hpp)⟩
  · rw [b.blocks, Filing.linkBlocks_keys, a.keys]
    · rw [Tbl.sorted, a.keys, hkeys]
      exact usableBlocks_rising _
    · intro n hn
      rw [a.keys, hkeys]
      exact Filing.mem_usable_of_entry (hmem n hn).1 (hmem n hn).2.2
  · exact ⟨(b.block n).1.trans (a.block n).1, (b.block n).2.trans (a.block n).2⟩
  · obtain ⟨h1, h2⟩ := not_or.mp (mt List.mem_append.mpr hq)
    rw [b.page_ne q fun e => h2 (List.mem_singleton.mpr e), a.page_other q h1]
  · rw [(hold hq).chain, (hold hq).page]
    exact a.page q hq
  · rw [hchain]
    exact b.page.trans (by rw [a.page_other p hp])
  · rw [(hold hq).chain, (hold hq).page, (hold hq).chainHoles]
    exact a.holes q hq
  · rw [hchain, ← hkeeps, ← a.page_other p hp]
    exact b.holes
  · obtain ⟨before, hbefore, hw⟩ := a.walk q hq
    refine ⟨before, fun n hn => ?_, by rw [(hold hq).chain]; exact hw⟩
    obtain ⟨r, hr, hrq, hnr⟩ := hbefore n hn
    exact ⟨r, List.mem_append_left _ hr, hrq, (hold hr).chain.symm ▸ hnr⟩
  · refine ⟨taken, fun n hn => ?_, hchain.trans hgen.symm⟩
    obtain ⟨r, hr, hnr⟩ := (a.taken n).mp hn
    exact ⟨r, List.mem_append_left _ hr, hne hr, (hold hr).chain.symm ▸ hnr⟩
  · rw [List.mem_append, a.taken]
    constructor
    · rintro (hn | ⟨r, hr, hnr⟩)
      · exact ⟨p, List.mem_append_right _ (List.mem_singleton_self p), hchain.symm ▸ hn⟩
      · exact ⟨r, List.mem_append_left _ hr, (hold hr).chain.symm ▸ hnr⟩
    · rintro ⟨r, hr, hnr⟩
      rcases List.mem_append.mp hr with hr | hr
      · exact .inr ⟨r, hr, (hold hr).chain ▸ hnr⟩
      · obtain rfl := List.mem_singleton.mp hr
        exact .inl (hchain ▸ hnr)
  · rw [(hold hq).chain, (hold hr).chain]
    exact a.disjoint q hq r hr hqr
  · rw [(hold hq).chain, hchain]
    exact fun n hn hno => (hmem n hno).2.1 ((a.taken n).mpr ⟨q, hq, hn⟩)
  · rw [(hold hr).chain, hchain]
    exact fun n hn hno => (hmem n hn).2.1 ((a.taken n).mpr ⟨r, hr, hno⟩)

theorem Filing.walkPages_chainsWalked {ps : List Nat} (hps : ps.Nodup)
    (hkeys : f.blocks.entries.map (fun y => y.1) = usableBlocks f.blockCount) :
    f.chainsWalked errs st ps (ps.foldl (Filing.walkPage errs st) (f, [])) := by
  refine foldl_snoc (R := fun done y => f.chainsWalked errs st done y) (f.chainsWalked_nil errs st)
    fun done p rest y hl a => ?_
  subst hl
  exact a.snoc hkeys fun h => (List.nodup_append.mp hps).2.2 p h p List.mem_cons_self rfl

end

end Sys2Proof.Machine

end

section
/-! PROOFS. The order in which a recorded page list reaches its pages, and which of two twins is kept (R184). -/

namespace Sys2Proof.Machine

section
variable {t : Tbl Page} {n m p q : Nat} {o : Option Nat}

/-! ## Recorded page lists -/

theorem followPages_prefix (h : n ≤ m) (o : Option Nat) : followPages t n o <+: followPages t m o := by
  induction n generalizing m o with
  | zero => exact List.nil_prefix
  | succ n ih =>
    obtain ⟨m, rfl⟩ : ∃ k, m = k + 1 := ⟨m - 1, by omega⟩
    cases o with
    | none => exact List.nil_prefix
    | some a =>
      rw [followPages_some, followPages_some, List.cons_prefix_cons]
      exact ⟨rfl, ih (Nat.le_of_succ_le_succ h) _⟩

/-- The list from a page that it reaches on. -/
theorem followPages_split {l r : List Nat} (h : followPages t n o = l ++ p :: r) (k : Nat) :
    followPages t (l.length + k) o = l ++ followPages t k (some p) ∧ followPages t (n - l.length) (some p) = p :: r := by
  induction l generalizing n o with
  | nil =>
    cases n with
    | zero => cases h
    | succ n =>
      cases o with
      | none => cases h
      | some a =>
        obtain rfl : a = p := (List.cons.inj h).1
        exact ⟨by rw [List.length_nil, Nat.zero_add]; rfl, h⟩
  | cons a l ih =>
    cases n with
    | zero => cases h
    | succ n =>
      cases o with
      | none => cases h
      | some b =>
        rw [followPages_some] at h
        obtain ⟨rfl, htail⟩ := List.cons.inj h
        obtain ⟨h1, h2⟩ := ih htail
        refine ⟨?_, ?_⟩
        · rw [List.length_cons, Nat.add_right_comm, followPages_some, h1]
          rfl
        · rw [List.length_cons, Nat.add_sub_add_right, h2]

/-- Pages each linked to the next are the list from the first of them. -/
theorem followPages_of_linked {ps : List Nat} (h : linked (nextOf t) ps) (hne : ps ≠ []) :
    followPages t ps.length ps.head? = ps := by
  induction ps with
  | nil => exact absurd rfl hne
  | cons a ps ih =>
    obtain ⟨hrest, hnext⟩ := linked_cons h
    rw [List.length_cons, List.head?_cons, followPages_some]
    by_cases hps : ps = []
    · subst hps; rfl
    · rw [hnext hps, ih hrest hps]

theorem followPages_linked (n : Nat) (o : Option Nat) : linked (nextOf t) (followPages t n o) := by
  intro l a b r h
  obtain ⟨-, h⟩ := followPages_split h 0
  generalize n - l.length = k at h
  cases k with
  | zero => cases h
  | succ k =>
    rw [followPages_some] at h
    have h := (List.cons.inj h).2
    cases hn : nextOf t a with
    | none => rw [hn, followPages_none] at h; cases h
    | some c =>
      rw [hn] at h
      cases k with
      | zero => cases h
      | succ k => rw [(List.cons.inj h).1]

theorem followPages_head (hn : 0 < n) (o : Option Nat) : (followPages t n o).head? = o := by
  obtain ⟨n, rfl⟩ : ∃ k, n = k + 1 := ⟨n - 1, by omega⟩
  cases o <;> rfl

theorem followPages_length (n : Nat) (o : Option Nat) : (followPages t n o).length ≤ n := by
  induction n generalizing o with
  | zero => exact Nat.le_refl _
  | succ n ih =>
    cases o with
    | none => exact Nat.zero_le _
    | some a =>
      rw [followPages_some, List.length_cons]
      exact Nat.succ_le_succ (ih _)

theorem followPages_self_length (n : Nat) (o : Option Nat) :
    followPages t (followPages t n o).length o = followPages t n o := by
  induction n generalizing o with
  | zero => rfl
  | succ n ih =>
    cases o with
    | none => rfl
    | some a => rw [followPages_some, List.length_cons, followPages_some, ih]

/-- A list that ends where it first reaches p reaches no page twice: a loop would reach p sooner. -/
theorem followPages_nodup_of_first (hp : p ∈ followPages t n o) (hfirst : ∀ k, k < n → p ∉ followPages t k o) :
    (followPages t n o).Nodup := by
  by_contra hdup
  obtain ⟨a, ha⟩ := List.exists_duplicate_iff_not_nodup.mpr hdup
  obtain ⟨r1, r2, hsplit, h1, h2⟩ := List.cons_sublist_iff.mp (List.duplicate_iff_sublist.mp ha)
  obtain ⟨l, m1, rfl⟩ := List.append_of_mem h1
  obtain ⟨m2, r, rfl⟩ := List.append_of_mem (List.singleton_sublist.mp h2)
  have hsooner : followPages t n o = l ++ a :: (m1 ++ (m2 ++ a :: r)) := by rw [hsplit]; simp
  have hlater : followPages t n o = (l ++ a :: (m1 ++ m2)) ++ a :: r := by rw [hsplit]; simp
  have hlen : l.length + 1 + (m1 ++ m2).length < n := by
    have hle := followPages_length (t := t) n o
    rw [hlater, List.length_append, List.length_append, List.length_cons, List.length_cons] at hle
    omega
  have hloop : (l ++ a :: (m1 ++ m2)).length = l.length + 1 + (m1 ++ m2).length := by
    rw [List.length_append, List.length_cons]
    omega
  obtain ⟨hpre, htail⟩ := followPages_split hlater 0
  rw [Nat.add_zero, followPages, List.append_nil, hloop] at hpre
  rw [hloop] at htail
  rw [hlater] at hp
  rcases List.mem_append.mp hp with hp | hp
  · exact hfirst _ hlen (hpre.symm ▸ hp)
  · have hcut := (followPages_split hsooner (n - (l.length + 1 + (m1 ++ m2).length))).1
    rw [htail] at hcut
    exact hfirst _ (by omega) (hcut.symm ▸ List.mem_append_right _ hp)

/-- A page that the list reaches is reached within as many links as there are page numbers in the list. -/
theorem mem_followPages_of_bounded {M : Nat} (hp : p ∈ followPages t n o) (hM : ∀ q ∈ followPages t n o, q < M) :
    p ∈ followPages t M o := by
  induction n using Nat.strong_induction_on with
  | _ n ih =>
    by_cases hfirst : ∃ k, k < n ∧ p ∈ followPages t k o
    · obtain ⟨k, hk, hpk⟩ := hfirst
      exact ih k hk hpk fun q hq => hM q ((followPages_prefix hk.le o).subset hq)
    · have hnodup := followPages_nodup_of_first hp fun k hk hpk => hfirst ⟨k, hk, hpk⟩
      have hlen : (followPages t n o).length ≤ M := by
        have h := (hnodup.subperm fun q hq => List.mem_range.mpr (hM q hq)).length_le
        rwa [List.length_range] at h
      rw [← followPages_self_length] at hp
      exact (followPages_prefix hlen o).subset hp

/-! ## Which of two twins is kept -/

section
variable {f : Filing} {reached cands : List Nat} {sq : Nat}

/-- A page kept that the recorded list reaches stands there before every other page of its number. -/
theorem Filing.keptPage_before (hkept : f.keptPage reached cands sq = some q) (hp : p ∈ cands) (hseq : (f.page p).seq = sq)
    (hr : p ∈ reached) : ∃ l r, reached = l ++ q :: r ∧ p ∉ l := by
  have htest : (decide (p ∈ cands) && (f.page p).seq == sq) = true := by
    rw [decide_eq_true hp, hseq, beq_self_eq_true, Bool.and_self]
  cases hfind : reached.find? fun p => decide (p ∈ cands) && (f.page p).seq == sq with
  | none =>
    have := List.find?_eq_none.mp hfind p hr
    exact absurd htest this
  | some x =>
    rw [Filing.keptPage, hfind, Option.some_or] at hkept
    obtain rfl := Option.some.inj hkept
    obtain ⟨-, l, r, hsplit, hno⟩ := List.find?_eq_some_iff_append.mp hfind
    refine ⟨l, r, hsplit, fun hpl => ?_⟩
    have := hno p hpl
    rw [htest] at this
    cases this

/-- A page kept that the recorded list does not reach is the lowest of its number. -/
theorem Filing.keptPage_lowest (hkept : f.keptPage reached cands sq = some q) (hp : p ∈ cands) (hseq : (f.page p).seq = sq)
    (hq : q ∉ reached) (hrise : cands.Pairwise (· < ·)) : q ≤ p := by
  rw [Filing.keptPage, Option.or_eq_some_iff] at hkept
  rcases hkept with h | ⟨-, h⟩
  · exact absurd (List.mem_of_find?_eq_some h) hq
  · obtain ⟨-, l, r, hsplit, hno⟩ := List.find?_eq_some_iff_append.mp h
    subst hsplit
    rcases List.mem_append.mp hp with hp | hp
    · have := hno p hp
      rw [hseq, beq_self_eq_true] at this
      cases this
    · rcases List.mem_cons.mp hp with rfl | hp
      · exact Nat.le_refl _
      · exact ((List.pairwise_cons.mp (List.pairwise_append.mp hrise).2.1).1 p hp).le

/-- Where a list of pages linked from the recorded first page reaches p, and not q before it, q is not kept for p's number. -/
theorem Filing.keptPage_ne_of_listed {s : Nat} {ps : List Nat} (hp : p ∈ cands) (hseq : (f.page p).seq = sq)
    (hlink : linked (nextOf t) (ps ++ [p])) (hhead : (ps ++ [p]).head? = o) (hM : ∀ x ∈ ps ++ [p], x < s) (hpq : p ≠ q)
    (hq : q ∉ ps) : f.keptPage (followPages t s o) cands sq ≠ some q := fun hkept => by
  have hlist := followPages_of_linked hlink (by simp)
  rw [hhead] at hlist
  have hr : p ∈ followPages t s o :=
    mem_followPages_of_bounded (n := (ps ++ [p]).length) (by rw [hlist]; simp) (by rw [hlist]; exact hM)
  obtain ⟨l, r, hsplit, hpl⟩ := Filing.keptPage_before hkept hp hseq hr
  have h1 : ps ++ [p] <+: followPages t (max s (ps ++ [p]).length) o := by
    have h := followPages_prefix (t := t) (Nat.le_max_right s (ps ++ [p]).length) o
    rwa [hlist] at h
  have h2 : l ++ [q] <+: followPages t (max s (ps ++ [p]).length) o := by
    refine List.IsPrefix.trans ?_ (followPages_prefix (Nat.le_max_left ..) o)
    rw [hsplit]
    exact ⟨r, by simp⟩
  rcases List.prefix_or_prefix_of_prefix h1 h2 with h | h
  · rcases List.mem_append.mp (h.subset (List.mem_append_right _ (List.mem_singleton_self p))) with h | h
    · exact hpl h
    · exact hpq (List.mem_singleton.mp h)
  · rcases List.mem_append.mp (h.subset (List.mem_append_right _ (List.mem_singleton_self q))) with h | h
    · exact hq h
    · exact hpq (List.mem_singleton.mp h).symm

end

end

end Sys2Proof.Machine

end

section
/-! PROOFS. The recovery walk as a whole (R184): what is restored, settled and walked, and the tables that it leaves. -/

namespace Sys2Proof.Machine

section
variable {f g r F : Filing} {errs : List RecordId} {st : Store} {k n p q s : Nat}

/-! ## The steps of the walk -/

/-- The tables with the slots settled. -/
def Filing.walkSettled (errs : List RecordId) (st : Store) (f : Filing) : Filing :=
  (numbers 0 Config.docSlots).foldl (fun g s => g.settlePages (f.restoreRecords errs st).dir.pages s) (f.restoreRecords errs st)

/-- The tables with the Block Table as the mirror shows it. -/
def Filing.walkRead (errs : List RecordId) (st : Store) (f : Filing) : Filing := (f.walkSettled errs st).readBlocks errs st

/-- The tables with the chains walked, and the blocks taken. -/
def Filing.walkChains (errs : List RecordId) (st : Store) (f : Filing) : Filing × List Nat :=
  (f.walkRead errs st).allPages.foldl (Filing.walkPage errs st) (f.walkRead errs st, [])

theorem Filing.recoveryWalk_eq (errs : List RecordId) (st : Store) (f : Filing) : f.recoveryWalk errs st =
    ({ (f.walkChains errs st).1 with
        boot := { (f.walkChains errs st).1.boot with phase := .rebuilding } } : Filing).mark .status := by
  unfold Filing.recoveryWalk Filing.walkChains Filing.walkRead Filing.walkSettled
  with_reducible rfl

theorem Filing.walkSettled_spec (errs : List RecordId) (st : Store) (f : Filing) :
    (f.restoreRecords errs st).slotsSettled (f.restoreRecords errs st).dir.pages (numbers 0 Config.docSlots)
      (f.walkSettled errs st) :=
  Filing.settlePages_settled (f.restoreRecords_restored errs st).sorted (numbers_nodup 0 _)

/-! ## The pages kept -/

/-- Page p is kept when the slots are settled. -/
def Filing.retains (p : Nat) (r : Filing) : Prop :=
  (r.page p).owner < 1024 ∧ p ∈ r.keepers r.dir.pages (r.page p).owner

theorem Filing.retains_of_mem (hr : Tbl.sorted r.dir.pages) (hs : s < 1024) (hp : p ∈ r.keepers r.dir.pages s) :
    r.retains p ∧ (r.page p).owner = s := by
  have ho := ((Filing.mem_keepers hr).mp hp).2.1.2
  exact ⟨⟨ho.symm ▸ hs, ho.symm ▸ hp⟩, ho⟩

/-- r with the slots settled and the Block Table read. -/
structure Filing.readFrom (errs : List RecordId) (st : Store) (r g : Filing) : Prop where
  boot : g.boot = r.boot
  monitors : g.monitors = r.monitors
  entries : g.blocks.entries = (usableBlocks r.blockCount).map fun n => (n, r.mirrorEntry errs st n)
  kept : ∀ p, r.retains p → g.page p = { r.page p with next := (g.page p).next }
  gone : ∀ p, ¬ r.retains p → g.page p = Page.freed
  doc : ∀ k, k < 1024 → g.doc k = r.settledDoc r.dir.pages k
  list : ∀ k, k < 1024 → (r.doc k).state ≠ .free → g.docPages k = r.keepers r.dir.pages k
  vacant : ∀ k, 1024 ≤ k ∨ (r.doc k).state = .free → g.doc k = Doc.freed (r.doc k).gen ∧ g.docPages k = []

theorem Filing.mirrorEntry_congr (h : g.boot = f.boot) (n : Nat) : g.mirrorEntry errs st n = f.mirrorEntry errs st n := by
  rw [Filing.mirrorEntry, Filing.blockCount, h, ← Filing.blockCount, Filing.mirrorEntry]

theorem Filing.readBlocks_rest (errs : List RecordId) (st : Store) (f : Filing) : (f.readBlocks errs st).dir = f.dir ∧
    (f.readBlocks errs st).boot = f.boot ∧ (f.readBlocks errs st).monitors = f.monitors ∧
    (f.readBlocks errs st).blocks.entries = (usableBlocks f.blockCount).map fun n => (n, f.mirrorEntry errs st n) := by
  unfold Filing.readBlocks
  dsimp only
  exact ⟨rfl, rfl, rfl, by with_reducible rfl⟩

/-- A restored record of a FREE slot shows its generation alone. -/
theorem Store.restoredDoc_of_free (h : (st.restoredDoc errs k).state = .free) :
    st.restoredDoc errs k = Doc.freed (st.restoredDoc errs k).gen := by
  unfold Store.restoredDoc at h ⊢
  cases hd : st.shownDoc errs k with
  | none => rfl
  | some d =>
    rw [hd, Option.getD_some] at h
    obtain ⟨ws, -, hws⟩ := Option.bind_eq_some_iff.mp hd
    exact restoreDoc_of_free hws h

/-- A restored page record is FREE and empty, or names a slot. -/
theorem Store.restoredPage_cases (errs : List RecordId) (st : Store) (p : Nat) : st.restoredPage errs p = Page.freed ∨
    (p < 8192 ∧ st.shownPage errs p = some (st.restoredPage errs p) ∧ (st.restoredPage errs p).state ≠ .free ∧
      (st.restoredPage errs p).owner < 1024 ∧ (st.restoredPage errs p).count < 256) := by
  unfold Store.restoredPage
  split_ifs with hp
  · cases hx : st.shownPage errs p with
    | none => exact .inl rfl
    | some g =>
      have hg := hx
      rw [Store.shownPage] at hg
      split_ifs at hg
      exact (restorePage_cases hg).imp id fun h => ⟨hp, rfl, h⟩
  · exact .inl rfl

theorem Filing.walkRead_readFrom (errs : List RecordId) (st : Store) (f : Filing) :
    (f.restoreRecords errs st).readFrom errs st (f.walkRead errs st) := by
  have a := f.walkSettled_spec errs st
  have b := f.restoreRecords_restored errs st
  rw [Filing.walkRead]
  generalize f.walkSettled errs st = g at a ⊢
  generalize f.restoreRecords errs st = r at a b ⊢
  have hslot {k : Nat} : k ∈ numbers 0 Config.docSlots ↔ k < 1024 := mem_numbers_zero
  have hboot : g.boot = r.boot := by rw [a.only]
  obtain ⟨hdir, hb, hm, he⟩ := g.readBlocks_rest errs st
  generalize g.readBlocks errs st = h at hdir hb hm he ⊢
  have hpage (p : Nat) : h.page p = g.page p := by rw [Filing.page, hdir, Filing.page]
  have hdoc (k : Nat) : h.doc k = g.doc k := by rw [Filing.doc, hdir, Filing.doc]
  have hlist (k : Nat) : h.docPages k = g.docPages k := by rw [Filing.docPages, hdir, hdoc, Filing.docPages]
  have hfreed (k : Nat) (hk : (r.doc k).state = .free) : r.doc k = Doc.freed (r.doc k).gen := by
    rw [b.doc] at hk ⊢
    split_ifs at hk ⊢
    · exact Store.restoredDoc_of_free hk
    · rfl
  have hbeyond (k : Nat) (hk : 1024 ≤ k) : g.doc k = Doc.freed (r.doc k).gen := by
    rw [a.doc_other k (mt hslot.mp (Nat.not_lt.mpr hk)), b.doc, if_neg (Nat.not_lt.mpr hk)]
    rfl
  have hnone (k : Nat) (hk : 1024 ≤ k ∨ (r.doc k).state = .free) : g.doc k = Doc.freed (r.doc k).gen := by
    rcases Nat.lt_or_ge k 1024 with hlt | hge
    · have hf := hk.resolve_left (Nat.not_le.mpr hlt)
      rw [a.doc k (hslot.mpr hlt), Filing.settledDoc, if_pos hf, hfreed k hf]
      rfl
    · exact hbeyond k hge
  refine ⟨hb.trans hboot, ?_, ?_, fun p hp => ?_, fun p hp => ?_, fun k hk => ?_, fun k hk hl => ?_,
    fun k hk => ⟨?_, ?_⟩⟩
  · rw [hm, a.only]
  · have hcount : g.blockCount = r.blockCount := by rw [Filing.blockCount, hboot, Filing.blockCount]
    rw [he, hcount]
    exact List.map_congr_left fun n _ => by rw [Filing.mirrorEntry_congr hboot]
  · rw [hpage]
    exact a.kept _ (hslot.mpr hp.1) p hp.2
  · rw [hpage]
    have hcases := st.restoredPage_cases errs p
    rw [← b.page] at hcases
    rcases hcases with h | ⟨-, -, hst, ho, -⟩
    · rw [a.free p (by rw [h]; rfl), h]
    · exact a.dropped _ (hslot.mpr ho) p ⟨hst, rfl⟩ fun hk => hp ⟨ho, hk⟩
  · rw [hdoc]
    exact a.doc k (hslot.mpr hk)
  · rw [hlist]
    exact a.list k (hslot.mpr hk) hl
  · rw [hdoc]
    exact hnone k hk
  · rw [hlist]
    refine Filing.docPages_of_pageCount_zero ?_
    rw [hnone k hk]
    rfl

/-! ## The chains walked -/

section
variable (a : r.readFrom errs st g) (hr : Tbl.sorted r.dir.pages)
include a hr

theorem Filing.readFrom.mem_allPages : p ∈ g.allPages ↔ r.retains p := by
  rw [Filing.allPages, List.mem_flatMap]
  constructor
  · rintro ⟨k, hk, hp⟩
    have hk := mem_numbers_zero.mp hk
    by_cases hl : (r.doc k).state = .free
    · rw [(a.vacant k (.inr hl)).2] at hp
      cases hp
    · rw [a.list k hk hl] at hp
      exact (Filing.retains_of_mem hr hk hp).1
  · rintro ⟨ho, hp⟩
    exact ⟨_, mem_numbers_zero.mpr ho, (a.list _ ho ((Filing.mem_keepers hr).mp hp).1).symm ▸ hp⟩

theorem Filing.readFrom.allPages_nodup : g.allPages.Nodup := by
  have hown {k p : Nat} (hk : k ∈ numbers 0 Config.docSlots) (hp : p ∈ g.docPages k) : (r.page p).owner = k := by
    have hk := mem_numbers_zero.mp hk
    by_cases hl : (r.doc k).state = .free
    · rw [(a.vacant k (.inr hl)).2] at hp
      cases hp
    · rw [a.list k hk hl] at hp
      exact (Filing.retains_of_mem hr hk hp).2
  refine List.nodup_flatMap.mpr ⟨fun k hk => ?_, (numbers_nodup 0 _).imp_of_mem fun {j k} hj hk hjk p hpj hpk => ?_⟩
  · by_cases hl : (r.doc k).state = .free
    · rw [(a.vacant k (.inr hl)).2]
      exact List.nodup_nil
    · rw [a.list k (mem_numbers_zero.mp hk) hl]
      exact Filing.keepers_nodup hr
  · exact hjk ((hown hj hpj).symm.trans (hown hk hpk))

end

theorem Filing.readFrom.keys (a : r.readFrom errs st g) :
    g.blocks.entries.map (fun y => y.1) = usableBlocks r.blockCount := by
  rw [a.entries, List.map_map]
  exact List.map_id _

theorem Filing.readFrom.count (a : r.readFrom errs st g) : g.blockCount = r.blockCount := by
  rw [Filing.blockCount, a.boot, Filing.blockCount]

/-- The walk of a page does not look at its link. -/
theorem Filing.walkedChain_of_linked {taken : List Nat} (hb : g.boot = r.boot)
    (hp : g.page p = { r.page p with next := (g.page p).next }) :
    g.walkedChain errs st taken p = r.walkedChain errs st taken p := by
  have hentry : (fun n => g.mirrorEntry errs st n) = fun n => r.mirrorEntry errs st n :=
    funext fun n => Filing.mirrorEntry_congr hb n
  have hrule : g.walkRule p = r.walkRule p := by
    rw [Filing.walkRule, hb, hp, Filing.walkRule]
  have hfirst : (g.page p).first = (r.page p).first := by rw [hp]
  have hcount : g.blockCount = r.blockCount := by rw [Filing.blockCount, hb, Filing.blockCount]
  rw [Filing.walkedChain, hentry, hrule, hfirst, hcount, Filing.walkedChain]

/-- F is what the walk makes of the records r that it restored. -/
structure Filing.walkedFrom (errs : List RecordId) (st : Store) (r F : Filing) : Prop where
  count : F.blockCount = r.blockCount
  monitors : F.monitors = r.monitors
  keys : F.blocks.entries.map (fun x => x.1) = usableBlocks r.blockCount
  block : ∀ n ∈ usableBlocks r.blockCount, (F.block n).state = (r.mirrorEntry errs st n).state ∧
    (F.block n).index = (r.mirrorEntry errs st n).index
  page : ∀ p, r.retains p → F.page p = { r.page p with
    next := (F.page p).next, first := (F.pageChain p).head?, count := (F.pageChain p).length, holes := (F.page p).holes }
  gone : ∀ p, ¬ r.retains p → F.page p = Page.freed
  doc : ∀ k, k < 1024 → F.doc k = r.settledDoc r.dir.pages k
  list : ∀ k, k < 1024 → (r.doc k).state ≠ .free → F.docPages k = r.keepers r.dir.pages k
  vacant : ∀ k, 1024 ≤ k ∨ (r.doc k).state = .free → F.doc k = Doc.freed (r.doc k).gen ∧ F.docPages k = []
  holes : ∀ p, r.retains p → (r.keepsHoles p (F.pageChain p).length → (F.page p).holes = (r.page p).holes) ∧
    (¬ r.keepsHoles p (F.pageChain p).length → (F.page p).holes = F.chainHoles p (keepCount (r.page p).length))
  walk : ∀ p, r.retains p → ∃ before, (∀ n ∈ before, ∃ q, r.retains q ∧ q ≠ p ∧ n ∈ F.pageChain q) ∧
    F.pageChain p = r.walkedChain errs st before p
  disjoint : ∀ p q, r.retains p → r.retains q → p ≠ q → ∀ n ∈ F.pageChain p, n ∉ F.pageChain q

/-- The walk's last step, on to the rebuild. -/
theorem Filing.walkedFrom.of_eq {h : Filing} (a : r.walkedFrom errs st g) (hcount : h.blockCount = g.blockCount)
    (hm : h.monitors = g.monitors) (hb : h.blocks = g.blocks) (hd : h.dir = g.dir) : r.walkedFrom errs st h := by
  have hpage (p : Nat) : h.page p = g.page p := by rw [Filing.page, hd, Filing.page]
  have hdoc (k : Nat) : h.doc k = g.doc k := by rw [Filing.doc, hd, Filing.doc]
  have hlist (k : Nat) : h.docPages k = g.docPages k := by rw [Filing.docPages, hd, hdoc, Filing.docPages]
  have hchain (p : Nat) : h.pageChain p = g.pageChain p := Filing.pageChain_congr hb (hpage p)
  have hblock (n : Nat) : h.block n = g.block n := by rw [Filing.block, hb, Filing.block]
  have hholes (p k : Nat) : h.chainHoles p k = g.chainHoles p k := (Filing.holdsPage_of_eq hb (hpage p)).chainHoles k
  constructor
  · rw [hcount, a.count]
  · rw [hm, a.monitors]
  · rw [hb, a.keys]
  · simp only [hblock]; exact a.block
  · simp only [hpage, hchain]; exact a.page
  · simp only [hpage]; exact a.gone
  · simp only [hdoc]; exact a.doc
  · simp only [hlist]; exact a.list
  · simp only [hdoc, hlist]; exact a.vacant
  · simp only [hpage, hchain, hholes]; exact a.holes
  · simp only [hchain]; exact a.walk
  · simp only [hchain]; exact a.disjoint

theorem Filing.keepsHoles_of_linked (hb : g.boot = r.boot) (hp : g.page p = { r.page p with next := (g.page p).next })
    (len : Nat) : g.keepsHoles p len ↔ r.keepsHoles p len := by
  have hst : (g.page p).state = (r.page p).state := by rw [hp]
  have hcount : (g.page p).count = (r.page p).count := by rw [hp]
  rw [Filing.keepsHoles, hst, hcount, hb, Filing.keepsHoles]

theorem Filing.readFrom.walkedFrom {x : Filing × List Nat} (a : r.readFrom errs st g) (hr : Tbl.sorted r.dir.pages)
    (w : g.chainsWalked errs st g.allPages x) : r.walkedFrom errs st x.1 := by
  have hmem {p : Nat} : p ∈ g.allPages ↔ r.retains p := a.mem_allPages hr
  have hdoc (k : Nat) : x.1.doc k = g.doc k := by rw [Filing.doc, w.docs, Filing.doc]
  have hnext (p : Nat) : (x.1.page p).next = (g.page p).next := by
    by_cases hp : p ∈ g.allPages
    · rw [w.page p hp]
    · rw [w.page_other p hp]
  have hlist (k : Nat) : x.1.docPages k = g.docPages k :=
    Filing.docPages_of_links (by rw [hdoc]) (by rw [hdoc]) hnext
  refine ⟨?_, w.monitors.trans a.monitors, w.keys.trans a.keys, fun n hn => ?_, fun p hp => ?_, fun p hp => ?_, fun k hk => ?_,
    fun k hk hl => ?_, fun k hk => ?_, fun p hp => ?_, fun p hp => ?_, fun p q hp hq => ?_⟩
  · rw [Filing.blockCount, w.boot, a.boot, Filing.blockCount]
  · have hb : g.block n = r.mirrorEntry errs st n := by
      rw [Filing.block, a.entries, Tbl.find_map_mk, if_pos hn, Option.getD_some]
    rw [← hb]
    exact w.block n
  · refine (w.page p (hmem.mpr hp)).trans ?_
    rw [hnext, a.kept p hp]
  · rw [w.page_other p (mt hmem.mp hp), a.gone p hp]
  · rw [hdoc, a.doc k hk]
  · rw [hlist, a.list k hk hl]
  · rw [hdoc, hlist]
    exact a.vacant k hk
  · have h := w.holes p (hmem.mpr hp)
    have hlen : (g.page p).length = (r.page p).length := by rw [a.kept p hp]
    have hholes : (g.page p).holes = (r.page p).holes := by rw [a.kept p hp]
    rwa [Filing.keepsHoles_of_linked a.boot (a.kept p hp), hlen, hholes] at h
  · obtain ⟨before, hbefore, hw⟩ := w.walk p (hmem.mpr hp)
    refine ⟨before, fun n hn => ?_, hw.trans (Filing.walkedChain_of_linked a.boot (a.kept p hp))⟩
    obtain ⟨q, hq, hqp, hnq⟩ := hbefore n hn
    exact ⟨q, hmem.mp hq, hqp, hnq⟩
  · exact w.disjoint p (hmem.mpr hp) q (hmem.mpr hq)

theorem Filing.readFrom.walkChains (a : r.readFrom errs st g) (hr : Tbl.sorted r.dir.pages) :
    r.walkedFrom errs st (g.allPages.foldl (Filing.walkPage errs st) (g, [])).1 :=
  a.walkedFrom hr (Filing.walkPages_chainsWalked (a.allPages_nodup hr) (a.keys.trans (by rw [a.count])))

/-- The rebuild's turn, the tables as they are. -/
theorem Filing.walkedFrom.toRebuild (a : r.walkedFrom errs st g) :
    r.walkedFrom errs st (({ g with boot := { g.boot with phase := .rebuilding } } : Filing).mark .status) :=
  a.of_eq rfl rfl rfl rfl

theorem Filing.recoveryWalk_walkedFrom (errs : List RecordId) (st : Store) (f : Filing) :
    (f.restoreRecords errs st).walkedFrom errs st (f.recoveryWalk errs st) := by
  have w := (f.walkRead_readFrom errs st).walkChains (f.restoreRecords_restored errs st).sorted
  rw [Filing.recoveryWalk_eq]
  unfold Filing.walkChains
  exact w.toRebuild

end

end Sys2Proof.Machine

end

section
/-! PROOFS. What the recovery walk leaves (R184): the pages kept, the tables as the rebuild takes them, holes and chains. -/

namespace Sys2Proof.Machine

section
variable {f r F : Filing} {errs : List RecordId} {st : Store} {k n p q : Nat}

/-! ## Pages kept and dropped -/

/-- Page record p is one of a document's: it can be read, is not FREE, and names a slot that is not FREE. -/
def Filing.claims (p : Nat) (r : Filing) : Prop := (r.page p).state ≠ .free ∧ (r.doc (r.page p).owner).state ≠ .free

theorem Filing.settledDoc_state (t : Tbl Page) (k : Nat) (r : Filing) : (r.settledDoc t k).state = (r.doc k).state := by
  unfold Filing.settledDoc
  split_ifs <;> rfl

section
variable (b : f.restored errs st r)
include b

theorem Filing.restored.owner_lt (h : (r.page p).state ≠ .free) : (r.page p).owner < 1024 := by
  have hcases := st.restoredPage_cases errs p
  rw [← b.page] at hcases
  rcases hcases with e | ⟨-, -, -, ho, -⟩
  · exact absurd (by rw [e]; rfl) h
  · exact ho

theorem Filing.restored.claims_iff (g : Page) : (p < 8192 ∧ RecordId.page p ∉ errs ∧ restorePage (st.pageWords p) = some g ∧
    g.state ≠ .free ∧ (r.doc g.owner).state ≠ .free) ↔ r.claims p ∧ g = r.page p := by
  constructor
  · rintro ⟨hp, herr, hg, hst, hd⟩
    have hpage : r.page p = g := by
      rw [b.page, Store.restoredPage, if_pos hp, Store.shownPage, if_neg herr, hg, Option.getD_some]
    rw [Filing.claims, hpage]
    exact ⟨⟨hst, hd⟩, rfl⟩
  · rintro ⟨⟨hst, hd⟩, rfl⟩
    have hcases := st.restoredPage_cases errs p
    rw [← b.page] at hcases
    rcases hcases with e | ⟨hp, hshown, -⟩
    · exact absurd (by rw [e]; rfl) hst
    · rw [Store.shownPage] at hshown
      split_ifs at hshown with herr
      exact ⟨hp, herr, hshown, hst, hd⟩

/-- A page's link as its words show it. -/
theorem Filing.restored.nextOf_eq (p : Nat) : nextOf r.dir.pages p =
    if p < 8192 ∧ RecordId.page p ∉ errs then (restorePage (st.pageWords p)).bind Page.next else none := by
  rw [Filing.nextOf_pages, b.page, Store.restoredPage, Store.shownPage]
  by_cases hp : p < 8192 <;> by_cases herr : RecordId.page p ∈ errs
  · rw [if_pos hp, if_pos herr, if_neg fun h => h.2 herr]; rfl
  · rw [if_pos hp, if_neg herr, if_pos ⟨hp, herr⟩]
    cases restorePage (st.pageWords p) <;> rfl
  · rw [if_neg hp, if_neg fun h => hp h.1]; rfl
  · rw [if_neg hp, if_neg fun h => hp h.1]; rfl

theorem Filing.restored.lt_of_nextOf {a c : Nat} (h : nextOf r.dir.pages a = some c) : a < 8192 := by
  rw [b.nextOf_eq] at h
  split_ifs at h with hp
  exact hp.1

theorem Filing.restored.retains_iff : r.retains p ↔ r.claims p ∧
    r.keptPage (r.reached r.dir.pages (r.page p).owner) (r.namingPages (r.page p).owner) (r.page p).seq = some p := by
  rw [Filing.retains, Filing.mem_keepers b.sorted, Filing.claims, Filing.names]
  exact ⟨fun h => ⟨⟨h.2.2.1.1, h.2.1⟩, h.2.2.2⟩, fun h => ⟨b.owner_lt h.1.1, h.1.2, ⟨h.1.1, rfl⟩, h.2⟩⟩

theorem Filing.restored.mem_namingPages (h : r.claims p) : p ∈ r.namingPages (r.page p).owner :=
  (Filing.mem_namingPages b.sorted).mpr ⟨h.1, rfl⟩

/-- Of the pages of one slot and sequence number just one is kept. -/
theorem Filing.restored.one_retained (h : r.claims p) : ∃ q, r.claims q ∧ (r.page q).owner = (r.page p).owner ∧
    (r.page q).seq = (r.page p).seq ∧ r.retains q ∧ ∀ x, (r.page x).owner = (r.page p).owner →
      (r.page x).seq = (r.page p).seq → r.retains x → x = q := by
  obtain ⟨q, hq⟩ := Filing.keptPage_exists (reached := r.reached r.dir.pages (r.page p).owner) (b.mem_namingPages h)
  obtain ⟨hmem, hseq⟩ := Filing.keptPage_spec hq
  obtain ⟨hst, ho⟩ := (Filing.mem_namingPages b.sorted).mp hmem
  have hclaims : r.claims q := ⟨hst, by rw [ho]; exact h.2⟩
  have hretains : r.retains q := b.retains_iff.mpr ⟨hclaims, by rw [ho, hseq]; exact hq⟩
  refine ⟨q, hclaims, ho, hseq, hretains, fun x hxo hxs hx => ?_⟩
  have h1 := (b.retains_iff.mp hx).2
  rw [hxo, hxs, hq] at h1
  exact (Option.some.inj h1).symm

/-- Where the recorded list reaches p, and not q before it, q is not kept. -/
theorem Filing.restored.not_retains_of_listed {ps : List Nat} (hp : r.claims p) (ho : (r.page q).owner = (r.page p).owner)
    (hs : (r.page q).seq = (r.page p).seq) (hpq : p ≠ q) (hp8 : p < 8192)
    (hhead : (ps ++ [p]).head? = (r.doc (r.page p).owner).firstPage) (hlink : linked (nextOf r.dir.pages) (ps ++ [p]))
    (hq : q ∉ ps) : ¬ r.retains q := fun hkept => by
  have h := (b.retains_iff.mp hkept).2
  rw [ho, hs] at h
  refine Filing.keptPage_ne_of_listed (b.mem_namingPages hp) rfl hlink hhead (fun x hx => ?_) hpq hq h
  rcases List.mem_append.mp hx with hx | hx
  · obtain ⟨l, m, rfl⟩ := List.append_of_mem hx
    cases m with
    | nil => exact b.lt_of_nextOf (hlink l x p [] (by simp))
    | cons y m => exact b.lt_of_nextOf (hlink l x y (m ++ [p]) (by simp))
  · rw [List.mem_singleton.mp hx]
    exact hp8

/-- Of two twins that no recorded list reaches, the higher is not kept. -/
theorem Filing.restored.not_retains_of_lower (hp : r.claims p) (ho : (r.page q).owner = (r.page p).owner)
    (hs : (r.page q).seq = (r.page p).seq) (hpq : p < q) (hq : q ∉ r.reached r.dir.pages (r.page p).owner) :
    ¬ r.retains q := fun hkept => by
  have h := (b.retains_iff.mp hkept).2
  rw [ho, hs] at h
  exact absurd (Filing.keptPage_lowest h (b.mem_namingPages hp) rfl hq (Filing.namingPages_rising b.sorted))
    (Nat.not_le.mpr hpq)

end

/-! ## The tables for the rebuild -/

section
variable (b : f.restored errs st r) (a : r.walkedFrom errs st F)
include b a

theorem Filing.walkedFrom.doc_state (k : Nat) : (F.doc k).state = (r.doc k).state := by
  rcases Nat.lt_or_ge k 1024 with hk | hk
  · rw [a.doc k hk, Filing.settledDoc_state]
  · rw [(a.vacant k (.inl hk)).1, b.doc, if_neg (Nat.not_lt.mpr hk)]
    rfl

theorem Filing.walkedFrom.keepsPage_iff : F.keepsPage p ↔ r.retains p := by
  by_cases hp : r.retains p
  · refine iff_of_true ?_ hp
    rw [Filing.keepsPage, a.page p hp]
    exact (b.retains_iff.mp hp).1.1
  · refine iff_of_false ?_ hp
    rw [Filing.keepsPage, a.gone p hp]
    exact fun h => h rfl

omit b in
theorem Filing.walkedFrom.chain_taken (hp : r.retains p) : (F.pageChain p).Nodup ∧
    ∀ n ∈ F.pageChain p, n ∈ usableBlocks r.blockCount ∧
      ((r.mirrorEntry errs st n).state = .landing ∨ (r.mirrorEntry errs st n).state = .filed) := by
  obtain ⟨before, -, hw⟩ := a.walk p hp
  obtain ⟨hnodup, hmem⟩ := walkChain_taken (N := r.blockCount) (entry := fun n => r.mirrorEntry errs st n)
    (rule := r.walkRule p) walkFuel before none (r.page p).first 0
  rw [hw]
  exact ⟨hnodup, fun n hn => ⟨Filing.mem_usable_of_entry (hmem n hn).1 (hmem n hn).2.2, (hmem n hn).2.2⟩⟩

theorem Filing.walkedFrom.mem_docPages : p ∈ F.docPages k ↔ r.retains p ∧ (r.page p).owner = k := by
  by_cases hk : 1024 ≤ k ∨ (r.doc k).state = .free
  · rw [(a.vacant k hk).2]
    refine iff_of_false List.not_mem_nil fun ⟨hp, ho⟩ => ?_
    subst ho
    exact hk.elim (Nat.not_le.mpr hp.1) (b.retains_iff.mp hp).1.2
  · obtain ⟨hlt, hl⟩ := not_or.mp hk
    rw [a.list k (Nat.lt_of_not_le hlt) hl]
    exact ⟨Filing.retains_of_mem b.sorted (Nat.lt_of_not_le hlt), fun ⟨hp, ho⟩ => ho ▸ hp.2⟩

theorem Filing.walkedFrom.docPages_spec (k : Nat) :
    (F.docPages k).Nodup ∧ (F.docPages k).length = (F.doc k).pageCount := by
  by_cases hk : 1024 ≤ k ∨ (r.doc k).state = .free
  · rw [(a.vacant k hk).2, (a.vacant k hk).1]
    exact ⟨List.nodup_nil, rfl⟩
  · obtain ⟨hlt, hl⟩ := not_or.mp hk
    rw [a.list k (Nat.lt_of_not_le hlt) hl, a.doc k (Nat.lt_of_not_le hlt), Filing.settledDoc, if_neg hl]
    exact ⟨Filing.keepers_nodup b.sorted, rfl⟩

omit b in
theorem Filing.walkedFrom.owner (hp : r.retains p) : (F.page p).owner = (r.page p).owner := by rw [a.page p hp]

/-- The tables as the rebuild takes them. -/
theorem Filing.walkedFrom.walked : F.walked := by
  refine ⟨a.keys.trans (by rw [a.count]; rfl), fun k hk => ?_, fun k => ⟨(a.docPages_spec b k).1, (a.docPages_spec b k).2,
    fun p hp => ?_⟩, fun p hp => ?_, fun p q hp hq hpq => ?_⟩
  · rw [a.doc_state b] at hk
    rw [(a.vacant k hk.symm).1]
    rfl
  · obtain ⟨hr, ho⟩ := (a.mem_docPages b).mp hp
    exact ⟨(a.keepsPage_iff b).mpr hr, (a.owner hr).trans ho⟩
  · have hr := (a.keepsPage_iff b).mp hp
    obtain ⟨hnodup, hmem⟩ := a.chain_taken hr
    refine ⟨(a.mem_docPages b).mpr ⟨hr, (a.owner hr).symm⟩, ?_, hnodup, fun n hn => ?_⟩
    · rw [a.page p hr]
    · obtain ⟨hu, hst⟩ := hmem n hn
      obtain ⟨h1, h2⟩ := mem_usableBlocks.mp hu
      rw [(a.block n hu).1, a.count]
      exact ⟨h1, h2, hst⟩
  · exact a.disjoint p q ((a.keepsPage_iff b).mp hp) ((a.keepsPage_iff b).mp hq) hpq

/-- DAMAGED after the walk (R184). -/
theorem Filing.walkedFrom.damaged_iff (hk : k < 1024) (hl : (r.doc k).state ≠ .free) : (F.doc k).damaged = true ↔
    (r.doc k).damaged = true ∨ (F.doc k).pageCount ≠ (r.doc k).pageCount ∨
      ∃ p, r.claims p ∧ (r.page p).owner = k ∧ ¬ r.retains p := by
  have hdropped : (r.dropped r.dir.pages k).isEmpty = false ↔ ∃ p, r.claims p ∧ (r.page p).owner = k ∧ ¬ r.retains p := by
    rw [← Bool.not_eq_true, List.isEmpty_iff, List.eq_nil_iff_forall_not_mem, not_forall]
    refine exists_congr fun p => not_not.trans ?_
    rw [Filing.mem_dropped b.sorted]
    constructor
    · rintro ⟨⟨hst, rfl⟩, hno⟩
      exact ⟨⟨hst, hl⟩, rfl, fun h => hno h.2⟩
    · rintro ⟨hc, rfl, hno⟩
      exact ⟨⟨hc.1, rfl⟩, fun h => hno ⟨hk, h⟩⟩
  rw [a.doc k hk, Filing.settledDoc, if_neg hl, ← hdropped]
  simp only [Bool.or_eq_true, Bool.not_eq_true', bne_iff_ne, ne_eq]
  tauto

/-! ## Holes and chains -/

omit b in
theorem Filing.walkedFrom.chainHoles_eq (hp : r.retains p) (m : Nat) : F.chainHoles p m =
    ((List.range m).filter fun j => !(F.pageChain p).any fun n => (r.mirrorEntry errs st n).index == j).length := by
  have hany (j : Nat) : ((F.pageChain p).any fun n => (F.block n).index == j) =
      (F.pageChain p).any fun n => (r.mirrorEntry errs st n).index == j := by
    rw [Bool.eq_iff_iff, List.any_eq_true, List.any_eq_true]
    exact exists_congr fun n => and_congr_right fun hn => by rw [(a.block n ((a.chain_taken hp).2 n hn).1).2]
  rw [Filing.chainHoles, numbers]
  simp only [hany, Nat.zero_add, List.map_id']

omit b in
theorem Filing.walkedFrom.holes_of_kept (hp : r.retains p) (h : r.keepsHoles p (F.pageChain p).length) :
    (F.page p).holes = (r.page p).holes := (a.holes p hp).1 h

omit b in
theorem Filing.walkedFrom.holes_recounted (hp : r.retains p) (h : ¬ r.keepsHoles p (F.pageChain p).length) :
    (F.page p).holes = ((List.range (keepCount (r.page p).length)).filter fun j =>
      !(F.pageChain p).any fun n => (r.mirrorEntry errs st n).index == j).length :=
  ((a.holes p hp).2 h).trans (a.chainHoles_eq hp _)

end

/-! ## Chains followed -/

/-- The walk of page p may take block n behind those of `before`: no page's chain holds it, and the walk's rule takes it. -/
def Filing.mayTake (errs : List RecordId) (st : Store) (p : Nat) (r F : Filing) (before : List Nat) (n : Nat) : Prop :=
  n ∉ before ∧ (∀ q, r.retains q → q ≠ p → n ∉ F.pageChain q) ∧
    (r.walkRule p).takes [] (lastIndex (fun n => r.mirrorEntry errs st n) none before) n (r.mirrorEntry errs st n) = true

theorem WalkRule.takes_iff {rule : WalkRule} {taken : List Nat} {last : Option Nat} {e : BlockEntry} :
    rule.takes taken last n e = true ↔ n ∉ taken ∧ rule.takes [] last n e = true := by
  by_cases hs : rule.strict
  · rw [WalkRule.takes_of_strict hs, WalkRule.takes_of_strict hs]
    exact and_congr_right fun _ => (and_iff_right List.not_mem_nil).symm
  · rw [WalkRule.takes_of_not_strict hs, WalkRule.takes_of_not_strict hs]
    exact and_congr_right fun _ => (and_iff_right List.not_mem_nil).symm

/-- A walk takes the block that it meets where its rule takes it and the recorded count is not reached. -/
theorem mem_walkChain_head {N : Nat} {entry : Nat → BlockEntry} {rule : WalkRule} {taken : List Nat} {last : Option Nat}
    {seen fuel : Nat} (hbound : ¬ (rule.bounded = true ∧ seen = rule.count)) (hn : n < N)
    (ht : rule.takes taken last n (entry n) = true) : n ∈ walkChain N entry rule (fuel + 1) taken last (some n) seen := by
  have hb : ¬ (rule.bounded && seen == rule.count) = true := by
    rw [Bool.and_eq_true, beq_iff_eq]
    exact hbound
  rw [walkChain_some, if_neg hb, if_neg (Nat.not_le.mpr hn), if_pos ht]
  exact List.mem_cons_self

/-- A walk that follows a given chain to where it ends makes its stored blocks the page's. -/
theorem Filing.walkedFrom.chain_of_follow (a : r.walkedFrom errs st F) {ns : List Nat} (hp : r.retains p)
    (hfuel : ns.length < walkFuel) (hhead : ns ≠ [] → (r.page p).first = ns.head?)
    (hlinks : linked (fun n => (r.mirrorEntry errs st n).next) ns)
    (hbound : (r.walkRule p).bounded = true → ns.length ≤ (r.page p).count)
    (htakes : ∀ l n m, ns = l ++ n :: m → n < r.blockCount → r.mayTake errs st p F (stored r.blockCount l) n)
    (hends : ∀ m, onward (fun n => (r.mirrorEntry errs st n).next) (r.page p).first ns = some m →
      ((r.walkRule p).bounded = true ∧ ns.length = (r.page p).count) ∨
      (m < r.blockCount ∧ ¬ r.mayTake errs st p F (stored r.blockCount ns) m)) :
    F.pageChain p = stored r.blockCount ns := by
  obtain ⟨before, hbefore, hw⟩ := a.walk p hp
  obtain ⟨fuel, hf⟩ : ∃ fuel, walkFuel = fuel + 1 + ns.length := ⟨walkFuel - 1 - ns.length, by omega⟩
  have hfollow := walkChain_follow (N := r.blockCount) (rule := r.walkRule p) (fuel + 1) before none (r.page p).first 0 hhead
    hlinks (fun h => (Nat.zero_add _).trans_le (hbound h)) fun l n m hsplit hn => by
      obtain ⟨h1, h2, h3⟩ := htakes l n m hsplit hn
      refine WalkRule.takes_iff.mpr ⟨fun h => ?_, h3⟩
      rcases List.mem_append.mp h with h | h
      · exact h1 h
      · obtain ⟨q, hq, hqp, hnq⟩ := hbefore n h
        exact h2 q hq hqp hnq
  rw [Filing.walkedChain, hf, hfollow, Nat.zero_add] at hw
  rw [walkChain_ends, List.append_nil] at hw
  · exact hw
  intro m hm
  by_cases hstop : (r.walkRule p).bounded = true ∧ ns.length = (r.walkRule p).count
  · exact .inl hstop
  obtain ⟨hN, hno⟩ := (hends m hm).resolve_left hstop
  refine .inr ⟨hN, Bool.eq_false_iff.mpr fun ht => hno ?_⟩
  obtain ⟨hmem, ht'⟩ := WalkRule.takes_iff.mp ht
  have hmchain : m ∈ F.pageChain p := by
    rw [hw, hm]
    exact List.mem_append_right _ (mem_walkChain_head hstop hN ht)
  refine ⟨fun h => hmem (List.mem_append_left _ (List.mem_reverse.mpr h)), fun q hq hqp => ?_, ht'⟩
  exact a.disjoint p q hp hq (Ne.symm hqp) m hmchain

end

end Sys2Proof.Machine

end

section
/-! PROOFS. The recovery walk against its statement: the words of the mirror, a trusted chain kept whole, a chain walked. -/

namespace Sys2Proof.Machine

section
variable {f r F : Filing} {errs : List RecordId} {st : Store} {k n p : Nat}

/-! ## The mirror's words -/

theorem Memory.readWords_single (m : Memory) (a : Nat) : wordAt (m.readWords a 1) 0 = m.readWord a := rfl

theorem blockStateOf_eq (v : Nat) : blockStateOf v = if v = 1 then .free else if v = 2 then .scrub else if v = 3 then .landing
    else if v = 4 then .filed else .reserved := by
  unfold blockStateOf
  split <;> simp_all

/-- A block's entry as recovery reads it. -/
theorem Filing.mirrorEntry_eq (n : Nat) : f.mirrorEntry errs st n =
    let w := wordAt (st.page.readWords (0xC0000 + 4 * n) 1) 0
    if RecordId.block n ∈ errs ∨ n < 128 then { state := .reserved, index := 0, next := none }
    else if f.boot.recordedMiB * 128 ≤ n ∧ n < f.blockCount then { state := .scrub, index := 0, next := none }
    else
      { state := if bits w 0 3 = 1 then .free else if bits w 0 3 = 2 then .scrub else if bits w 0 3 = 3 then .landing
                 else if bits w 0 3 = 4 then .filed else .reserved
        index := bits w 8 7, next := if bits w 15 1 = 1 then some (bits w 16 16) else none } := by
  dsimp only
  rw [← blockStateOf_eq, Memory.readWords_single]
  rfl

/-- The restored record of a slot that is not FREE is what its words show. -/
theorem Filing.restored.doc_shown (b : f.restored errs st r) (hk : k < 1024) (hl : (r.doc k).state ≠ .free) :
    restoreDoc (st.docWords k) = some (r.doc k) := by
  have hdoc := b.doc k
  rw [if_pos hk, Store.restoredDoc] at hdoc
  cases hx : st.shownDoc errs k with
  | none =>
    rw [hx] at hdoc
    exact absurd (by rw [hdoc]; rfl) hl
  | some d =>
    rw [hx, Option.getD_some] at hdoc
    obtain ⟨ws, hws, hd⟩ := Option.bind_eq_some_iff.mp hx
    rw [Store.recordWords] at hws
    split_ifs at hws
    rw [hdoc, ← hd, ← Option.some.inj hws]
    rfl

/-! ## The walk skipped and the walk made -/

/-- Where the walk is skipped, a chain that is whole stays the page's (R184). -/
theorem Filing.walkedFrom.chain_of_whole (a : r.walkedFrom errs st F) (b : f.restored errs st r) (hskip : r.boot.skipsWalk = true)
    (hp : r.retains p) {ns : List Nat} (hlen : ns.length = (r.page p).count) (hhead : ns.head? = (r.page p).first)
    (hlinks : linked (fun n => (r.mirrorEntry errs st n).next) ns)
    (hst : ∀ n ∈ ns, n < r.blockCount ∧
      ((r.mirrorEntry errs st n).state = .filed ∨ (r.mirrorEntry errs st n).state = .landing))
    (hnodup : ns.Nodup) (hfree : ∀ q, r.retains q → q ≠ p → ∀ n ∈ ns, n ∉ F.pageChain q) : F.pageChain p = ns := by
  have hstored : stored r.blockCount ns = ns := List.filter_eq_self.mpr fun n hn => decide_eq_true (hst n hn).1
  have hfuel : ns.length < walkFuel := by
    have hcases := st.restoredPage_cases errs p
    rw [← b.page] at hcases
    rcases hcases with e | ⟨-, -, -, -, hc⟩
    · exact absurd (by rw [e]; rfl) (b.retains_iff.mp hp).1.1
    · rw [hlen, walkFuel]
      omega
  have hrule : ¬ (r.walkRule p).strict := fun h => by
    have := h.2
    rw [Filing.walkRule, hskip] at this
    cases this
  have hbounded : (r.walkRule p).bounded = true := by
    rw [WalkRule.bounded, Filing.walkRule, hskip, Bool.or_true]
  have h := a.chain_of_follow hp hfuel (fun _ => hhead.symm) hlinks (fun _ => hlen.le) (fun l n m hsplit hn => ?_)
    fun _ _ => .inl ⟨hbounded, hlen⟩
  · rwa [hstored] at h
  · have hmem : n ∈ ns := by rw [hsplit]; simp
    refine ⟨fun hl => ?_, fun q hq hqp => hfree q hq hqp n hmem, (WalkRule.takes_of_not_strict hrule).mpr
      ⟨List.not_mem_nil, (hst n hmem).2⟩⟩
    subst hsplit
    exact (List.nodup_append.mp hnodup).2.2 n (List.mem_filter.mp hl).1 n List.mem_cons_self rfl

theorem lastIndex_none {entry : Nat → BlockEntry} {ns : List Nat} {i : Nat} : (∀ j, lastIndex entry none ns = some j → j < i) ↔
    ∀ m, ns.getLast? = some m → (entry m).index < i := by
  rw [lastIndex, Option.or_none]
  constructor
  · intro h m hm
    exact h _ (by rw [hm]; rfl)
  · intro h j hj
    obtain ⟨m, hm, rfl⟩ := Option.map_eq_some_iff.mp hj
    exact h m hm

/-- What the walk may take, where it is made. -/
theorem Filing.mayTake_iff (hskip : r.boot.skipsWalk = false) (before : List Nat) : r.mayTake errs st p F before n ↔
    n ∉ before ∧ (∀ q, r.retains q → q ≠ p → n ∉ F.pageChain q) ∧
      if (r.page p).state = .closed then
        (r.mirrorEntry errs st n).state = .filed ∧ (r.mirrorEntry errs st n).index < ((r.page p).length + 8191) / 8192 ∧
          ∀ m, before.getLast? = some m → (r.mirrorEntry errs st m).index < (r.mirrorEntry errs st n).index
      else (r.mirrorEntry errs st n).state = .filed ∨ (r.mirrorEntry errs st n).state = .landing := by
  refine and_congr_right fun _ => and_congr_right fun _ => ?_
  have hkeep : (r.walkRule p).keep = ((r.page p).length + 8191) / 8192 := rfl
  split_ifs with hc
  · have hs : (r.walkRule p).strict := ⟨by rw [Filing.walkRule, hc]; rfl, hskip⟩
    rw [WalkRule.takes_of_strict hs, lastIndex_none, hkeep]
    exact and_iff_right List.not_mem_nil
  · have hs : ¬ (r.walkRule p).strict := fun h => hc (beq_iff_eq.mp h.1)
    rw [WalkRule.takes_of_not_strict hs]
    exact and_iff_right List.not_mem_nil

theorem Filing.walkRule_bounded (hskip : r.boot.skipsWalk = false) (p : Nat) :
    (r.walkRule p).bounded = true ↔ (r.page p).state = .closed := by
  rw [WalkRule.bounded, Filing.walkRule, hskip, Bool.or_false]
  exact beq_iff_eq

/-- Where the walk is made, a CLOSED page's chain has rising indices and FILED blocks below its keep count (R184). -/
theorem Filing.walkedFrom.chain_of_closed (a : r.walkedFrom errs st F) (hskip : r.boot.skipsWalk = false)
    (hp : r.retains p) (hc : (r.page p).state = .closed) :
    (F.pageChain p).Pairwise (fun x y => (r.mirrorEntry errs st x).index < (r.mirrorEntry errs st y).index) ∧
    ∀ n ∈ F.pageChain p, (r.mirrorEntry errs st n).state = .filed ∧
      (r.mirrorEntry errs st n).index < ((r.page p).length + 8191) / 8192 := by
  obtain ⟨before, -, hw⟩ := a.walk p hp
  have hs : (r.walkRule p).strict := ⟨by rw [Filing.walkRule, hc]; rfl, hskip⟩
  obtain ⟨hpair, hmem⟩ := walkChain_strict (N := r.blockCount) (entry := fun n => r.mirrorEntry errs st n) hs walkFuel before
    Option.none (r.page p).first 0
  rw [hw]
  exact ⟨hpair, fun n hn => ⟨(hmem n hn).1, (hmem n hn).2.1⟩⟩

end

/-! ## The clauses of the statement -/

section
variable {f r F : Filing} {errs : List RecordId} {st : Store} {k p : Nat}

/-- The recorded page list of slot k, from its first page along the links that the page records show. -/
theorem Filing.reached_listed (k : Nat) (r : Filing) :
    (r.reached r.dir.pages k).head? = (r.doc k).firstPage ∧ linked (nextOf r.dir.pages) (r.reached r.dir.pages k) :=
  ⟨followPages_head (by rw [Config.pageRecords]; omega) _, followPages_linked _ _⟩

/-- A document's pages after the walk, in ascending sequence number. -/
theorem Filing.walkedFrom.docPages_rising (a : r.walkedFrom errs st F) (b : f.restored errs st r) (hk : k < 1024)
    (hl : (r.doc k).state ≠ .free) : (F.docPages k).Pairwise fun p q => (F.page p).seq < (F.page q).seq := by
  have hseq {p : Nat} (hp : p ∈ r.keepers r.dir.pages k) : (F.page p).seq = (r.page p).seq := by
    rw [a.page p (Filing.retains_of_mem b.sorted hk hp).1]
  rw [a.list k hk hl]
  exact (Filing.keepers_rising b.sorted).imp_of_mem fun hp hq h => by rw [hseq hp, hseq hq]; exact h

/-- The holes of a page that is CLOSED, where the walk is skipped: as recorded where its chain is whole (R184). -/
theorem Filing.walkedFrom.holes_of_skipped (a : r.walkedFrom errs st F) (hskip : r.boot.skipsWalk = true) (hp : r.retains p)
    (hc : (r.page p).state = .closed) : (F.page p).holes = if (F.page p).count = (r.page p).count then (r.page p).holes else
      ((List.range (keepCount (r.page p).length)).filter fun j =>
        !(F.pageChain p).any fun n => (r.mirrorEntry errs st n).index == j).length := by
  have hcount : (F.page p).count = (F.pageChain p).length := by rw [a.page p hp]
  rw [hcount]
  split_ifs with h
  · exact a.holes_of_kept hp fun hno => hno.2 ⟨hskip, h⟩
  · exact a.holes_recounted hp (not_not.mpr ⟨hc, fun hw => h hw.2⟩)

end

end Sys2Proof.Machine

open Sys2Proof Sys2Proof.Machine

/-- Settles O49: what the walk restores (`Filing.restored`) and what it makes of it (`Filing.walkedFrom`), clause by clause. -/
theorem walkSettlesThePages : Obligations.WalkSettlesThePages := by
  intro s errs h bank words docWords entry
  obtain ⟨hphase, hk⟩ := (State.startsAt_iff s _).mp h
  have hrun := State.startUnit_eq (p := fun p => p == .walking) (act := fun s : State =>
    { s with filing := s.filing.recoveryWalk errs s.store }) (by rw [hphase]; rfl) hk
  refine ⟨_, hrun, ?_⟩
  rw [State.granted_filing, State.granted_store]
  intro f kept good twins links listed
  have a : (s.filing.restoreRecords errs s.store).walkedFrom errs s.store f := s.filing.recoveryWalk_walkedFrom errs s.store
  have b := s.filing.restoreRecords_restored errs s.store
  generalize s.filing.restoreRecords errs s.store = r at a b
  have hcount : s.filing.blockCount = r.blockCount := by rw [Filing.blockCount, Filing.blockCount, b.on.boot]
  have hskips : s.filing.boot.skipsWalk = r.boot.skipsWalk := by rw [b.on.boot]; rfl
  have hentry : entry = fun n => r.mirrorEntry errs s.store n := by
    funext n
    rw [Filing.mirrorEntry_eq, ← hcount, b.on.boot]
  have hdoc (k : Nat) : (f.doc k).state = (r.doc k).state := a.doc_state b k
  have hgood (p : Nat) (g : Page) : good p g ↔ r.claims p ∧ g = r.page p := by
    rw [← b.claims_iff g, ← hdoc]
    rfl
  have hkept (p : Nat) : kept p ↔ r.retains p := a.keepsPage_iff b
  have hlist (k : Nat) (hk : k < 1024) (hl : (r.doc k).state ≠ .free) (ps : List Nat) : listed k ps ↔
      ps.head? = (r.doc k).firstPage ∧ linked (nextOf r.dir.pages) ps := by
    have hshown : restoreDoc (docWords k) = some (r.doc k) := b.doc_shown hk hl
    have hnext : (fun p => if p < 8192 ∧ RecordId.page p ∉ errs then (restorePage (words p)).bind Page.next else none) =
        nextOf r.dir.pages := funext fun p => (b.nextOf_eq p).symm
    refine and_congr ?_ (by rw [hnext]; rfl)
    rw [hshown]
    exact ⟨fun ⟨d, hd, h⟩ => Option.some.inj hd ▸ h, fun h => ⟨_, rfl, h⟩⟩
  simp only [hgood, hkept, hcount, hskips]
  clear_value f entry
  subst hentry
  clear_value good kept
  refine ⟨fun p hp => ?_, fun p hp ht => ?_, ?_, ?_, ?_, fun k hk hl => ?_, a.walked b,
    fun n h1 h2 => a.block n (mem_usableBlocks.mpr ⟨h1, h2⟩), ?_, fun hskip => ?_, fun hskip => ⟨fun p hp hc => ?_, ?_⟩⟩
  · exact a.gone p fun hr => hp _ ⟨(b.retains_iff.mp hr).1, rfl⟩
  · have hnone : s.store.shownPage errs p = none := by
      rw [Store.shownPage]
      split_ifs with he
      · rfl
      · exact ht.resolve_left he
    rw [a.monitors]
    exact b.torn p hp hnone
  · rintro p _ ⟨hp, rfl⟩
    obtain ⟨q, hq, ho, hseq, hr, honly⟩ := b.one_retained hp
    exact ⟨q, _, ⟨hq, rfl⟩, ⟨ho, hseq⟩, hr, by
      rintro x _ ⟨-, rfl⟩ ⟨hxo, hxs⟩ hx
      exact honly x hxo hxs hx⟩
  · rintro p q _ _ ⟨hp, rfl⟩ ⟨-, rfl⟩ ⟨ho, hseq⟩ hpq
    have hlisted := hlist _ (b.owner_lt hp.1) hp.2
    refine ⟨fun ⟨ps, hps, hq⟩ => ?_, fun hlt hq => ?_⟩
    · obtain ⟨hhead, hlink⟩ := (hlisted _).mp hps
      exact b.not_retains_of_listed hp ho hseq hpq ((b.claims_iff _).mpr ⟨hp, rfl⟩).1 hhead hlink hq
    · exact b.not_retains_of_lower hp ho hseq hlt (hq _ ((hlisted _).mpr (r.reached_listed _)))
  · rintro p _ ⟨-, rfl⟩ hr
    exact a.page p hr
  · rw [hdoc] at hl
    refine ⟨a.docPages_rising b hk hl, fun p => ?_, (a.docPages_spec b k).2, fun d hd => ?_⟩
    · rw [a.mem_docPages b]
      exact and_congr_right fun hr => by rw [a.owner hr]
    · obtain rfl := Option.some.inj (hd.symm.trans (b.doc_shown hk hl))
      rw [a.damaged_iff b hk hl]
      refine or_congr_right (or_congr_right (exists_congr fun p => ?_))
      exact ⟨fun ⟨hp, ho, hr⟩ => ⟨_, ⟨hp, rfl⟩, ho, hr⟩, fun ⟨_, ⟨hp, hg⟩, ho, hr⟩ => ⟨hp, hg ▸ ho, hr⟩⟩
  · rintro p _ ⟨-, rfl⟩ hr hl
    exact a.holes_of_kept hr fun hc => by rw [hl] at hc; exact absurd hc.1 (by decide)
  · rintro p _ ⟨-, rfl⟩ hr
    refine ⟨a.holes_of_skipped hskip hr, fun ns hlen hhead hlinks hst hnodup hfree => ?_⟩
    have hchain := a.chain_of_whole b hskip hr hlen hhead hlinks (fun n hn => (hst n hn).2) hnodup hfree
    rw [a.page p hr, hchain]
    exact ⟨rfl, hhead, hlen⟩
  · have hstate : (f.page p).state = (r.page p).state := by rw [a.page p hp]
    have hlen : (f.page p).length = (r.page p).length := by rw [a.page p hp]
    rw [hstate] at hc
    obtain ⟨hpair, hmem⟩ := a.chain_of_closed hskip hp hc
    rw [hlen]
    refine ⟨hpair, hmem, a.holes_recounted hp (not_not.mpr ⟨hc, fun hw => ?_⟩)⟩
    rw [hskip] at hw
    exact absurd hw.1 Bool.false_ne_true
  · rintro p _ ns ⟨-, rfl⟩ hr hlen hhead hlinks hle htakes hends
    have hbounded := r.walkRule_bounded hskip p
    refine a.chain_of_follow hr (by rw [walkFuel]; omega) (fun _ => hhead.symm) hlinks (fun h => hle (hbounded.mp h))
      (fun l n m hsplit hn => (Filing.mayTake_iff hskip _).mpr (htakes l n m hsplit hn)) fun m hm => ?_
    rw [hbounded]
    exact (hends m hm).imp_right fun ⟨hN, hno⟩ => ⟨hN, mt (Filing.mayTake_iff hskip _).mp hno⟩

end

section
/-! PROOFS. The tick: the channel timers, the clock, the guard and the prescaler (R36, R138, R139, R145, R164). -/

namespace Sys2Proof.Machine

/-! ## The channel timers (R36) -/

/-- A channel after a tick: its timer is lowered unless a mask holds it. -/
def Channel.ticked (held : Bool) (ch : Channel) : Channel :=
  if held then ch else { ch with timer := ch.timer.map fun v => v - 1 }

theorem Channel.ticked_of_stopped {ch : Channel} (h : ch.timer = none) (held : Bool) : ch.ticked held = ch := by
  obtain ⟨⟩ := ch
  subst h
  cases held <;> rfl

section
variable (f : Filing)

theorem Filing.tickChannel_monitors (c : Nat) : (f.tickChannel c).monitors = f.monitors := by
  unfold Filing.tickChannel
  dsimp only
  split_ifs <;> simp

theorem Filing.timerHeld_congr {g : Filing} (h : g.monitors = f.monitors) (ch : Channel) :
    g.timerHeld ch = f.timerHeld ch := by
  simp only [Filing.timerHeld, Filing.masked, h]

theorem Filing.tickChannel_chan (c : Nat) : (f.tickChannel c).chan c = (f.chan c).ticked (f.timerHeld (f.chan c)) := by
  unfold Filing.tickChannel
  dsimp only
  cases htimer : (f.chan c).timer with
  | none => rw [Channel.ticked_of_stopped htimer]; rfl
  | some v => cases hheld : f.timerHeld (f.chan c) <;> simp [Channel.ticked, lowerTimer, htimer]

theorem Filing.tickChannel_chan_ne {c e : Nat} (h : e ≠ c) : (f.tickChannel c).chan e = f.chan e := by
  unfold Filing.tickChannel
  dsimp only
  split_ifs
  · rfl
  · exact Filing.chan_setChan_ne _ _ h

/-- Each channel of a list without repeats is ticked once, the others stay. -/
theorem Filing.foldl_tickChannel_chan {cs : List Nat} (hcs : cs.Nodup) (e : Nat) :
    (cs.foldl (fun f c => f.tickChannel c) f).chan e =
      if e ∈ cs then (f.chan e).ticked (f.timerHeld (f.chan e)) else f.chan e := by
  induction cs generalizing f with
  | nil => rfl
  | cons c cs ih =>
    obtain ⟨hc, hcs⟩ := List.nodup_cons.mp hcs
    rw [List.foldl_cons, ih (f.tickChannel c) hcs, f.timerHeld_congr (f.tickChannel_monitors c)]
    by_cases he : e = c
    · subst he
      simp [hc, f.tickChannel_chan]
    · simp [he, f.tickChannel_chan_ne he]

theorem Filing.tickChannels_chan {c : Nat} (h : 1 ≤ c ∧ c ≤ 24) :
    f.tickChannels.chan c = (f.chan c).ticked (f.timerHeld (f.chan c)) := by
  rw [Filing.tickChannels, f.foldl_tickChannel_chan channelNumbers_nodup, if_pos ((mem_channelNumbers c).mpr h)]

/-! ## The clock and the guard (R138, R139, R147, R164) -/

theorem Filing.tick_eq : f.tick = f.tickChannels.tickClock.tickGuard := rfl

/-- The clock's part of a tick reaches nothing else. -/
theorem Filing.tickClock_frame : f.tickClock.channels = f.channels ∧ f.tickClock.dir = f.dir ∧
    f.tickClock.mirror = f.mirror ∧ f.tickClock.clock.prescaler = f.clock.prescaler := by
  unfold Filing.tickClock
  split_ifs <;> exact ⟨rfl, rfl, rfl, rfl⟩

theorem Filing.tick_chan {c : Nat} (h : 1 ≤ c ∧ c ≤ 24) : f.tick.chan c = (f.chan c).ticked (f.timerHeld (f.chan c)) := by
  rw [← f.tickChannels_chan h, f.tick_eq, Filing.chan, Filing.tickGuard_channels, f.tickChannels.tickClock_frame.1,
    ← Filing.chan]

/-- The clock after a tick from READY onwards. -/
def Clock.advanced (k : Clock) : Clock :=
  { k with now := k.now + 1, saveCount := if k.saveCount + 1 == Config.saveInterval then 0 else k.saveCount + 1
           saveOwed := k.saveOwed || k.saveCount + 1 == Config.saveInterval, examining := true }

theorem Filing.tick_clock (hr : f.running = true) : f.tick.clock = f.clock.advanced := by
  obtain ⟨hclock, -, -, hboot⟩ := f.tickChannels_frame
  have hrun : f.tickChannels.running = true := by rw [Filing.running, hboot]; exact hr
  rw [f.tick_eq, Filing.tickGuard_clock, Filing.tickClock, if_pos hrun, hclock]
  rfl

theorem Filing.tick_prescaler : f.tick.clock.prescaler = f.clock.prescaler := by
  obtain ⟨hclock, -, -, -⟩ := f.tickChannels_frame
  obtain ⟨-, -, -, hprescaler⟩ := f.tickChannels.tickClock_frame
  rw [f.tick_eq, Filing.tickGuard_clock, hprescaler, hclock]

theorem Filing.tick_dir : f.tick.dir = f.dir := by
  obtain ⟨-, hdir, -, -⟩ := f.tickChannels_frame
  rw [f.tick_eq, Filing.tickGuard_dir, f.tickChannels.tickClock_frame.2.1, hdir]

theorem Filing.tick_mirror : f.tick.mirror = { f.mirror with guarded := f.mirror.guarded.map fun g => (g.1, g.2 - 1) } := by
  obtain ⟨-, -, hmirror, -⟩ := f.tickChannels_frame
  obtain ⟨-, -, hclock, -⟩ := f.tickChannels.tickClock_frame
  rw [f.tick_eq, Filing.tickGuard, hclock, hmirror]

/-! ## What the last tick left (log entry 8) -/

theorem Filing.settleChannel_boot (c : Nat) : (f.settleChannel c).boot = f.boot := by
  have hall (k : NoticeKey) : (fun _ => True) k := trivial
  unfold Filing.settleChannel
  split_ifs
  · exact (Filing.acts.refl.stallExpiry hall c).boot
  · exact (Filing.acts.refl.gapExpiry hall c).boot
  · exact (Filing.acts.refl.confirmTimeout hall c).boot
  · rfl

theorem Filing.settleDeadlines_boot (n : Nat) : (Filing.settleDeadlines n f).boot = f.boot := by
  induction n generalizing f with
  | zero => rfl
  | succ n ih =>
    unfold Filing.settleDeadlines
    split_ifs
    · exact (ih _).trans (Filing.acts.refl.fireHead fun _ => trivial : f.acts (fun _ => True) f.fireHead).boot
    · rfl

theorem Filing.settle_boot : f.settle.boot = f.boot := by
  have hchannels : (channelNumbers.foldl (fun f c => f.settleChannel c) f).boot = f.boot :=
    foldl_keeps Filing.boot _ _ _ fun f c => f.settleChannel_boot c
  unfold Filing.settle
  dsimp only
  rw [← hchannels]
  split_ifs <;> simp [Filing.settleDeadlines_boot]

end

/-! ## The prescaler (R138, R179) -/

section
variable {s : State}

theorem Phase.clocked_iff (p : Phase) : p.clocked = true ↔ p ≠ .off ∧ p ≠ .haltStraps := by
  cases p <;> simp [Phase.clocked]

theorem State.step_of_idle (h : s.pending = []) : step s = .next s.busCycle := by
  rw [step, h]

theorem exec_tick_settles (hc : s.filing.boot.phase.clocked = true) : exec .tick s = .next s.settle.takeTick := by
  have hc' : s.settle.filing.boot.phase.clocked = true := by rw [State.settle_filing, Filing.settle_boot]; exact hc
  show execTick s = _
  rw [execTick, if_pos hc']

theorem State.takeTick_prescaler (s : State) : s.takeTick.filing.clock.prescaler = 0 := by
  rw [State.takeTick_filing, Filing.tick_prescaler]
  rfl

/-- Every part of the state that a tick from READY onwards reaches. -/
theorem State.takeTick_spec (hr : s.filing.running = true) :
    s.takeTick.filing.clock = { s.filing.clock with prescaler := 0 }.advanced ∧
    (∀ c, 1 ≤ c ∧ c ≤ 24 →
      s.takeTick.filing.chan c = (s.filing.chan c).ticked (s.filing.timerHeld (s.filing.chan c))) ∧
    s.takeTick.filing.mirror =
      { s.filing.mirror with guarded := s.filing.mirror.guarded.map fun g => (g.1, g.2 - 1) } ∧
    s.takeTick.filing.dir = s.filing.dir := by
  rw [State.takeTick_filing]
  exact ⟨Filing.tick_clock _ hr, fun c hc => Filing.tick_chan _ hc, Filing.tick_mirror _, Filing.tick_dir _⟩

end

end Sys2Proof.Machine

open Sys2Proof Sys2Proof.Machine

/-- Settles O57: the tick by its owners, and the bus cycle by the prescaler's count. -/
theorem tickCounts : Obligations.TickCounts := by
  refine ⟨fun s hcalm => ?_, rfl, fun s hphase => ?_, fun s divisor hidle hoff hhalt hdivisor => ?_⟩
  · obtain ⟨hphase, hset⟩ := (State.calm_iff s).mp hcalm
    have hrun : s.filing.running = true := by simp [Filing.running, hphase]
    have howed : s.filing.clock.saveOwed = false := by
      simp only [Filing.settled, Bool.and_eq_true, Bool.not_eq_true'] at hset
      exact hset.1.2
    obtain ⟨hclock, hchan, hmirror, hdir⟩ := State.takeTick_spec hrun
    refine ⟨s.takeTick, exec_tick hset (by rw [hphase]; rfl), s.takeTick_store, s.takeTick_board, ?_, ?_, ?_, ?_,
      fun hsave => ?_, fun hsave => ?_, fun c h1 h24 => hchan c ⟨h1, h24⟩, ?_, ?_, hdir⟩
    · rw [Filing.now, hclock]; rfl
    · rw [hclock]; rfl
    · rw [hclock]; rfl
    · rw [hclock]; rfl
    · have hne : s.filing.clock.saveCount ≠ 5999 := hsave.ne
      simp [hclock, Clock.advanced, Config.saveInterval, hne, howed]
    · simp [hclock, Clock.advanced, Config.saveInterval, hsave]
    · rw [hmirror]
    · rw [hmirror]
  · have hstopped : s.filing.boot.phase.clocked = false := by
      rcases hphase with h | h <;> rw [h] <;> rfl
    refine ⟨fun hidle => ?_, fun hset => ?_⟩
    · rw [State.step_of_idle hidle, State.busCycle, hstopped]
      rfl
    · show execTick s = _
      rw [execTick, State.settle_of_settled s hset, hstopped]
      rfl
  · have hclocked : s.filing.boot.phase.clocked = true := (Phase.clocked_iff _).mpr ⟨hoff, hhalt⟩
    have hdiv : s.board.straps.divisor = divisor := by
      rcases hdivisor with ⟨h, rfl⟩ | ⟨h, rfl⟩ | ⟨h, rfl⟩ <;> simp only [Straps.divisor, h]
    rw [State.step_of_idle hidle, State.busCycle, if_pos hclocked, hdiv]
    refine ⟨fun hlt => by rw [if_pos hlt], fun heq => ?_⟩
    rw [if_neg (by omega), exec_tick_settles hclocked]
    exact ⟨rfl, _, rfl, State.takeTick_prescaler _⟩

end

section
/-! PROOFS. Strays: call words of another kind and trailer words out of place (R39, R52, R56). -/

namespace Sys2Proof.Machine

/-! ## The channel's part of a fault (R56) -/

section
variable {ch : Channel} {m : Monitor}

theorem Channel.recordFault_of_free (h : ¬ m.locks = true) (lockout : Bool) :
    ch.recordFault lockout m = { ch with lastFault := some m } := by
  simp [Channel.recordFault, h]

theorem Channel.recordFault_without_lockout : ch.recordFault false m = { ch with lastFault := some m } := rfl

theorem Channel.recordFault_locks (h : m.locks = true) (hst : ch.state = .idle ∨ ch.state = .discard) :
    ch.recordFault true m = { ch with lastFault := some m, state := .locked, lockPending := false, timer := none } := by
  simp [Channel.recordFault, h, hst]

theorem Channel.recordFault_pends (h : m.locks = true) (hidle : ch.state ≠ .idle) (hdiscard : ch.state ≠ .discard) :
    ch.recordFault true m = { ch with lastFault := some m, lockPending := true } := by
  simp [Channel.recordFault, h, hidle, hdiscard]

end

section
variable {f : Filing} {c : Nat}

theorem Filing.reportFault_of_masked {m : Monitor} (h : f.masked m = true) (w : Word) : f.reportFault c m w = f :=
  if_pos h

theorem Filing.reportFault_latches {m : Monitor} (h : f.masked m = false) (w : Word) :
    (f.reportFault c m w).monitors.latches = f.monitors.latches ||| latchBit m := by
  have hmon (x : Channel) : (f.changeChan c x).masked m = false := by rw [← h, Filing.masked, Filing.changeChan_monitors]; rfl
  rw [Filing.reportFault, if_neg (by simp [h])]
  dsimp only
  rw [Filing.latch_latches, if_neg (by simp [hmon]), Filing.changeChan_monitors]

/-! ## Call words (R39) -/

theorem callRow_other {w : BoardWrite} (h : w.width ≠ .full ∨ (w.data ≠ 1 ∧ w.data ≠ 2)) : callRow w = .otherCall := by
  unfold callRow BoardWrite.full
  rcases h with hw | ⟨h1, h2⟩
  · rw [if_neg (by simpa using hw)]
  · have hkind : callKind w.data = .other := (if_neg h1).trans (if_neg h2)
    rw [hkind]
    split_ifs <;> rfl

/-- A write to the call word, by its row. -/
theorem Filing.drainRow_callWord {x : Staged} {o : Nat} (hx : x.cls = .landing c o) (h1 : 1048508 ≤ o) (h2 : o < 1048512) :
    f.drainRow x = callRow x.write := by
  have hdata : ¬ o < Config.dataAreaBytes := by simp only [Config.dataAreaBytes]; omega
  have hcall : ¬ o < callWordAt := by simp only [callWordAt]; omega
  have hlate : o < lateSlot := h2
  simp only [Filing.drainRow, hx, if_neg hdata, if_neg hcall, if_pos hlate]

/-- A write to the slots of a landing aperture is stored in channel record c (Table 7). -/
theorem AddrClass.dest_landing (c o : Nat) :
    (AddrClass.landing c o).dest = some (.page (0x4000 + 0x100 * (c - 1) + (o - 1048448))) := rfl

/-- A write to the call word that neither opens nor ends a call is captured, reported as STRAY and stored. -/
theorem exec_otherCallKind {s : State} {x : Staged} {o : Nat} (hdr : s.drains x = true) (hx : x.cls = .landing c o)
    (h1 : 1048508 ≤ o) (h2 : o < 1048512) (hother : x.write.width ≠ .full ∨ (x.write.data ≠ 1 ∧ x.write.data ≠ 2)) :
    exec .otherCallKind s =
      .next { s with board := s.board.await (.page (0x4000 + 0x100 * (c - 1) + (o - 1048448)))
                     filing := (s.filing.setChan c { s.filing.chan c with
                       header := Tbl.put (s.filing.chan c).header 15
                         (overlayWord ((s.filing.chan c).headerWord 15) ((o - 1048448) % 4) x.write.bytes) }).stray c
                         .callWord } := by
  have hrow : s.filing.drainRow x = .otherCall := (Filing.drainRow_callWord hx h1 h2).trans (callRow_other hother)
  have hdest : x.cls.dest = _ := (congrArg AddrClass.dest hx).trans (AddrClass.dest_landing c o)
  have hword : (o - 1048448) / 4 = 15 := by omega
  show execOtherCallKind s = _
  rw [execOtherCallKind, State.drainAs_of_drains hdr hrow, State.drainTo_of_dest hdest,
    Filing.captureWrite_landing _ _ _ _ hx, hx, hword]
  rfl

/-! ## Trailer words (R52) -/

theorem exec_trailerWord {s : State} {x : Staged} {o : Nat} (hdr : s.drains x = true) (hx : x.cls = .landing c o)
    (h : 1048572 ≤ o) : exec .trailerWord s =
      .next { s with board := s.board.await (.page (0x4000 + 0x100 * (c - 1) + (o - 1048448)))
                     filing := s.filing.trailerWord c x.write.full x.write.data } := by
  have hrow : s.filing.drainRow x = .trailer := by
    have hdata : ¬ o < Config.dataAreaBytes := by simp only [Config.dataAreaBytes]; omega
    have hcall : ¬ o < callWordAt := by simp only [callWordAt]; omega
    have hlate : ¬ o < lateSlot := by simp only [lateSlot]; omega
    have hlast : ¬ o < lastWordAt := by simp only [lastWordAt]; omega
    simp only [Filing.drainRow, hx, if_neg hdata, if_neg hcall, if_neg hlate, if_neg hlast]
  have hdest : x.cls.dest = _ := (congrArg AddrClass.dest hx).trans (AddrClass.dest_landing c o)
  show execTrailerWord s = _
  rw [execTrailerWord, State.drainAs_of_drains hdr hrow, State.drainTo_of_dest hdest, hx]
  rfl

theorem Filing.trailerWord_ignored (h : (f.chan c).state = .discard ∨ (f.chan c).state = .locked) (full : Bool)
    (w : Word) : f.trailerWord c full w = f := by
  unfold Filing.trailerWord
  rcases h with h | h <;> rw [h]

theorem Filing.trailerWord_stray {full : Bool} (hout : (f.chan c).state ≠ .page ∨ full = false)
    (hdiscard : (f.chan c).state ≠ .discard) (hlocked : (f.chan c).state ≠ .locked) (w : Word) :
    f.trailerWord c full w = f.stray c .trailerWord := by
  unfold Filing.trailerWord
  split
  next hpage => rw [hout.resolve_left fun h => h hpage]; rfl
  next h => exact absurd h hdiscard
  next h => exact absurd h hlocked
  all_goals rfl

end

end Sys2Proof.Machine

open Sys2Proof Sys2Proof.Machine

/-- Settles O31: the call word captured, then the stray's part of the channel (R56) and of the Monitor Unit (R168). -/
theorem otherCallKindIsStray : Obligations.OtherCallKindIsStray := by
  intro s x c o hdr hx h1 h2 hother old ch
  set f := s.filing.setChan c ch
  have hchan : f.chan c = ch := Filing.chan_setChan ..
  have hmask : f.masked .stray = s.filing.monitors.policy.masks.getLsbD 6 := rfl
  refine ⟨_, exec_otherCallKind hdr hx h1 h2 hother, rfl, rfl, f.stray_dir .., f.stray_blocks .., f.stray_boxes ..,
    fun e he => ?_, fun hm => ?_, fun hm => ?_⟩
  · exact (Filing.reportFault_chan_ne _ _ _ he).trans (Filing.chan_setChan_ne _ _ he)
  · exact Filing.reportFault_of_masked (hmask.trans hm) _
  · have hstray : (f.stray c .callWord).chan c = ch.recordFault s.filing.monitors.policy.lockout .stray := by
      rw [Filing.stray, Filing.reportFault_chan, hmask, hm, hchan]
      rfl
    refine ⟨Filing.reportFault_latches (hmask.trans hm) _, fun hl => ?_, fun hl hst => ?_, fun hl hidle hdiscard => ?_⟩ <;>
      refine hstray.trans ?_ <;> rw [hl]
    · rfl
    · exact Channel.recordFault_locks rfl hst
    · exact Channel.recordFault_pends rfl hidle hdiscard

/-- Settles O34: the word ignored in DISCARD and LOCKED, reported everywhere else, a masked report changing nothing. -/
theorem trailerOutOfPlace : Obligations.TrailerOutOfPlace := by
  intro s x c o hdr hx h1 h2 hout stored told others
  have hout' : (s.filing.chan c).state ≠ .page ∨ x.write.full = false :=
    hout.imp_right fun hw => by simpa [BoardWrite.full] using hw
  have hstray (hdiscard : (s.filing.chan c).state ≠ .discard) (hlocked : (s.filing.chan c).state ≠ .locked) :
      exec .trailerWord s = .next { s with board := stored, filing := told } := by
    rw [exec_trailerWord hdr hx h1, Filing.trailerWord_stray hout' hdiscard hlocked]
    rfl
  refine ⟨fun hquiet => ?_, fun hdiscard hlocked => ⟨told.mirror.flushList, .refl _, rfl, hstray hdiscard hlocked⟩⟩
  by_cases hst : (s.filing.chan c).state = .discard ∨ (s.filing.chan c).state = .locked
  · rw [exec_trailerWord hdr hx h1, Filing.trailerWord_ignored hst]
  · obtain ⟨hdiscard, hlocked⟩ := not_or.mp hst
    have hmasked := (hquiet.resolve_left hdiscard).resolve_left hlocked
    have htold : told = s.filing := Filing.reportFault_of_masked hmasked _
    rw [hstray hdiscard hlocked, htold]

end

section
/-! PROOFS. OPEN: the routing table's answer, the slot that the Directory gives, and the call word by the channel's state (R40, R41,
R73, R74, R90). -/

namespace Sys2Proof.Machine

/-! ## The first of a run of numbers -/

theorem numbers_zero_eq (n : Nat) : numbers 0 n = List.range n := by simp [numbers]

/-- The last number up to n for which a partial function has a value. -/
theorem findSome?_reverse_numbers {α : Type} (g : Nat → Option α) (n : Nat) :
    ((∀ i, i ≤ n → g i = none) ∧ (numbers 0 (n + 1)).reverse.findSome? g = none) ∨
      ∃ i x, i ≤ n ∧ g i = some x ∧ (∀ j, i < j → j ≤ n → g j = none) ∧
        (numbers 0 (n + 1)).reverse.findSome? g = some x := by
  simp only [numbers_zero_eq]
  induction n with
  | zero =>
    cases h : g 0 with
    | none => simp [List.range_succ, h]
    | some x => exact .inr ⟨0, x, le_rfl, h, fun j h1 h2 => absurd h1 (Nat.not_lt.mpr h2), by simp [List.range_succ, h]⟩
  | succ n ih =>
    have hstep : (List.range (n + 2)).reverse.findSome? g = (g (n + 1)).or ((List.range (n + 1)).reverse.findSome? g) := by
      rw [List.range_succ, List.reverse_append, List.reverse_singleton, List.singleton_append, List.findSome?_cons]
      cases g (n + 1) <;> rfl
    rw [hstep]
    cases hlast : g (n + 1) with
    | some x => exact .inr ⟨n + 1, x, le_rfl, hlast, fun j h1 h2 => absurd h1 (Nat.not_lt.mpr h2), rfl⟩
    | none =>
      have hup {j : Nat} (hj : j ≤ n + 1) (h : j ≤ n → g j = none) : g j = none := by
        rcases Nat.le_succ_iff.mp hj with hle | rfl
        · exact h hle
        · exact hlast
      rcases ih with ⟨hall, hnone⟩ | ⟨i, x, hi, hx, hafter, hsome⟩
      · exact .inl ⟨fun j hj => hup hj (hall j), hnone⟩
      · exact .inr ⟨i, x, Nat.le_succ_of_le hi, hx, fun j h1 hj => hup hj (hafter j h1), hsome⟩

/-! ## The routing table (R73) -/

section
variable (f : Filing)

/-- An entry of the routing table. -/
def Filing.hasRoute (r : Route) : Prop := ∃ e, e < 128 ∧ f.route e = some r

/-- The mailbox of the first entry that passes a test. -/
def Filing.firstMailbox (test : Route → Bool) : Option Nat :=
  (numbers 0 Config.routeCount).findSome? fun e => ((f.route e).filter test).map Route.mailbox

theorem Filing.firstMailbox_some {test : Route → Bool} {m : Nat} (h : f.firstMailbox test = some m) :
    ∃ r, f.hasRoute r ∧ test r = true ∧ r.mailbox = m := by
  obtain ⟨e, he, h⟩ := List.exists_of_findSome?_eq_some h
  simp only [Option.map_eq_some_iff, Option.filter_eq_some_iff] at h
  obtain ⟨r, ⟨hr, ht⟩, hm⟩ := h
  exact ⟨r, ⟨e, mem_numbers_zero.mp he, hr⟩, ht, hm⟩

theorem Filing.firstMailbox_none {test : Route → Bool} (h : f.firstMailbox test = none) {r : Route} (hr : f.hasRoute r) :
    test r = false := by
  obtain ⟨e, he, hr⟩ := hr
  have hall := List.findSome?_eq_none_iff.mp h e (mem_numbers_zero.mpr he)
  simpa [hr] using hall

/-- The test of an EXACT entry. -/
def Route.isExact (d : List Digit) (r : Route) : Bool := decide (r.kind = .exact ∧ r.pattern = d)

/-- The test of a PREFIX entry of a pattern length. -/
def Route.leads (d : List Digit) (len : Nat) (r : Route) : Bool :=
  decide (r.kind = .leading ∧ r.pattern.length = len ∧ 0 < len ∧ r.pattern = d.take len)

theorem Filing.lookupExact_eq (d : List Digit) : f.lookupExact d = f.firstMailbox (Route.isExact d) := by
  refine congrArg (fun g => List.findSome? g _) (funext fun e => ?_)
  cases f.route e with
  | none => rfl
  | some r => by_cases h : r.kind = .exact ∧ r.pattern = d <;> simp [Route.isExact, h, Option.filter]

theorem Filing.lookupLeading_eq (d : List Digit) (len : Nat) :
    f.lookupLeading d len = f.firstMailbox (Route.leads d len) := by
  refine congrArg (fun g => List.findSome? g _) (funext fun e => ?_)
  cases f.route e with
  | none => rfl
  | some r =>
    by_cases h : r.kind = .leading ∧ r.pattern.length = len ∧ 0 < len ∧ r.pattern = d.take len <;>
      simp [Route.leads, h, Option.filter]

theorem Route.leads_iff {d : List Digit} {len : Nat} {r : Route} : r.leads d len = true ↔
    r.pattern.length = len ∧ r.kind = .leading ∧ r.pattern ≠ [] ∧ r.pattern <+: d := by
  simp only [Route.leads, decide_eq_true_eq, List.prefix_iff_eq_take, ← List.length_pos_iff]
  constructor
  · rintro ⟨hkind, rfl, hpos, htake⟩
    exact ⟨rfl, hkind, hpos, htake⟩
  · rintro ⟨rfl, hkind, hpos, htake⟩
    exact ⟨hkind, rfl, hpos, htake⟩

/-- The mailbox that the lookup chooses (R73). -/
theorem Filing.chosenMailbox_spec (d : List Digit) :
    let exact (r : Route) : Prop := r.kind = .exact ∧ r.pattern = d
    let leads (r : Route) : Prop := r.kind = .leading ∧ r.pattern ≠ [] ∧ r.pattern <+: d
    ((∃ r, f.hasRoute r ∧ exact r) → ∃ r, f.hasRoute r ∧ exact r ∧ f.chosenMailbox d = r.mailbox) ∧
    ((∀ r, f.hasRoute r → ¬ exact r) → (∃ r, f.hasRoute r ∧ leads r) →
      ∃ r, f.hasRoute r ∧ leads r ∧ (∀ q, f.hasRoute q → leads q → q.pattern.length ≤ r.pattern.length) ∧
        f.chosenMailbox d = r.mailbox) ∧
    ((∀ r, f.hasRoute r → ¬ exact r ∧ ¬ leads r) → f.chosenMailbox d = 0) := by
  intro exact leads
  unfold Filing.chosenMailbox
  rw [Filing.lookupExact_eq]
  cases hexact : f.firstMailbox (Route.isExact d) with
  | some m =>
    obtain ⟨r, hr, ht, rfl⟩ := f.firstMailbox_some hexact
    have hr' : exact r := of_decide_eq_true ht
    exact ⟨fun _ => ⟨r, hr, hr', rfl⟩, fun h => absurd hr' (h r hr), fun h => absurd hr' (h r hr).1⟩
  | none =>
    refine ⟨fun ⟨r, hr, he⟩ => absurd he (of_decide_eq_false (f.firstMailbox_none hexact hr)), fun _ hex => ?_, fun hno => ?_⟩
    · rcases findSome?_reverse_numbers (fun len => f.lookupLeading d len) d.length with
        ⟨hall, -⟩ | ⟨len, m, hlen, hm, hafter, hres⟩
      · obtain ⟨q, hq, hl⟩ := hex
        have hnone := f.firstMailbox_none ((f.lookupLeading_eq d _).symm.trans (hall _ hl.2.2.length_le)) hq
        exact absurd (Route.leads_iff.mpr ⟨rfl, hl⟩) (by simp [hnone])
      · rw [Filing.lookupLeading_eq] at hm
        obtain ⟨r, hr, ht, rfl⟩ := f.firstMailbox_some hm
        obtain ⟨rfl, hl⟩ := Route.leads_iff.mp ht
        refine ⟨r, hr, hl, fun q hq hlq => ?_, by rw [hres]; rfl⟩
        by_contra hlong
        have hnone := hafter _ (Nat.not_le.mp hlong) hlq.2.2.length_le
        rw [Filing.lookupLeading_eq] at hnone
        exact absurd (Route.leads_iff.mpr ⟨rfl, hlq⟩) (by simp [f.firstMailbox_none hnone hq])
    · rcases findSome?_reverse_numbers (fun len => f.lookupLeading d len) d.length with
        ⟨-, hres⟩ | ⟨len, m, -, hm, -⟩
      · rw [hres]; rfl
      · rw [Filing.lookupLeading_eq] at hm
        obtain ⟨r, hr, ht, -⟩ := f.firstMailbox_some hm
        exact absurd (Route.leads_iff.mp ht).2 (hno r hr).2

/-! ## The slot given (R90) -/

/-- A slot that the Directory may give. -/
def Filing.givable (k : Nat) : Prop := k < 1024 ∧ (f.doc k).state = .free ∧ ∀ p, (k, p) ∉ f.dir.withheld

theorem Filing.givable_iff {k : Nat} (hk : k < 1024) :
    ((f.doc k).state == .free && !f.dir.withheld.any (fun x => x.1 == k)) = true ↔ f.givable k := by
  have hheld : f.dir.withheld.any (fun x => x.1 == k) = true ↔ ∃ p, (k, p) ∈ f.dir.withheld := by simp
  rw [Bool.and_eq_true, Bool.not_eq_true', ← Bool.not_eq_true, hheld, beq_iff_eq, not_exists, Filing.givable,
    and_iff_right hk]

theorem Filing.givenSlot_some_iff (k : Nat) :
    f.givenSlot = some k ↔ f.givable k ∧ ∀ j, j < k → ¬ f.givable j := by
  unfold Filing.givenSlot
  rw [numbers_zero_eq, List.find?_range_eq_some]
  constructor
  · rintro ⟨hp, hk, hbefore⟩
    have hk : k < 1024 := List.mem_range.mp hk
    refine ⟨(f.givable_iff hk).mp hp, fun j hj h => ?_⟩
    have hfalse := hbefore j hj
    rw [(f.givable_iff (hj.trans hk)).mpr h] at hfalse
    exact absurd hfalse (by decide)
  · rintro ⟨hk, hbefore⟩
    refine ⟨(f.givable_iff hk.1).mpr hk, List.mem_range.mpr hk.1, fun j hj => ?_⟩
    rw [Bool.not_eq_true']
    exact Bool.eq_false_iff.mpr fun h => hbefore j hj ((f.givable_iff (hj.trans hk.1)).mp h)

theorem Filing.givenSlot_setChan (c : Nat) (ch : Channel) : (f.setChan c ch).givenSlot = f.givenSlot := by
  simp only [Filing.givenSlot, Filing.setChan_doc, Filing.setChan_dir]

theorem Filing.givenSlot_none_iff : f.givenSlot = none ↔ ∀ k, ¬ f.givable k := by
  unfold Filing.givenSlot
  rw [numbers_zero_eq, List.find?_range_eq_none]
  constructor
  · intro h k hk
    have hfalse := h k hk.1
    rw [(f.givable_iff hk.1).mpr hk] at hfalse
    exact absurd hfalse (by decide)
  · intro h k hk
    rw [Bool.not_eq_true']
    exact Bool.eq_false_iff.mpr fun hp => h k ((f.givable_iff hk).mp hp)

end

/-! ## The call taken (R40) -/

section
variable {f g : Filing} {c k : Nat}

/-- The ring after a notice depends on the ring, the time and the phase alone. -/
theorem Filing.raise_ring_congr (hr : g.ring = f.ring) (hn : g.now = f.now) (hb : g.boot = f.boot) (kind : NoticeKind)
    (doc : Option Nat) (item : KeyItem) (code : Nat) (args : List Word) :
    (g.raise kind doc item code args).ring = (f.raise kind doc item code args).ring := by
  have hpend (n : Notice) : (g.pend n).ring = (f.pend n).ring := by
    unfold Filing.pend
    rw [hr]
    split_ifs <;> simp [hr]
  have hproduce (n : Notice) : (g.produceNotice n).ring = (f.produceNotice n).ring := by
    simp only [Filing.produceNotice, Filing.produce, hr]
  have hrun : g.running = f.running := by rw [Filing.running, hb, Filing.running]
  unfold Filing.raise
  rw [hr, hn, hrun]
  dsimp only
  split_ifs
  · exact hproduce _
  · exact hpend _

/-- The document that an OPEN creates in slot k (R40). -/
def Filing.openedDoc (c k : Nat) (f : Filing) : Doc :=
  { Doc.freed (f.doc k).gen with
    state := .receiving, mailbox := (f.lookup (f.chan c).dialled).1, channel := some c, arrival := some f.now
    rerouted := (f.lookup (f.chan c).dialled).2, digits := (f.chan c).dialled, caller := (f.chan c).callerId
    recipients := defaultRecipients (f.mailbox (f.lookup (f.chan c).dialled).1) }

/-- The channel whose OPEN has created document id (R40). -/
def Channel.opened (lockout : Bool) (id : Nat) (ch : Channel) : Channel :=
  { ch with state := .gap, doc := some id, timer := some (ch.gapTime * 100)
            lastFault := if lockout then ch.lastFault else none }

/-- Document and channel of an OPEN, before its notice. -/
def Filing.opened (c k : Nat) (f : Filing) : Filing :=
  (((f.setDoc k (f.openedDoc c k)).mark (.document k)).setChan c
    ((f.chan c).opened f.monitors.policy.lockout (k * 64 + (f.doc k).gen))).mark (.channel c)

theorem Filing.openIdle_of_slot (h : f.givenSlot = some k) : f.openIdle c =
    (f.opened c k).raise .intakeOpened (some (k * 64 + (f.doc k).gen)) (.channel c) 0
      [argNat (k * 64 + (f.doc k).gen), argNat c, argNat (f.lookup (f.chan c).dialled).1,
       argNat (flag (f.lookup (f.chan c).dialled).2)] := by
  let f1 := (f.setDoc k (f.openedDoc c k)).mark (.document k)
  have hid : f1.docId k = k * 64 + (f.doc k).gen := by
    rw [Filing.docId, Filing.mark_doc, Filing.doc_setDoc]
    rfl
  have hopen : f.openIdle c =
      ((f1.setChan c ((f.chan c).opened f.monitors.policy.lockout (f1.docId k))).mark (.channel c)).raise .intakeOpened
        (some (f1.docId k)) (.channel c) 0
        [argNat (f1.docId k), argNat c, argNat (f.lookup (f.chan c).dialled).1,
         argNat (flag (f.lookup (f.chan c).dialled).2)] := by
    unfold Filing.openIdle
    rw [h]
    rfl
  rw [hopen, hid]
  rfl

theorem Filing.openIdle_of_none (h : f.givenSlot = none) : f.openIdle c =
    ((f.setChan c { f.chan c with state := .discard, timer := none }).mark (.channel c)).refuseIntake c .directoryFull := by
  unfold Filing.openIdle
  rw [h]

theorem Filing.opened_doc : (f.opened c k).doc k = f.openedDoc c k := by simp [Filing.opened]

theorem Filing.opened_doc_ne {j : Nat} (h : j ≠ k) : (f.opened c k).doc j = f.doc j := by
  simp [Filing.opened, Filing.doc_setDoc_ne _ _ h]

theorem Filing.opened_chan : (f.opened c k).chan c =
    (f.chan c).opened f.monitors.policy.lockout (k * 64 + (f.doc k).gen) := by simp [Filing.opened]

theorem Filing.openCall_of_free (h : (f.chan c).state = .idle ∨ (f.chan c).state = .discard) :
    f.openCall c = f.openIdle c := by
  rcases h with h | h <;> simp only [Filing.openCall, Filing.openAs, h]

theorem Filing.openIdle_chan_ne {e : Nat} (h : e ≠ c) : (f.openIdle c).chan e = f.chan e := by
  cases hk : f.givenSlot with
  | none => rw [Filing.openIdle_of_none hk]; simp [Filing.refuseIntake, Filing.chan_setChan_ne _ _ h]
  | some k => rw [Filing.openIdle_of_slot hk]; simp [Filing.opened, Filing.chan_setChan_ne _ _ h]

/-- What an OPEN leaves alone. -/
theorem Filing.openIdle_frame : (f.openIdle c).blocks = f.blocks ∧ (f.openIdle c).boxes = f.boxes ∧
    (f.openIdle c).queue = f.queue := by
  cases hk : f.givenSlot with
  | none => rw [Filing.openIdle_of_none hk]; simp [Filing.refuseIntake]
  | some k => rw [Filing.openIdle_of_slot hk]; simp [Filing.opened]

/-! ## The call word (R38, R41) -/

/-- The digits and the caller are read from header words 0 to 9. -/
theorem Channel.header_callWord (ch : Channel) (w : Word) :
    ({ ch with header := Tbl.put ch.header 15 w } : Channel).dialled = ch.dialled ∧
    ({ ch with header := Tbl.put ch.header 15 w } : Channel).callerId = ch.callerId := by
  have hword {i : Nat} (h : i ≠ 15) : ({ ch with header := Tbl.put ch.header 15 w } : Channel).headerWord i = ch.headerWord i :=
    congrArg (Option.getD · 0) (Tbl.find_put_ne _ _ h)
  simp [Channel.dialled, Channel.callerId, hword]

theorem exec_openCall {s : State} {x : Staged} (hdr : s.drains x = true) (hx : x.cls = .landing c 1048508)
    (hw : x.write.width = .full) (hdata : x.write.data = 1) : exec .openCall s =
      .next { s with board := s.board.await (.page (0x4000 + 0x100 * (c - 1) + 60))
                     filing := (s.filing.setChan c { s.filing.chan c with
                       header := Tbl.put (s.filing.chan c).header 15 1 }).openCall c } := by
  have hrow : s.filing.drainRow x = .opens := by
    rw [Filing.drainRow_callWord hx (by decide) (by decide), callRow, BoardWrite.full, hw, hdata]
    rfl
  have hdest : x.cls.dest = some (.page (0x4000 + 0x100 * (c - 1) + 60)) :=
    (congrArg AddrClass.dest hx).trans (AddrClass.dest_landing c _)
  show execOpenCall s = _
  rw [execOpenCall, State.drainAs_of_drains hdr hrow, State.drainTo_of_dest hdest,
    Filing.captureWrite_callWord _ _ _ hx hw, hdata, hx]
  rfl

/-- An OPEN in GAP or PAGE ends the call, and is taken as in the state that leaves (R41). -/
theorem Filing.openCall_of_call {d : Nat} (hst : (f.chan c).state = .gap ∨ (f.chan c).state = .page)
    (hd : (f.chan c).doc = some d) :
    (((f.endCall c).chan c).state = .idle ∨ ((f.endCall c).chan c).state = .locked) ∧
      f.openCall c = (f.endCall c).openCall c := by
  have hend := Filing.endCall_of_call hst
  have hleft : ((f.endCall c).chan c).state = .idle ∨ ((f.endCall c).chan c).state = .locked := by
    rw [hend, (Filing.endCurrent_chan hd _ _).1]
    cases (f.chan c).lockPending
    · exact .inl rfl
    · exact .inr rfl
  have hagain : (f.endCall c).openCall c = (f.endCall c).openAs c := by
    rcases hleft with h | h <;> simp only [Filing.openCall, h]
  refine ⟨hleft, ?_⟩
  rw [hagain, hend]
  rcases hst with h | h <;> simp only [Filing.openCall, h]

end

end Sys2Proof.Machine

open Sys2Proof Sys2Proof.Machine

/-- Settles O29: the lookup and the slot given, then the call word captured and `openCall` by the channel's state. -/
theorem openCreatesTheDocument : Obligations.OpenCreatesTheDocument := by
  refine ⟨fun f d => ?_, fun f => ⟨f.givenSlot_some_iff, f.givenSlot_none_iff⟩, fun s x c hdr hx hw hdata => ?_,
    fun s x c hdr hx hw hdata hst => ?_⟩
  · intro deliver entry exact leads
    have hdeliver : f.lookup d = deliver (f.chosenMailbox d) := rfl
    obtain ⟨hexact, hleads, hnone⟩ := f.chosenMailbox_spec d
    rw [hdeliver]
    refine ⟨fun h => ?_, fun hno h => ?_, fun h => congrArg deliver (hnone h)⟩
    · obtain ⟨r, hr, he, hm⟩ := hexact h
      exact ⟨r, hr, he, congrArg deliver hm⟩
    · obtain ⟨r, hr, hl, hmax, hm⟩ := hleads hno h
      exact ⟨r, hr, hl, hmax, congrArg deliver hm⟩
  · intro ch f stored
    have hrun := exec_openCall hdr hx hw hdata
    have hchan : f.chan c = { ch with header := Tbl.put ch.header 15 1 } := Filing.chan_setChan ..
    refine ⟨fun hst => ?_, fun hst => ?_, fun d hst hd => ?_⟩
    · have hst' : (f.chan c).state = .send := by rw [hchan]; exact hst
      have hopen : f.openCall c = f.refuseIntake c .busy := by simp only [Filing.openCall, Filing.openAs, hst']
      rw [hrun, hopen]
      rfl
    · have hst' : (f.chan c).state = .locked := by rw [hchan]; exact hst
      have hopen : f.openCall c = f.refuseIntake c .locked := by simp only [Filing.openCall, Filing.openAs, hst']
      rw [hrun, hopen]
      rfl
    · have hend := Filing.openCall_of_call (f := f) (c := c) (d := d) (by rw [hchan]; exact hst) (by rw [hchan]; exact hd)
      exact ⟨hend.1, by rw [hrun, hend.2]⟩
  · intro ch lk
    set f := s.filing.setChan c { ch with header := Tbl.put ch.header 15 1 }
    have hchan : f.chan c = { ch with header := Tbl.put ch.header 15 1 } := Filing.chan_setChan ..
    obtain ⟨hdialled, hcaller⟩ := ch.header_callWord 1
    have hopen : f.openCall c = f.openIdle c := Filing.openCall_of_free (by rw [hchan]; exact hst)
    obtain ⟨hblocks, hboxes, hqueue⟩ := Filing.openIdle_frame (f := f) (c := c)
    have hlookup : f.lookup (f.chan c).dialled = lk := by
      rw [hchan, hdialled]
      rfl
    have hrun : exec .openCall s =
        .next { s with board := s.board.await (.page (0x4000 + 0x100 * (c - 1) + 60)), filing := f.openIdle c } := by
      rw [exec_openCall hdr hx hw hdata, ← hopen]
    have hother (e : Nat) (he : e ≠ c) : (f.openIdle c).chan e = s.filing.chan e :=
      (Filing.openIdle_chan_ne he).trans (Filing.chan_setChan_ne _ _ he)
    refine ⟨_, hrun, rfl, rfl, ?_⟩
    dsimp only
    refine ⟨hblocks, hboxes, hqueue, hother, fun k hk => ?_, fun hk => ?_⟩
    · have hslot : f.givenSlot = some k := (Filing.givenSlot_setChan _ _ _).trans hk
      have hgen : f.doc k = s.filing.doc k := Filing.setChan_doc ..
      rw [Filing.openIdle_of_slot hslot]
      refine ⟨?_, fun j hj => ?_, ?_, ?_, ?_⟩
      · rw [Filing.raise_doc, Filing.opened_doc, Filing.openedDoc, hlookup, hchan, hdialled, hcaller]
        rfl
      · rw [Filing.raise_doc, Filing.opened_doc_ne hj]
        rfl
      · rw [Filing.raise_dir]
        rfl
      · rw [Filing.raise_chan, Filing.opened_chan, hchan]
        rfl
      · have hflag : argNat (flag lk.2) = if lk.2 then 1 else 0 := by cases lk.2 <;> rfl
        rw [hlookup, hflag, hgen]
        exact Filing.raise_ring_congr (f := s.filing) (g := f.opened c k) rfl rfl rfl ..
    · have hslot : f.givenSlot = none := (Filing.givenSlot_setChan _ _ _).trans hk
      rw [Filing.openIdle_of_none hslot, Filing.refuseIntake]
      refine ⟨?_, ?_, ?_⟩
      · rw [Filing.raise_dir]
        rfl
      · exact Filing.raise_ring_congr (f := s.filing)
          (g := (f.setChan c { f.chan c with state := .discard, timer := none }).mark (.channel c)) rfl rfl rfl ..
      · rw [Filing.raise_chan, Filing.mark_chan, Filing.chan_setChan, hchan]

end

section
/-! PROOFS. Data writes in GAP, and those that are refused or stray (R43 to R45, R51, R88). -/

namespace Sys2Proof.Machine

section
variable {f g : Filing} {c p d o w n : Nat} {rest : List Nat}

/-! ## A page started (R44, R88) -/

/-- The record of a page just started: the next of its document's. -/
def Page.started (k : Nat) (d : Doc) : Page :=
  { Page.freed with state := .landing, owner := k, seq := d.pageCount + 1 }

/-- The channel whose page p has just started. -/
def Channel.pageStarted (p : Nat) (ch : Channel) : Channel :=
  { ch with state := .page, openPage := some p, map := [], mark := none, timer := some (ch.stallTime * 50) }

/-- From f to g channel c starts page p, the free page list's head, of the document in slot k. -/
structure Filing.starts (f g : Filing) (c k p : Nat) (rest : List Nat) : Prop where
  chan : g.chan c = (f.chan c).pageStarted p
  page : g.page p = Page.started k (f.doc k)
  doc : g.doc k = { f.doc k with pageCount := (f.doc k).pageCount + 1, firstPage := (f.doc k).firstPage.or (some p) }
  freePages : g.dir.freePages = rest
  blocks : g.blocks = f.blocks
  boxes : g.boxes = f.boxes
  monitors : g.monitors = f.monitors

/-- The last page of a list linked to page p (R88). -/
def Filing.linked (last : Option Nat) (p : Nat) (f : Filing) : Filing := match last with
  | some l => (f.setPage l { f.page l with next := some p }).mark (.page l)
  | none => f

theorem Filing.linked_page {last : Option Nat} (h : ∀ l ∈ last, p ≠ l) : (f.linked last p).page p = f.page p := by
  cases last with
  | none => rfl
  | some l => rw [Filing.linked, Filing.mark_page, Filing.page_setPage_ne _ _ (h l rfl)]

theorem Filing.linked_frame (last : Option Nat) (p : Nat) (f : Filing) : (∀ k, (f.linked last p).doc k = f.doc k) ∧
    (f.linked last p).dir.freePages = f.dir.freePages ∧ (f.linked last p).blocks = f.blocks ∧
    (f.linked last p).boxes = f.boxes ∧ (f.linked last p).monitors = f.monitors := by
  cases last <;> exact ⟨fun _ => rfl, rfl, rfl, rfl, rfl⟩

/-- The free page list's head taken as a page of the document in slot k, linked behind its last page. -/
def Filing.pageTaken (k p : Nat) (rest : List Nat) (f : Filing) : Filing :=
  (({ f with dir := { f.dir with freePages := rest } } : Filing).setPage p (Page.started k (f.doc k))).linked
    (f.docPages k).getLast? p

theorem Filing.pageTaken_page {k : Nat} (hp : p ∉ f.docPages k) :
    (f.pageTaken k p rest).page p = Page.started k (f.doc k) := by
  have hlast : ∀ l ∈ (f.docPages k).getLast?, p ≠ l := fun l hl h => hp (h ▸ List.mem_of_getLast? hl)
  rw [Filing.pageTaken, Filing.linked_page hlast, Filing.page_setPage]

theorem Filing.pageTaken_frame (k p : Nat) (rest : List Nat) (f : Filing) :
    (∀ j, (f.pageTaken k p rest).doc j = f.doc j) ∧ (f.pageTaken k p rest).dir.freePages = rest ∧
    (f.pageTaken k p rest).blocks = f.blocks ∧ (f.pageTaken k p rest).boxes = f.boxes ∧
    (f.pageTaken k p rest).monitors = f.monitors :=
  Filing.linked_frame _ p (({ f with dir := { f.dir with freePages := rest } } : Filing).setPage p (Page.started k (f.doc k)))

/-- A document and a channel set as page p of the document starts, the three records marked (R44). -/
def Filing.setStart (c k p : Nat) (x : Doc) (ch : Channel) (f : Filing) : Filing :=
  ((((f.setDoc k x).setChan c ch).mark (.page p)).mark (.document k)).mark (.channel c)

theorem Filing.setStart_frame (c k p : Nat) (x : Doc) (ch : Channel) (f : Filing) :
    (f.setStart c k p x ch).chan c = ch ∧ (f.setStart c k p x ch).doc k = x ∧
    (∀ q, (f.setStart c k p x ch).page q = f.page q) ∧ (f.setStart c k p x ch).dir.freePages = f.dir.freePages ∧
    (f.setStart c k p x ch).blocks = f.blocks ∧ (f.setStart c k p x ch).boxes = f.boxes ∧
    (f.setStart c k p x ch).monitors = f.monitors := by
  simp only [Filing.setStart, Filing.mark_chan, Filing.chan_setChan, Filing.mark_doc, Filing.setChan_doc, Filing.doc_setDoc]
  exact ⟨trivial, trivial, fun _ => rfl, rfl, rfl, rfl, rfl⟩

/-- The page started (R44). -/
def Filing.pageStarted (c k p : Nat) (rest : List Nat) (f : Filing) : Filing :=
  (f.pageTaken k p rest).setStart c k p
    { (f.pageTaken k p rest).doc k with
      pageCount := (f.doc k).pageCount + 1, firstPage := (f.doc k).firstPage.or (some p) }
    ((f.chan c).pageStarted p)

theorem Filing.startPage_eq (hd : (f.chan c).doc = some d) (hf : f.dir.freePages = p :: rest)
    (hcount : (f.doc (slotOf d)).pageCount < 999) : f.startPage c = some (f.pageStarted c (slotOf d) p rest) := by
  have hcap : ¬ Config.maxPages ≤ (f.doc (slotOf d)).pageCount := Nat.not_le.mpr hcount
  unfold Filing.startPage
  dsimp only
  rw [hd, hf]
  dsimp only
  rw [if_neg hcap, ← hd]
  cases hlast : (f.docPages (slotOf d)).getLast? <;>
    simp only [Filing.pageStarted, Filing.pageTaken, Filing.setStart, hlast] <;> rfl

theorem Filing.pageStarted_starts {k : Nat} (hp : p ∉ f.docPages k) : f.starts (f.pageStarted c k p rest) c k p rest := by
  obtain ⟨hdoc, hfree, hblocks, hboxes, hmonitors⟩ := Filing.pageTaken_frame k p rest f
  obtain ⟨hchan, hdoc', hpage, hfree', hblocks', hboxes', hmonitors'⟩ := Filing.setStart_frame c k p
    { (f.pageTaken k p rest).doc k with
      pageCount := (f.doc k).pageCount + 1, firstPage := (f.doc k).firstPage.or (some p) }
    ((f.chan c).pageStarted p) (f.pageTaken k p rest)
  exact {
    chan := hchan
    page := (hpage p).trans (Filing.pageTaken_page hp)
    doc := hdoc'.trans (by rw [hdoc])
    freePages := hfree'.trans hfree
    blocks := hblocks'.trans hblocks
    boxes := hboxes'.trans hboxes
    monitors := hmonitors'.trans hmonitors }

theorem Filing.startPage_none (hd : (f.chan c).doc = some d)
    (h : f.dir.freePages = [] ∨ 999 ≤ (f.doc (slotOf d)).pageCount) : f.startPage c = none := by
  unfold Filing.startPage
  dsimp only
  rw [hd]
  rcases h with h | h
  · rw [h]
  · cases f.dir.freePages with
    | nil => rfl
    | cons p rest => exact if_pos h

theorem Filing.dataWrite_of_start (hst : (f.chan c).state = .gap) (hs : f.startPage c = some g) :
    f.dataWrite c o w = g.placeData c o w := by
  rw [Filing.dataWrite, hst]
  dsimp only
  rw [hs]

theorem Filing.dataWrite_of_no_start (hst : (f.chan c).state = .gap) (hs : f.startPage c = none) :
    f.dataWrite c o w = Placed.discarded (f.closeCall c .refused true) := by
  rw [Filing.dataWrite, hst]
  dsimp only
  rw [hs]

theorem Filing.dataWrite_stray (hst : (f.chan c).state = .idle ∨ (f.chan c).state = .send) :
    f.dataWrite c o w = Placed.discarded (f.stray c .dataArea) := by
  rcases hst with h | h <;> rw [Filing.dataWrite, h]

/-! ## Admission (R68) -/

theorem Filing.admits_iff (m : Nat) : f.admits m = true ↔ f.blocks.free ≠ [] ∧
    ((f.mailbox m).usage < (f.mailbox m).quota ∨ f.monitors.policy.floor < f.freeCount) := by
  simp only [Filing.admits, Bool.and_eq_true, Bool.or_eq_true, decide_eq_true_eq]
  exact and_congr_left' List.length_pos_iff

/-- A page just started has no block. -/
theorem Filing.starts.pageChain {k : Nat} (a : f.starts g c k p rest) : g.pageChain p = [] := by
  unfold Filing.pageChain
  rw [a.page]
  rfl

theorem Filing.starts.mailbox {k : Nat} (a : f.starts g c k p rest) (m : Nat) : g.mailbox m = f.mailbox m :=
  congrArg (fun b : Boxes => (Tbl.find b.mailboxes m).getD Mailbox.fresh) a.boxes

theorem Filing.starts.admits {k : Nat} (a : f.starts g c k p rest) (m : Nat) : g.admits m = f.admits m := by
  rw [Bool.eq_iff_iff, Filing.admits_iff, Filing.admits_iff, Filing.freeCount, a.mailbox, a.blocks, a.monitors,
    Filing.freeCount]

theorem Filing.allocate_freePages {j : Nat} (h : f.allocate p j = some (g, n)) :
    g.dir.freePages = f.dir.freePages := by
  unfold Filing.allocate at h
  split at h
  · cases h
  · simp only [Option.some.injEq, Prod.mk.injEq] at h
    obtain ⟨rfl, -⟩ := h
    have hpages (x : Filing) (r : Page) : (x.setPage p r).dir.freePages = x.dir.freePages := rfl
    rw [hpages]
    split <;> simp

/-- The tables after the first write to a page just started, granted (R22, R45). -/
theorem Filing.starts.granted {k : Nat} {free : List Nat} (a : f.starts g c k p rest) (hd : (f.chan c).doc = some d)
    (hk : slotOf d = k) (hf : f.blocks.free = n :: free) (ha : f.admits (f.doc k).mailbox = true) :
    ∃ t, g.placeData c o w = { filing := t, dest := some (n * 8192 + o % 8192), ahead := some n } ∧
      t.dir.freePages = rest ∧ t.blocks.free = free ∧
      t.page p = { Page.started k (f.doc k) with first := some n, count := 1 } ∧
      (t.doc k).pageCount = (f.doc k).pageCount + 1 ∧ (t.doc k).blockTotal = (f.doc k).blockTotal + 1 ∧
      (t.mailbox (f.doc k).mailbox).usage = (f.mailbox (f.doc k).mailbox).usage + 1 ∧
      t.chan c = { (f.chan c).pageStarted p with map := [(o / 8192, n)], mark := some (o + w - 1) } := by
  subst hk
  have hmailbox : (g.doc (slotOf d)).mailbox = (f.doc (slotOf d)).mailbox := by rw [a.doc]
  obtain ⟨x, hplace, halloc, -⟩ := Filing.placeData_spec (f := g) (c := c) (o := o) (w := w) (p := p) (d := d) (n := n)
    (rest := free) (by rw [a.chan]; rfl) (by rw [a.chan]; exact hd) (by rw [a.chan]; rfl) (by rw [a.blocks, hf])
    (by rw [a.pageChain]; exact List.not_mem_nil) (by rw [hmailbox, a.admits, ha])
  obtain ⟨free', hfree', hfree, -, hpage, hdocs, hchannels, hboxes, -⟩ := Filing.allocate_some _ halloc
  rw [Filing.setUsage_blocks, a.blocks, hf, List.cons.injEq] at hfree'
  have hxchan : x.chan c = (f.chan c).pageStarted p := by
    rw [← a.chan, Filing.chan, hchannels, Filing.setUsage_channels, Filing.chan]
  have hxdoc : x.doc (slotOf d) = g.doc (slotOf d) := by rw [Filing.doc, hdocs, Filing.setUsage_dir, Filing.doc]
  have htdoc := Filing.granted_doc (g := x) c (slotOf d) p o w n
  refine ⟨_, hplace, ?_, hfree.trans hfree'.2.symm, ?_, ?_, ?_, ?_, ?_⟩
  · exact (Filing.allocate_freePages halloc).trans (by rw [Filing.setUsage_dir, a.freePages])
  · exact hpage.trans (by rw [Filing.setUsage_page, a.page]; rfl)
  · exact (congrArg Doc.pageCount htdoc).trans (by rw [hxdoc, a.doc])
  · exact (congrArg Doc.blockTotal htdoc).trans (by rw [hxdoc, a.doc])
  · rw [← a.mailbox, ← hmailbox]
    exact (congrArg (fun b : Boxes => ((Tbl.find b.mailboxes _).getD Mailbox.fresh).usage) hboxes).trans
      (Filing.setUsage_usage ..)
  · rw [Filing.granted_chan, hxchan]
    simp [Channel.pageStarted, Tbl.put]

/-! ## A refused admission (R45) -/

/-- The page flagged SHORT, and the fault reported. -/
def Filing.refusedAdmission (c p : Nat) (f : Filing) : Filing :=
  (f.changePage p { f.page p with short := true }).reportFault c .short (argNat (f.page p).seq)

theorem Filing.placeData_refused (hp : (f.chan c).openPage = some p) (hd : (f.chan c).doc = some d)
    (hm : Tbl.find (f.chan c).map (o / 8192) = none) (ha : f.admits (f.doc (slotOf d)).mailbox = false) :
    f.placeData c o w = Placed.discarded (f.refusedAdmission c p) := by
  unfold Filing.placeData
  simp only [hp, hd, Config.blockBytes, hm, ha, Bool.false_eq_true, if_false]
  rfl

/-- The last fault once a SHORT has been reported, unless it is masked. -/
def Filing.shortNoted (c : Nat) (f : Filing) : Option Monitor :=
  if f.monitors.policy.masks.getLsbD 3 then (f.chan c).lastFault else some .short

theorem Filing.refusedAdmission_chan :
    (f.refusedAdmission c p).chan c = { f.chan c with lastFault := f.shortNoted c } := by
  have hmask : (f.changePage p { f.page p with short := true }).masked .short = f.monitors.policy.masks.getLsbD 3 := by
    rw [Filing.masked, Filing.changePage_monitors]
    rfl
  rw [Filing.refusedAdmission, Filing.reportFault_chan, hmask, Filing.changePage_chan, Filing.shortNoted,
    Channel.recordFault_of_free (by decide)]
  split_ifs <;> rfl

/-- What a refused admission reaches of the tables: the page alone. -/
theorem Filing.refusedAdmission_tables (c p : Nat) (f : Filing) :
    (f.refusedAdmission c p).page p = { f.page p with short := true } ∧
    (∀ k, (f.refusedAdmission c p).doc k = f.doc k) ∧ (f.refusedAdmission c p).blocks = f.blocks ∧
    (f.refusedAdmission c p).boxes = f.boxes ∧ (f.refusedAdmission c p).dir.freePages = f.dir.freePages := by
  have hfree : (f.changePage p { f.page p with short := true }).dir.freePages = f.dir.freePages := by
    unfold Filing.changePage
    split_ifs <;> rfl
  simp [Filing.refusedAdmission, hfree]

/-- A data write that has no destination leaves the queue. -/
theorem exec_dataWrite_discards {s : State} {x : Staged} (hdr : s.drains x = true) (hx : x.cls = .landing c o)
    (ho : o < 1048448) (h : s.filing.dataWrite c o x.write.width.bytes = Placed.discarded g) :
    ∃ t, exec .dataWrite s = .next t ∧
      (t.board.queue = s.board.queue.tail ∧ t.board.head = none ∧ t.store = s.store) ∧
      (s.board.port = .idle → t.filing = g) := by
  refine ⟨_, exec_dataWrite hdr hx ho h, ⟨State.leaveQueue_queue _, State.leaveQueue_head _, State.leaveQueue_store _⟩,
    fun hport => ?_⟩
  exact congrArg State.filing (State.leaveQueue_of_idle (s := { s with filing := g }) hport)

end

end Sys2Proof.Machine

open Sys2Proof Sys2Proof.Machine

/-- Settles O33: a page started and its first write placed as in PAGE, or no page started and the call closed; a refused
admission; a stray. -/
theorem dataWriteStartsAPage : Obligations.DataWriteStartsAPage := by
  intro s x c o hdr hx ho ch out noted
  refine ⟨fun d p rest hst hd hfree hcount hp => ?_, fun d hst hd hno => ?_, fun p d hst hp hd hm ha => ?_, fun hst => ?_⟩
  · intro k m admitted page
    set g := s.filing.pageStarted c k p rest
    have a : s.filing.starts g c k p rest := Filing.pageStarted_starts hp
    have hwrite : s.filing.dataWrite c o x.write.width.bytes = _ :=
      Filing.dataWrite_of_start hst (Filing.startPage_eq hd hfree hcount)
    refine ⟨fun n free hf hadm => ?_, fun hrefused => ?_⟩
    · have ha : s.filing.admits m = true := (Filing.admits_iff m).mpr ⟨by rw [hf]; simp, hadm⟩
      obtain ⟨t, hplace, hpages, hblocks, hpage, hdoc, htotal, husage, hchan⟩ :=
        a.granted (o := o) (w := x.write.width.bytes) hd rfl hf ha
      exact ⟨_, exec_dataWrite hdr hx ho (hwrite.trans hplace), rfl, rfl, hpages, hblocks, hpage, hdoc, htotal, husage,
        hchan⟩
    · have ha : g.admits (g.doc (slotOf d)).mailbox = false := by
        rw [a.admits, a.doc, ← Bool.not_eq_true, Filing.admits_iff]
        exact fun h => hrefused.elim h.1 fun hno => hno h.2
      have hplace := Filing.placeData_refused (c := c) (p := p) (o := o) (w := x.write.width.bytes) (by rw [a.chan]; rfl)
        (by rw [a.chan]; exact hd) (by rw [a.chan]; rfl) ha
      obtain ⟨t, hrun, hout, hfiling⟩ := exec_dataWrite_discards hdr hx ho (hwrite.trans hplace)
      refine ⟨t, hrun, hout, fun hport => ?_⟩
      obtain ⟨hpage, hdoc, hblocks, -, hpages⟩ := Filing.refusedAdmission_tables c p g
      rw [hfiling hport, hpages, hblocks, hpage, hdoc, Filing.refusedAdmission_chan, Filing.shortNoted, a.freePages,
        a.blocks, a.page, a.doc, a.chan, a.monitors]
      exact ⟨rfl, rfl, rfl, rfl, rfl⟩
  · obtain ⟨t, hrun, hout, hfiling⟩ := exec_dataWrite_discards hdr hx ho
      (Filing.dataWrite_of_no_start hst (Filing.startPage_none hd hno))
    refine ⟨t, hrun, hout, fun hport => ?_⟩
    rw [hfiling hport]
    exact ⟨(s.filing.atClose_refl _ _).closeCall hd .refused true, Filing.closeCall_chan _ _ _ hd⟩
  · obtain ⟨t, hrun, hout, hfiling⟩ := exec_dataWrite_discards hdr hx ho
      ((Filing.dataWrite_of_page hst).trans (Filing.placeData_refused hp hd hm ha))
    refine ⟨t, hrun, hout, fun hport => ?_⟩
    obtain ⟨hpage, -, hblocks, hboxes, -⟩ := Filing.refusedAdmission_tables c p s.filing
    rw [hfiling hport]
    exact ⟨hpage, Filing.refusedAdmission_chan, hblocks, hboxes⟩
  · exact exec_dataWrite_discards hdr hx ho (Filing.dataWrite_stray hst)

end

section
/-! PROOFS. The requests that move a document: ACCEPT, PURGE, REFILE and ABORT_INTAKE (R50, R54, R77, R91 to R94, R98 to
R101, R136). -/

namespace Sys2Proof.Machine

section
variable {f g : Filing} {k : Nat} {ops : List Word}

/-! ## The document that an identifier names (R89) -/

/-- An identifier that names a document in use passes the checks. -/
theorem Filing.withDoc_docId (hg : (f.doc k).gen < 64) (hk : k < 1024) (hs : (f.doc k).state ≠ .free)
    (run : Nat → Done) : f.withDoc (f.docId k) run = run k := by
  have hslot : k = slotOf (f.docId k) := by rw [slotOf, Filing.docId]; omega
  have hgen : (f.doc k).gen = genOf (f.docId k) := by rw [genOf, Filing.docId]; omega
  have hsmall : f.docId k < 65536 := by rw [Filing.docId]; omega
  rw [Filing.withDoc, Filing.checkId_inr.mpr ⟨hslot, hsmall, hs, hgen⟩]

theorem argNat_operandNat (ops : List Word) (i : Nat) : argNat (operandNat ops i) = operand ops i := by
  simp [argNat, operandNat]

theorem Filing.bound_congr (h : g.bindings = f.bindings) (d : Nat) : g.bound d = f.bound d := by
  rw [Filing.bound, h, Filing.bound]

theorem Filing.binding_congr (h : g.bindings = f.bindings) (r : Nat) : g.binding r = f.binding r := by
  rw [Filing.binding, h, Filing.binding]

/-! ## Bindings broken (R136) -/

/-- One aperture's binding broken where it passes the test. -/
def Filing.breakOne (breaks : Binding → Bool) (why : UnboundReason) (f : Filing) (r : Nat) : Filing :=
  match f.binding r with
  | some b => if breaks b then (f.setBinding r none).raiseUnboundReview r b.doc why else f
  | none => f

theorem Filing.breakBindings_eq (breaks : Binding → Bool) (why : UnboundReason) (f : Filing) :
    f.breakBindings breaks why = apertures.foldl (Filing.breakOne breaks why) f := rfl

theorem Filing.setBinding_none_binding (f : Filing) (r x : Nat) :
    (f.setBinding r none).binding x = if x = r then none else f.binding x := by
  show Tbl.find (f.bindings.filter fun c => decide (c.1 ≠ r)) x = _
  split_ifs with h
  · exact Tbl.find_filter_false _ _ _ fun v => by simp [h]
  · exact Tbl.find_filter_true _ _ _ fun v => by simp [h]

theorem Filing.breakOne_binding (breaks : Binding → Bool) (why : UnboundReason) (f : Filing) (r x : Nat) :
    (Filing.breakOne breaks why f r).binding x =
      if x = r then (f.binding x).filter (fun b => !breaks b) else f.binding x := by
  unfold Filing.breakOne
  cases hb : f.binding r with
  | none =>
    dsimp only
    split_ifs with h
    · rw [h, hb]; rfl
    · rfl
  | some b =>
    dsimp only
    cases ht : breaks b with
    | true =>
      rw [if_pos rfl, Filing.raiseUnboundReview_binding, Filing.setBinding_none_binding]
      split_ifs with h
      · rw [h, hb, Option.filter_some, ht]; rfl
      · rfl
    | false =>
      rw [if_neg Bool.false_ne_true]
      split_ifs with h
      · rw [h, hb, Option.filter_some, ht]; rfl
      · rfl

theorem Filing.breakAll_binding (breaks : Binding → Bool) (why : UnboundReason) (l : List Nat) (f : Filing) (x : Nat) :
    (l.foldl (Filing.breakOne breaks why) f).binding x =
      if x ∈ l then (f.binding x).filter (fun b => !breaks b) else f.binding x := by
  induction l generalizing f with
  | nil => rfl
  | cons r l ih =>
    rw [List.foldl_cons, ih, Filing.breakOne_binding]
    by_cases hx : x = r
    · simp [hx]
    · simp [hx]

theorem mem_apertures {r : Nat} : r ∈ apertures ↔ r < 8 := mem_numbers_zero

/-- What the apertures show once the bindings that pass a test are broken. -/
theorem Filing.breakBindings_binding (breaks : Binding → Bool) (why : UnboundReason) (f : Filing) {r : Nat} (hr : r < 8) :
    (f.breakBindings breaks why).binding r = (f.binding r).filter (fun b => !breaks b) := by
  rw [Filing.breakBindings_eq, Filing.breakAll_binding, if_pos (mem_apertures.mpr hr)]

theorem Filing.acts.breakBindings {K : NoticeKey → Prop} (a : f.acts K g)
    (hK : ∀ r, K { kind := .unbound, doc := none, item := .aperture r }) (breaks : Binding → Bool) (why : UnboundReason) :
    f.acts K (g.breakBindings breaks why) := by
  rw [Filing.breakBindings_eq]
  refine a.foldl _ _ fun x r hx => ?_
  unfold Filing.breakOne
  split
  · split_ifs
    · exact (hx.tables (h := x.setBinding r none) rfl rfl rfl rfl rfl).raise (hK r) _ _
    · exact hx
  · exact hx

/-- The documents that bindings passing a test name. -/
theorem Filing.mem_boundDocs_iff (f : Filing) (test : Binding → Bool) (d : Nat) :
    d ∈ f.boundDocs test ↔ ∃ r b, r < 8 ∧ f.binding r = some b ∧ test b = true ∧ b.doc = d := by
  simp only [Filing.boundDocs, List.mem_filterMap, mem_apertures]
  constructor
  · rintro ⟨r, hr, h⟩
    cases hb : f.binding r with
    | none => rw [hb] at h; cases h
    | some b =>
      rw [hb] at h
      dsimp only at h
      split_ifs at h with ht
      exact ⟨r, b, hr, hb, ht, Option.some.inj h⟩
  · rintro ⟨r, b, hr, hb, ht, rfl⟩
    refine ⟨r, hr, ?_⟩
    rw [hb]
    exact if_pos ht

/-! ## ACCEPT (R94) -/

/-- The document FILED, its PENDING recipients READY. -/
def Filing.accepted (k : Nat) (f : Filing) : Filing :=
  ((f.setDoc k { f.doc k with state := .filed }).mark (.document k)).makeReady k

section
variable (hid : operandNat ops 0 = f.docId k) (hg : (f.doc k).gen < 64) (hk : k < 1024) (hs : (f.doc k).state ≠ .free)
include hid hg hk hs

theorem reqAccept_eq : reqAccept ops f =
    if (f.doc k).state = .review then
      (f.accepted k).answer [operand ops 0, argNat (f.doc k).pendingPlaces.length]
    else f.refuse .state := by
  rw [← argNat_operandNat]
  unfold reqAccept
  dsimp only
  rw [hid]
  exact Filing.withDoc_docId hg hk hs _

end

theorem Filing.accepted_eq (k : Nat) (f : Filing) : f.accepted k =
    (f.doc k).pendingPlaces.foldl (Filing.readyOne k) ((f.setDoc k { f.doc k with state := .filed }).mark (.document k)) := by
  rw [Filing.accepted, Filing.makeReady_eq, Filing.mark_doc, Filing.doc_setDoc]
  rfl

theorem Filing.accepted_doc (k : Nat) (f : Filing) : (f.accepted k).doc k =
    { f.doc k with state := .filed, recipients := ((f.accepted k).doc k).recipients } := by
  rw [Filing.accepted_eq, Filing.readyAll_doc]
  simp

theorem Filing.accepted_recipient {i : Nat} (hi : i < 4) : ((f.accepted k).doc k).recipient i =
    if ((f.doc k).recipient i).state = .pending then { (f.doc k).recipient i with state := .ready }
    else (f.doc k).recipient i := by
  rw [Filing.accepted_eq, Filing.readyAll_recipient, Filing.mark_doc, Filing.doc_setDoc]
  simp only [Doc.mem_pendingPlaces, hi, true_and]
  rfl

theorem Filing.accepted_doc_ne {j : Nat} (hj : j ≠ k) : (f.accepted k).doc j = f.doc j := by
  rw [Filing.accepted_eq, Filing.readyAll_doc_ne hj, Filing.mark_doc, Filing.doc_setDoc_ne _ _ hj]

theorem Filing.accepted_queued {i : Nat} (hi : i < 4) (hp : ((f.doc k).recipient i).state = .pending) :
    (k, i) ∈ (f.accepted k).queue.all := by
  rw [Filing.accepted_eq]
  exact Filing.readyAll_queued _ _ ((Doc.mem_pendingPlaces _ _).mpr ⟨hi, hp⟩)

theorem Filing.accepted_dirty (k : Nat) (f : Filing) : (f.accepted k).dirty (.document k) = true :=
  (Filing.acts.makeReady (K := fun _ => True) .refl k).dirty (Filing.mark_dirty _ _)

/-! ## A document withdrawn (R100) -/

/-- The deadline does not name generation n of slot k. -/
def Deadline.spares (k n : Nat) (e : Deadline) : Bool := !(e.slot == k && e.gen == n)

/-- g holds the document of slot k, its pages and blocks, and the mailboxes as f does, but for its recipients, its EXPIRED
flag, the deadlines that name it, and what marks and notices have changed. -/
structure Filing.withdraws (k : Nat) (f g : Filing) : Prop where
  acts : f.acts (fun _ => True) g
  doc : g.doc k = { f.doc k with recipients := (g.doc k).recipients, expired := (g.doc k).expired }
  pages : g.dir.pages = f.dir.pages
  freePages : g.dir.freePages = f.dir.freePages
  withheld : g.dir.withheld = f.dir.withheld
  blocks : g.blocks = f.blocks
  boxes : g.boxes = f.boxes
  deadlines : g.clock.deadlines.filter (Deadline.spares k (f.doc k).gen) =
    f.clock.deadlines.filter (Deadline.spares k (f.doc k).gen)

theorem Filing.withdraws_refl (k : Nat) (f : Filing) : f.withdraws k f := ⟨.refl, rfl, rfl, rfl, rfl, rfl, rfl, rfl⟩

theorem Filing.withdraws.gen (a : f.withdraws k g) : (g.doc k).gen = (f.doc k).gen := by rw [a.doc]

theorem Filing.withdraws.trans {h : Filing} (a : f.withdraws k g) (b : g.withdraws k h) : f.withdraws k h where
  acts := a.acts.trans b.acts
  doc := b.doc.trans (by rw [a.doc])
  pages := b.pages.trans a.pages
  freePages := b.freePages.trans a.freePages
  withheld := b.withheld.trans a.withheld
  blocks := b.blocks.trans a.blocks
  boxes := b.boxes.trans a.boxes
  deadlines := (a.gen ▸ b.deadlines).trans a.deadlines

/-- A step that leaves Directory, Block Table and mailboxes alone, and every deadline that does not name the document. -/
theorem Filing.withdraws_of_dir (a : f.acts (fun _ => True) g) (hdir : g.dir = f.dir) (hblocks : g.blocks = f.blocks)
    (hboxes : g.boxes = f.boxes) (hdeadlines : g.clock.deadlines.filter (Deadline.spares k (f.doc k).gen) =
      f.clock.deadlines.filter (Deadline.spares k (f.doc k).gen)) : f.withdraws k g where
  acts := a
  doc := by rw [Filing.doc, hdir, Filing.doc]
  pages := by rw [hdir]
  freePages := by rw [hdir]
  withheld := by rw [hdir]
  blocks := hblocks
  boxes := hboxes
  deadlines := hdeadlines

theorem Filing.withdraws_setDoc {s : Nat} {d : Doc}
    (h : s = k → d = { f.doc k with recipients := d.recipients, expired := d.expired }) :
    f.withdraws k ((f.setDoc s d).mark (.document s)) where
  acts := (Filing.acts.setDoc .refl s d).mark _
  doc := by
    rw [Filing.mark_doc]
    by_cases hs : s = k
    · subst hs
      rw [Filing.doc_setDoc]
      exact h rfl
    · rw [Filing.doc_setDoc_ne _ _ (Ne.symm hs)]
  pages := rfl
  freePages := rfl
  withheld := rfl
  blocks := rfl
  boxes := rfl
  deadlines := rfl

theorem Filing.withdraws_setRecipient (s i : Nat) (r : Recipient) : f.withdraws k (f.setRecipient s i r) :=
  Filing.withdraws_setDoc fun hs => by rw [hs]; rfl

theorem Filing.withdraws_leave (s i : Nat) : f.withdraws k (f.leave s i) :=
  Filing.withdraws_of_dir (Filing.acts.refl.tables rfl rfl rfl rfl rfl) rfl rfl rfl rfl

theorem filter_filter_of_imp {α : Type} {p q : α → Bool} (h : ∀ x, p x = true → q x = true) (l : List α) :
    (l.filter q).filter p = l.filter p := by
  rw [List.filter_filter]
  refine List.filter_congr fun x _ => ?_
  cases hp : p x
  · rfl
  · rw [h x hp]; rfl

/-- Only deadlines that name the document leave the list. -/
theorem Filing.withdraws_keepDeadlines {keep : Deadline → Bool}
    (h : ∀ e, Deadline.spares k (f.doc k).gen e = true → keep e = true) : f.withdraws k (f.keepDeadlines keep) :=
  Filing.withdraws_of_dir (Filing.acts.refl.tables rfl rfl rfl rfl rfl) rfl rfl rfl (filter_filter_of_imp h _)

theorem Filing.withdraws_removeRetry (i : Nat) : f.withdraws k (f.removeRetry k (f.doc k).gen i) :=
  Filing.withdraws_keepDeadlines fun e he => by
    revert he
    cases e.kind == .retry i <;> simp [Deadline.spares]

theorem Filing.withdraws_removeRetain : f.withdraws k (f.removeRetain k (f.doc k).gen) :=
  Filing.withdraws_keepDeadlines fun e he => by
    revert he
    cases e.kind == .retain <;> simp [Deadline.spares]

theorem Filing.withdraws_raise (kind : NoticeKind) (doc : Option Nat) (item : KeyItem) (code : Nat) (args : List Word) :
    f.withdraws k (f.raise kind doc item code args) :=
  Filing.withdraws_of_dir (Filing.acts.refl.raise trivial _ _) (Filing.raise_dir ..) (Filing.raise_blocks ..)
    (Filing.raise_boxes ..) (by rw [Filing.raise_clock])

theorem Filing.withdraws_changedChan (c : Nat) (x : Channel) : f.withdraws k ((f.setChan c x).mark (.channel c)) :=
  Filing.withdraws_of_dir ((Filing.acts.setChan .refl c x).mark _) rfl rfl rfl rfl

theorem Filing.withdraws_endAttempt (c : Nat) (u : Recipient → Recipient) : f.withdraws k (f.endAttempt c u) := by
  unfold Filing.endAttempt
  dsimp only
  split
  · exact (Filing.withdraws_setRecipient ..).trans (Filing.withdraws_changedChan ..)
  · exact Filing.withdraws_changedChan ..

theorem Filing.withdraws_breakBindings (breaks : Binding → Bool) (why : UnboundReason) :
    f.withdraws k (f.breakBindings breaks why) :=
  Filing.withdraws_of_dir (Filing.acts.refl.breakBindings (fun _ => trivial) _ _) (Filing.breakBindings_dir ..)
    (Filing.breakBindings_blocks ..) (Filing.breakBindings_boxes ..) (by rw [Filing.breakBindings_clock])

theorem Filing.withdraws_cancelRecipient (i : Nat) (why : UnboundReason) : f.withdraws k (f.cancelRecipient k i why) := by
  unfold Filing.cancelRecipient
  dsimp only
  split
  · exact Filing.withdraws_setRecipient ..
  · exact (Filing.withdraws_leave ..).trans (Filing.withdraws_setRecipient ..)
  · exact (Filing.withdraws_removeRetry _).trans (Filing.withdraws_setRecipient ..)
  · split
    · exact (Filing.withdraws_endAttempt ..).trans (Filing.withdraws_raise ..)
    · exact Filing.withdraws_setRecipient ..
  · exact f.withdraws_refl k

theorem Filing.withdraws_cancelAll (why : UnboundReason) (l : List Nat) (f : Filing) :
    f.withdraws k (l.foldl (fun f i => f.cancelRecipient k i why) f) := by
  induction l generalizing f with
  | nil => exact f.withdraws_refl k
  | cons i l ih => exact (Filing.withdraws_cancelRecipient i why).trans (ih _)

section
variable (a : f.withdraws k g)
include a

theorem Filing.withdraws.page (p : Nat) : g.page p = f.page p := by rw [Filing.page, a.pages, Filing.page]

theorem Filing.withdraws.block (n : Nat) : g.block n = f.block n := by rw [Filing.block, a.blocks, Filing.block]

theorem Filing.withdraws.mailbox (m : Nat) : g.mailbox m = f.mailbox m := by rw [Filing.mailbox, a.boxes, Filing.mailbox]

theorem Filing.withdraws.docPages : g.docPages k = f.docPages k := by
  rw [Filing.docPages, a.pages, a.doc, Filing.docPages]

theorem Filing.withdraws.pageChain (p : Nat) : g.pageChain p = f.pageChain p :=
  Filing.pageChain_congr a.blocks (a.page p)

theorem Filing.withdraws.docId : g.docId k = f.docId k := by rw [Filing.docId, a.gen, Filing.docId]

/-- The withdrawn document is released (R99, R100). -/
theorem Filing.withdraws.docReleased : f.docReleased (g.releaseDoc false k) k := by
  have hmail : (g.doc k).mailbox = (f.doc k).mailbox := by rw [a.doc]
  have htotal : (g.doc k).blockTotal = (f.doc k).blockTotal := by rw [a.doc]
  have hcount : (g.doc k).pageCount = (f.doc k).pageCount := by rw [a.doc]
  have hself : g.sameDoc k g := ⟨.refl, rfl, rfl, rfl, rfl, rfl, rfl, rfl⟩
  obtain ⟨h1, h2, h3, h4, h5, h6, h7, h8, h9, h10, h11, h12, h13, h14, h15⟩ := hself.docReleased
  simp only [a.docPages, a.pageChain, a.gen, a.blocks, a.block, a.page, a.freePages, a.withheld, a.mailbox, hmail,
    htotal] at h1 h3 h4 h5 h6 h7 h8 h9 h10 h11 h12 h13 h14
  refine ⟨h1, h2, h3, h4, h5, h6, h7, h8, h9, h10, h11, h12, h13, h14.trans a.deadlines, ?_⟩
  unfold Filing.releaseTold at h15 ⊢
  rw [a.docId, hmail, hcount, htotal] at h15
  exact a.acts.tells h15

end

/-- A recipient with no attempt in hand is cancelled without touching any other document or recipient. -/
theorem Filing.cancelRecipient_keeps {i : Nat} (hi : ((f.doc k).recipient i).state ≠ .active) (why : UnboundReason) :
    (∀ j, j ≠ k → (f.cancelRecipient k i why).doc j = f.doc j) ∧
    ∀ e, ((f.doc k).recipient e).state ≠ .active → (((f.cancelRecipient k i why).doc k).recipient e).state ≠ .active := by
  have hset {x : Filing} {r : Recipient} (hx : ∀ j, x.doc j = f.doc j) (hr : r.state = .cancelled) :
      (∀ j, j ≠ k → (x.setRecipient k i r).doc j = f.doc j) ∧ ∀ e, ((f.doc k).recipient e).state ≠ .active →
        (((x.setRecipient k i r).doc k).recipient e).state ≠ .active := by
    refine ⟨fun j hj => (Filing.doc_setRecipient_ne _ _ hj).trans (hx j), fun e he => ?_⟩
    rw [Filing.doc_setRecipient, hx]
    by_cases hei : e = i
    · rw [hei, Doc.recipient_setRecipient, hr]; decide
    · rw [Doc.recipient_setRecipient_ne _ _ hei]; exact he
  unfold Filing.cancelRecipient
  dsimp only
  split
  · exact hset (fun _ => rfl) rfl
  · exact hset (fun _ => rfl) rfl
  · exact hset (fun _ => rfl) rfl
  · next h => exact absurd h hi
  · exact ⟨fun _ _ => rfl, fun _ => id⟩

theorem Filing.cancelAll_doc_ne {j : Nat} (hj : j ≠ k) (why : UnboundReason) {l : List Nat}
    (hl : ∀ i ∈ l, ((f.doc k).recipient i).state ≠ .active) :
    (l.foldl (fun f i => f.cancelRecipient k i why) f).doc j = f.doc j := by
  induction l generalizing f with
  | nil => rfl
  | cons i l ih =>
    obtain ⟨hother, hnone⟩ := Filing.cancelRecipient_keeps (hl i List.mem_cons_self) why
    exact (ih fun e he => hnone e (hl e (List.mem_cons_of_mem _ he))).trans (hother j hj)

/-! ## PURGE (R100) -/

/-- The recipients of the document cancelled, its bindings broken. -/
def Filing.withdrawn (k : Nat) (f : Filing) : Filing :=
  (places.foldl (fun f i => f.cancelRecipient k i .purged) f).breakBindings (fun b => b.doc == f.docId k) .purged

/-- The document of a PURGE as its release finds it: EXPIRED, with no RETAIN entry. -/
def Filing.purging (k : Nat) (f : Filing) : Filing :=
  ((f.removeRetain k (f.doc k).gen).setDoc k { f.doc k with expired := true }).mark (.document k)

theorem Filing.withdraws_withdrawn (k : Nat) (f : Filing) : f.withdraws k (f.withdrawn k) :=
  (Filing.withdraws_cancelAll .purged places f).trans (Filing.withdraws_breakBindings _ _)

theorem Filing.withdraws_purging (k : Nat) (f : Filing) : f.withdraws k (f.purging k) :=
  Filing.withdraws_removeRetain.trans (Filing.withdraws_setDoc fun _ => rfl)

theorem Filing.withdrawn_binding {r : Nat} (hr : r < 8) {b : Binding} (h : (f.withdrawn k).binding r = some b) :
    b.doc ≠ f.docId k := by
  rw [Filing.withdrawn, Filing.breakBindings_binding _ _ _ hr, Option.filter_eq_some_iff] at h
  simpa using h.2

theorem Filing.withdrawn_doc_ne (hrec : ∀ i, i < 4 → ((f.doc k).recipient i).state ≠ .active) {j : Nat} (hj : j ≠ k) :
    (f.withdrawn k).doc j = f.doc j := by
  rw [Filing.withdrawn, Filing.breakBindings_doc]
  exact Filing.cancelAll_doc_ne hj _ fun i hi => hrec i (by simp [places] at hi; omega)

/-- The filing blocks after a PURGE. -/
def Filing.purged (k : Nat) (f : Filing) : Filing := ((f.withdrawn k).purging k).releaseDoc false k

section
variable (hid : operandNat ops 0 = f.docId k) (hg : (f.doc k).gen < 64) (hk : k < 1024) (hs : (f.doc k).state ≠ .free)
include hid hg hk hs

theorem reqPurge_eq : reqPurge ops f =
    if (f.doc k).hold then f.refuse .held
    else if (f.doc k).state = .receiving then f.refuse .state
    else (f.purged k).answer [operand ops 0, argNat (f.doc k).blockTotal] := by
  rw [← argNat_operandNat]
  unfold reqPurge
  dsimp only
  rw [hid]
  exact Filing.withDoc_docId hg hk hs _

end

theorem Filing.purging_doc_ne {j : Nat} (hj : j ≠ k) : (f.purging k).doc j = f.doc j := by
  rw [Filing.purging, Filing.mark_doc, Filing.doc_setDoc_ne _ _ hj, Filing.removeRetain_doc]

theorem Filing.purging_binding (k : Nat) (f : Filing) (r : Nat) : (f.purging k).binding r = f.binding r := rfl

theorem Filing.releaseDoc_doc_ne {j : Nat} (hj : j ≠ k) : (f.releaseDoc false k).doc j = f.doc j := by
  rw [Filing.releaseDoc_loud_eq, Filing.raise_doc, Filing.releaseDoc_quiet_doc_ne _ _ hj]

theorem Filing.purged_released (k : Nat) (f : Filing) : f.docReleased (f.purged k) k :=
  ((f.withdraws_withdrawn k).trans ((f.withdrawn k).withdraws_purging k)).docReleased

theorem Filing.purged_binding {r : Nat} (hr : r < 8) {b : Binding} (h : (f.purged k).binding r = some b) :
    b.doc ≠ f.docId k := by
  rw [Filing.purged, Filing.releaseDoc_binding, Filing.purging_binding] at h
  exact Filing.withdrawn_binding hr h

theorem Filing.purged_doc_ne (hrec : ∀ i, i < 4 → ((f.doc k).recipient i).state ≠ .active) {j : Nat} (hj : j ≠ k) :
    (f.purged k).doc j = f.doc j := by
  rw [Filing.purged, Filing.releaseDoc_doc_ne hj, Filing.purging_doc_ne hj, Filing.withdrawn_doc_ne hrec hj]

theorem Filing.releaseDoc_mailbox_ne {m : Nat} (hm : m ≠ (f.doc k).mailbox) :
    (f.releaseDoc false k).mailbox m = f.mailbox m := by
  rw [Filing.releaseDoc_loud_eq, Filing.raise_mailbox, Filing.releaseDoc_quiet_mailbox_ne _ _ hm]

/-! ## Usage moved (R77) -/

/-- The OVER evaluation sets no field of a mailbox but OVER. -/
theorem Filing.evalOver_mailbox_eq (f : Filing) (m x : Nat) :
    (f.evalOver m).mailbox x = { f.mailbox x with overQuota := ((f.evalOver m).mailbox x).overQuota } := by
  by_cases h : x = m
  · subst h
    unfold Filing.evalOver
    dsimp only
    split_ifs <;> simp
  · rw [Filing.evalOver_mailbox_ne h]

/-- A mailbox's usage set, no mark made and OVER not evaluated. -/
def Filing.withUsage (m u : Nat) (f : Filing) : Filing := f.setBox m { f.mailbox m with usage := u }

theorem Filing.withUsage_mailbox (m u : Nat) (f : Filing) (x : Nat) :
    (f.withUsage m u).mailbox x = { f.mailbox x with usage := if x = m then u else (f.mailbox x).usage } := by
  unfold Filing.withUsage
  split_ifs with h
  · rw [h, Filing.mailbox_setBox]
  · rw [Filing.mailbox_setBox_ne _ _ h]

/-- The usage moved, before the marks and the OVER evaluations. -/
def Filing.shifted (m n b : Nat) (f : Filing) : Filing :=
  let f1 := f.withUsage m ((f.mailbox m).usage - b)
  f1.withUsage n ((f1.mailbox n).usage + b)

theorem Filing.moveUsage_eq (m n b : Nat) (f : Filing) : f.moveUsage m n b =
    ((((f.shifted m n b).mark (.mailbox m)).mark (.mailbox n)).evalOver m).evalOver n := rfl

theorem Filing.shifted_mailbox (m n b : Nat) (f : Filing) (x : Nat) : (f.shifted m n b).mailbox x =
    { f.mailbox x with usage :=
        if x = n then (if n = m then (f.mailbox m).usage - b else (f.mailbox n).usage) + b
        else if x = m then (f.mailbox m).usage - b else (f.mailbox x).usage } := by
  unfold Filing.shifted
  simp only [Filing.withUsage_mailbox]

/-- Of a mailbox its usage and OVER alone change. -/
theorem Filing.moveUsage_mailbox_eq (m n b : Nat) (f : Filing) (x : Nat) : (f.moveUsage m n b).mailbox x =
    { f.mailbox x with usage := ((f.shifted m n b).mailbox x).usage
                       overQuota := ((f.moveUsage m n b).mailbox x).overQuota } := by
  rw [Filing.moveUsage_eq, Filing.evalOver_mailbox_eq, Filing.evalOver_mailbox_eq _ m, Filing.mark_mailbox,
    Filing.mark_mailbox, Filing.shifted_mailbox]

theorem Filing.moveUsage_usage (m n b : Nat) (f : Filing) (x : Nat) :
    ((f.moveUsage m n b).mailbox x).usage = ((f.shifted m n b).mailbox x).usage := by
  rw [Filing.moveUsage_mailbox_eq]

theorem Filing.moveUsage_usage_from {m n : Nat} (h : n ≠ m) (b : Nat) :
    ((f.moveUsage m n b).mailbox m).usage = (f.mailbox m).usage - b := by
  rw [Filing.moveUsage_usage, Filing.shifted_mailbox]
  simp [Ne.symm h]

theorem Filing.moveUsage_usage_to {m n : Nat} (h : n ≠ m) (b : Nat) :
    ((f.moveUsage m n b).mailbox n).usage = (f.mailbox n).usage + b := by
  rw [Filing.moveUsage_usage, Filing.shifted_mailbox]
  simp [h]

theorem Filing.moveUsage_mailbox_ne {m n x : Nat} (hm : x ≠ m) (hn : x ≠ n) (b : Nat) :
    (f.moveUsage m n b).mailbox x = f.mailbox x := by
  rw [Filing.moveUsage_eq, Filing.evalOver_mailbox_ne hn, Filing.evalOver_mailbox_ne hm, Filing.mark_mailbox,
    Filing.mark_mailbox, Filing.shifted_mailbox, if_neg hn, if_neg hm]

theorem Filing.moveUsage_walls (m n b : Nat) (f : Filing) (x : Nat) :
    ((f.moveUsage m n b).mailbox x).group = (f.mailbox x).group ∧
      ((f.moveUsage m n b).mailbox x).excludes = (f.mailbox x).excludes := by
  rw [Filing.moveUsage_mailbox_eq]
  exact ⟨rfl, rfl⟩

theorem Filing.moveUsage_wallPasses (m n b v w : Nat) (f : Filing) :
    (f.moveUsage m n b).wallPasses v w = f.wallPasses v w := by
  obtain ⟨hgv, hev⟩ := Filing.moveUsage_walls m n b f v
  obtain ⟨hgw, hew⟩ := Filing.moveUsage_walls m n b f w
  rw [Filing.wallPasses, hgv, hev, hgw, hew, Filing.wallPasses]

theorem Filing.acts.moveUsage {K : NoticeKey → Prop} (a : f.acts K g) (hK : warnings K) (m n b : Nat) :
    f.acts K (g.moveUsage m n b) :=
  ((((((a.setBox m _).setBox n _).mark (.mailbox m)).mark (.mailbox n)).evalOver hK m).evalOver hK n)

/-! ## Checks of one document (R98) -/

theorem distinct_of_forall_eq {α : Type} [DecidableEq α] {d : α} {l : List α} (h : ∀ x ∈ l, x = d) :
    distinct l = if d ∈ l then [d] else [] := by
  split_ifs with hd
  · refine List.perm_singleton.mp ((List.perm_ext_iff_of_nodup (distinct_nodup l) (List.nodup_singleton d)).mpr fun x => ?_)
    rw [mem_distinct, List.mem_singleton]
    exact ⟨h x, fun hx => hx ▸ hd⟩
  · have hnil : l = [] := List.eq_nil_iff_forall_not_mem.mpr fun x hx => hd (h x hx ▸ hx)
    rw [hnil]
    rfl

/-- Release is checked for the one document that a list names, if it names any. -/
theorem Filing.checkReleases_of_forall_eq {l : List Nat} (hg : (f.doc k).gen < 64) (hk : k < 1024)
    (hs : (f.doc k).state ≠ .free) (h : ∀ d ∈ l, d = f.docId k) :
    f.checkReleases l = if f.docId k ∈ l then f.checkRelease k else f := by
  rw [Filing.checkReleases_eq, distinct_of_forall_eq h]
  split_ifs
  · have hslot : k = slotOf (f.docId k) := by rw [slotOf, Filing.docId]; omega
    have hgen : (f.doc k).gen = genOf (f.docId k) := by rw [genOf, Filing.docId]; omega
    have hsmall : f.docId k < 65536 := by rw [Filing.docId]; omega
    show f.checkOne (f.docId k) = _
    rw [Filing.checkOne, Filing.checkId_inr.mpr ⟨hslot, hsmall, hs, hgen⟩]
  · rfl

/-! ## REFILE (R77, R101) -/

/-- The document in its new mailbox, its blocks' usage moved. -/
def Filing.refiled (k n : Nat) (f : Filing) : Filing :=
  (f.changeDoc k { f.doc k with mailbox := n }).moveUsage (f.doc k).mailbox n (f.doc k).blockTotal

/-- The binding shows the document of slot k to a viewer whose wall to mailbox n stands. -/
def Filing.cutOff (k n : Nat) (f : Filing) (b : Binding) : Bool := b.doc == f.docId k && !f.wallPasses b.viewer n

theorem Filing.cutOff_iff {n : Nat} {b : Binding} :
    f.cutOff k n b = true ↔ b.doc = f.docId k ∧ f.wallPasses b.viewer n = false := by
  simp [Filing.cutOff]

/-- The document in its new mailbox, the bindings that fail its walls broken. -/
def Filing.reshown (k n : Nat) (f : Filing) : Filing := (f.refiled k n).breakBindings (f.cutOff k n) .wall

section
variable {n : Nat}

theorem Filing.refiled_doc (k n : Nat) (f : Filing) : (f.refiled k n).doc k = { f.doc k with mailbox := n } := by
  rw [Filing.refiled, Filing.moveUsage_doc, Filing.doc_changeDoc]

theorem Filing.refiled_wallPasses (k n v w : Nat) (f : Filing) : (f.refiled k n).wallPasses v w = f.wallPasses v w := by
  rw [Filing.refiled, Filing.moveUsage_wallPasses, Filing.wallPasses, Filing.changeDoc_mailbox, Filing.changeDoc_mailbox,
    Filing.wallPasses]

theorem Filing.reshown_doc (k n : Nat) (f : Filing) : (f.reshown k n).doc k = { f.doc k with mailbox := n } := by
  rw [Filing.reshown, Filing.breakBindings_doc, Filing.refiled_doc]

theorem Filing.reshown_doc_ne {j : Nat} (hj : j ≠ k) : (f.reshown k n).doc j = f.doc j := by
  rw [Filing.reshown, Filing.breakBindings_doc, Filing.refiled, Filing.moveUsage_doc, Filing.doc_changeDoc_ne _ _ hj]

theorem Filing.reshown_docId (k n : Nat) (f : Filing) : (f.reshown k n).docId k = f.docId k := by
  rw [Filing.docId, Filing.reshown_doc, Filing.docId]

theorem Filing.reshown_blocks (k n : Nat) (f : Filing) : (f.reshown k n).blocks = f.blocks := by
  rw [Filing.reshown, Filing.breakBindings_blocks, Filing.refiled, Filing.moveUsage_blocks, Filing.changeDoc_blocks]

theorem Filing.reshown_queue (k n : Nat) (f : Filing) : (f.reshown k n).queue = f.queue := by
  rw [Filing.reshown, Filing.breakBindings_queue, Filing.refiled, Filing.moveUsage_queue, Filing.changeDoc_queue]

theorem Filing.changeDoc_pages (x : Doc) : (f.changeDoc k x).dir.pages = f.dir.pages := by
  unfold Filing.changeDoc
  split_ifs <;> rfl

theorem Filing.reshown_pages (k n : Nat) (f : Filing) : (f.reshown k n).dir.pages = f.dir.pages := by
  rw [Filing.reshown, Filing.breakBindings_dir, Filing.refiled, Filing.moveUsage_dir, Filing.changeDoc_pages]

theorem Filing.reshown_mailbox (k n : Nat) (f : Filing) (x : Nat) :
    (f.reshown k n).mailbox x = (f.refiled k n).mailbox x := Filing.breakBindings_mailbox ..

theorem Filing.reshown_mailbox_ne {x : Nat} (hm : x ≠ (f.doc k).mailbox) (hn : x ≠ n) :
    (f.reshown k n).mailbox x = f.mailbox x := by
  rw [Filing.reshown_mailbox, Filing.refiled, Filing.moveUsage_mailbox_ne hm hn, Filing.changeDoc_mailbox]

theorem Filing.reshown_usage_from (h : n ≠ (f.doc k).mailbox) : ((f.reshown k n).mailbox (f.doc k).mailbox).usage =
    (f.mailbox (f.doc k).mailbox).usage - (f.doc k).blockTotal := by
  rw [Filing.reshown_mailbox, Filing.refiled, Filing.moveUsage_usage_from h, Filing.changeDoc_mailbox]

theorem Filing.reshown_usage_to (h : n ≠ (f.doc k).mailbox) : ((f.reshown k n).mailbox n).usage =
    (f.mailbox n).usage + (f.doc k).blockTotal := by
  rw [Filing.reshown_mailbox, Filing.refiled, Filing.moveUsage_usage_to h, Filing.changeDoc_mailbox]

theorem Filing.reshown_binding {r : Nat} (hr : r < 8) :
    (f.reshown k n).binding r = (f.binding r).filter fun b => !f.cutOff k n b := by
  rw [Filing.reshown, Filing.breakBindings_binding _ _ _ hr, Filing.refiled, Filing.moveUsage_binding,
    Filing.changeDoc_binding]

theorem Filing.reshown_acts (k n : Nat) (f : Filing) : f.acts (fun _ => True) (f.reshown k n) :=
  Filing.acts.breakBindings ((Filing.acts.changeDoc .refl k _).moveUsage (fun _ _ => trivial) _ _ _)
    (fun _ => trivial) _ _

/-- The re-check of R76 tests the bindings of the document against the walls of its new mailbox. -/
theorem Filing.refiled_fails (hg : (f.doc k).gen < 64) (b : Binding) :
    (b.doc == f.docId k && (f.refiled k n).wallFails b) = f.cutOff k n b := by
  by_cases hb : b.doc = f.docId k
  · have hslot : slotOf b.doc = k := by rw [hb, slotOf, Filing.docId]; omega
    rw [Filing.wallFails, hslot, Filing.refiled_doc, Filing.refiled_wallPasses, Filing.cutOff]
  · have hno : (b.doc == f.docId k) = false := beq_eq_false_iff_ne.mpr hb
    rw [Filing.cutOff, hno, Bool.false_and, Bool.false_and]

theorem Filing.cutOff_docs : ∀ d ∈ (f.refiled k n).boundDocs (f.cutOff k n), d = f.docId k := by
  intro d hd
  obtain ⟨r, b, -, -, hb, rfl⟩ := (Filing.mem_boundDocs_iff _ _ _).mp hd
  exact (Filing.cutOff_iff.mp hb).1

theorem Filing.docId_mem_cutOff : f.docId k ∈ (f.refiled k n).boundDocs (f.cutOff k n) ↔
    ∃ r x, r < 8 ∧ f.binding r = some x ∧ x.doc = f.docId k ∧ f.wallPasses x.viewer n = false := by
  have hbind (r : Nat) : (f.refiled k n).binding r = f.binding r := by
    rw [Filing.refiled, Filing.moveUsage_binding, Filing.changeDoc_binding]
  simp only [Filing.mem_boundDocs_iff, hbind, Filing.cutOff_iff]
  constructor
  · rintro ⟨r, x, hr, hx, hcut, -⟩
    exact ⟨r, x, hr, hx, hcut⟩
  · rintro ⟨r, x, hr, hx, hcut⟩
    exact ⟨r, x, hr, hx, hcut, hcut.1⟩

/-- The document goes with the REFILE: a binding was broken, and nothing else holds it (R98, R101). -/
def Filing.goesAtRefile (k n : Nat) (f : Filing) : Prop :=
  (∃ r x, r < 8 ∧ f.binding r = some x ∧ x.doc = f.docId k ∧ f.wallPasses x.viewer n = false) ∧
    (f.doc k).loose ∧ (f.reshown k n).bound (f.docId k) = false

/-- The filing blocks once a REFILE has checked release. -/
def Filing.rechecked (k n : Nat) (f : Filing) : Filing := (f.refiled k n).recheck (fun b => b.doc == f.docId k)

section
variable (hg : (f.doc k).gen < 64) (hk : k < 1024) (hs : (f.doc k).state ≠ .free)
include hg hk hs

theorem Filing.rechecked_eq_checkRelease : f.rechecked k n =
    if f.docId k ∈ (f.refiled k n).boundDocs (f.cutOff k n) then (f.reshown k n).checkRelease k else f.reshown k n := by
  have htest : (fun b : Binding => b.doc == f.docId k && (f.refiled k n).wallFails b) = f.cutOff k n :=
    funext (Filing.refiled_fails hg)
  have hdoc := Filing.reshown_doc k n f
  have h := Filing.checkReleases_of_forall_eq (f := f.reshown k n) (k := k)
    (l := (f.refiled k n).boundDocs (f.cutOff k n)) (by rw [hdoc]; exact hg) hk (by rw [hdoc]; exact hs)
    (by rw [Filing.reshown_docId]; exact Filing.cutOff_docs)
  rw [Filing.reshown_docId] at h
  unfold Filing.rechecked Filing.recheck
  dsimp only
  rw [htest]
  exact h

theorem Filing.rechecked_of_goes (h : f.goesAtRefile k n) : f.rechecked k n = (f.reshown k n).releaseDoc false k := by
  obtain ⟨hcut, hloose, hbound⟩ := h
  rw [Filing.rechecked_eq_checkRelease hg hk hs, if_pos (Filing.docId_mem_cutOff.mpr hcut)]
  refine Filing.checkRelease_of_loose ?_ ?_
  · rw [Filing.reshown_doc]; exact hloose
  · rw [Filing.reshown_docId]; exact hbound

theorem Filing.rechecked_of_stays (h : ¬ f.goesAtRefile k n) : f.rechecked k n = f.reshown k n := by
  rw [Filing.rechecked_eq_checkRelease hg hk hs]
  split_ifs with hcut
  · refine Filing.checkRelease_of_not fun ⟨hloose, hbound⟩ => h ⟨Filing.docId_mem_cutOff.mp hcut, ?_, ?_⟩
    · rw [Filing.reshown_doc] at hloose; exact hloose
    · rw [Filing.reshown_docId] at hbound; exact hbound
  · rfl

/-- What holds of the document refiled and of its release holds of the REFILE. -/
theorem Filing.rechecked_induction {P : Filing → Prop} (hstays : P (f.reshown k n))
    (hgoes : P ((f.reshown k n).releaseDoc false k)) : P (f.rechecked k n) := by
  by_cases h : f.goesAtRefile k n
  · rw [Filing.rechecked_of_goes hg hk hs h]; exact hgoes
  · rw [Filing.rechecked_of_stays hg hk hs h]; exact hstays

theorem Filing.rechecked_bindings : (f.rechecked k n).bindings = (f.reshown k n).bindings :=
  Filing.rechecked_induction (P := fun g => g.bindings = (f.reshown k n).bindings) hg hk hs rfl
    (Filing.releaseDoc_bindings ..)

/-- The four conditions of R98 read after the REFILE. -/
theorem Filing.goesAtRefile_iff : f.goesAtRefile k n ↔
    (∃ r x, r < 8 ∧ f.binding r = some x ∧ x.doc = f.docId k ∧ f.wallPasses x.viewer n = false) ∧
      ((f.doc k).state = .filed ∨ (f.doc k).state = .review) ∧ (f.doc k).hold = false ∧ (f.doc k).expired = true ∧
      (f.doc k).anyLive = false ∧ (f.rechecked k n).bound (f.docId k) = false := by
  rw [Filing.bound_congr (Filing.rechecked_bindings hg hk hs), Filing.goesAtRefile, Doc.loose]
  simp only [and_assoc]

theorem Filing.rechecked_queue : (f.rechecked k n).queue = f.queue :=
  Filing.rechecked_induction (P := fun g => g.queue = f.queue) hg hk hs (Filing.reshown_queue k n f)
    ((Filing.releaseDoc_queue ..).trans (Filing.reshown_queue k n f))

theorem Filing.rechecked_doc_ne {j : Nat} (hj : j ≠ k) : (f.rechecked k n).doc j = f.doc j :=
  Filing.rechecked_induction (P := fun g => g.doc j = f.doc j) hg hk hs (Filing.reshown_doc_ne hj)
    ((Filing.releaseDoc_doc_ne hj).trans (Filing.reshown_doc_ne hj))

end

/-- The release that a REFILE ends in, of a document in its new mailbox (R99). -/
theorem Filing.releaseDoc_of_refiled (a : f.acts (fun _ => True) g) (hdoc : g.doc k = { f.doc k with mailbox := n })
    (hpages : g.dir.pages = f.dir.pages) (hblocks : g.blocks = f.blocks) :
    (g.releaseDoc false k).doc k = Doc.freed (((f.doc k).gen + 1) % 64) ∧
    (∀ p ∈ f.docPages k, (g.releaseDoc false k).page p = Page.freed) ∧
    (g.releaseDoc false k).blocks.scrub = f.blocks.scrub ++ (f.docPages k).flatMap (fun p => f.pageChain p) ∧
    (g.releaseDoc false k).blocks.free = f.blocks.free ∧ f.releaseTold (g.releaseDoc false k) k n ∧
    ((g.releaseDoc false k).mailbox n).usage = (g.mailbox n).usage - (f.doc k).blockTotal ∧
    ∀ x, x ≠ n → (g.releaseDoc false k).mailbox x = g.mailbox x := by
  have hself : g.sameDoc k g := ⟨.refl, rfl, rfl, rfl, rfl, rfl, rfl, rfl⟩
  have hid : g.docId k = f.docId k := by rw [Filing.docId, hdoc, Filing.docId]
  have hlist : g.docPages k = f.docPages k := by rw [Filing.docPages, hpages, hdoc, Filing.docPages]
  have hchain (p : Nat) : g.pageChain p = f.pageChain p :=
    Filing.pageChain_congr hblocks (by rw [Filing.page, hpages, Filing.page])
  obtain ⟨hfreed, -, hscrub, hfree, -, -, hgone, -, -, -, husage, -, hothers, -, htold⟩ := hself.docReleased
  unfold Filing.releaseTold at htold
  simp only [hlist, hchain, hdoc, hid, hblocks] at hfreed hscrub hfree hgone husage hothers htold
  exact ⟨hfreed, fun p hp => (hgone p hp).1, hscrub, hfree, a.tells htold, husage, hothers⟩

theorem Filing.reshown_released (k n : Nat) (f : Filing) :
    ((f.reshown k n).releaseDoc false k).doc k = Doc.freed (((f.doc k).gen + 1) % 64) ∧
    (∀ p ∈ f.docPages k, ((f.reshown k n).releaseDoc false k).page p = Page.freed) ∧
    ((f.reshown k n).releaseDoc false k).blocks.scrub =
      f.blocks.scrub ++ (f.docPages k).flatMap (fun p => f.pageChain p) ∧
    ((f.reshown k n).releaseDoc false k).blocks.free = f.blocks.free ∧
    f.releaseTold ((f.reshown k n).releaseDoc false k) k n ∧
    (((f.reshown k n).releaseDoc false k).mailbox n).usage = ((f.reshown k n).mailbox n).usage - (f.doc k).blockTotal ∧
    ∀ x, x ≠ n → ((f.reshown k n).releaseDoc false k).mailbox x = (f.reshown k n).mailbox x :=
  Filing.releaseDoc_of_refiled (f.reshown_acts k n) (Filing.reshown_doc k n f) (Filing.reshown_pages k n f)
    (Filing.reshown_blocks k n f)

section
variable (hg : (f.doc k).gen < 64) (hk : k < 1024) (hs : (f.doc k).state ≠ .free)
include hg hk hs

theorem Filing.rechecked_free : (f.rechecked k n).blocks.free = f.blocks.free := by
  obtain ⟨-, -, -, hfree, -⟩ := Filing.reshown_released k n f
  exact Filing.rechecked_induction (P := fun g => g.blocks.free = f.blocks.free) hg hk hs
    (by rw [Filing.reshown_blocks]) hfree

theorem Filing.rechecked_mailbox_ne {x : Nat} (hm : x ≠ (f.doc k).mailbox) (hn : x ≠ n) :
    (f.rechecked k n).mailbox x = f.mailbox x := by
  have hdoc : x ≠ ((f.reshown k n).doc k).mailbox := by rw [Filing.reshown_doc]; exact hn
  exact Filing.rechecked_induction (P := fun g => g.mailbox x = f.mailbox x) hg hk hs (Filing.reshown_mailbox_ne hm hn)
    ((Filing.releaseDoc_mailbox_ne hdoc).trans (Filing.reshown_mailbox_ne hm hn))

theorem Filing.rechecked_binding {r : Nat} (hr : r < 8) :
    (f.rechecked k n).binding r = (f.binding r).filter fun b => !f.cutOff k n b :=
  (Filing.binding_congr (Filing.rechecked_bindings hg hk hs) r).trans (Filing.reshown_binding hr)

end

end

section
variable (hid : operandNat ops 0 = f.docId k) (hg : (f.doc k).gen < 64) (hk : k < 1024) (hs : (f.doc k).state ≠ .free)
include hid hg hk hs

theorem reqRefile_eq : reqRefile ops f =
    if 64 ≤ operandNat ops 1 then f.refuse .range
    else if (f.mailbox (operandNat ops 1)).shut then f.refuse .state
    else if !f.wallPasses (operandNat ops 1) (f.doc k).mailbox then f.refuse .wall
    else (f.rechecked k (operandNat ops 1)).answer [operand ops 0, argNat (f.doc k).mailbox, operand ops 1] := by
  rw [← argNat_operandNat, ← argNat_operandNat]
  unfold reqRefile
  dsimp only
  rw [hid, Filing.withDoc_docId hg hk hs]
  rfl

theorem reqRefile_of_lt (hn : operandNat ops 1 < 64) : reqRefile ops f =
    if (f.mailbox (operandNat ops 1)).shut then f.refuse .state
    else if !f.wallPasses (operandNat ops 1) (f.doc k).mailbox then f.refuse .wall
    else (f.rechecked k (operandNat ops 1)).answer [operand ops 0, argNat (f.doc k).mailbox, operand ops 1] := by
  rw [reqRefile_eq hid hg hk hs, if_neg (Nat.not_le.mpr hn)]

theorem reqRefile_of_passes (hn : operandNat ops 1 < 64) (hopen : (f.mailbox (operandNat ops 1)).shut = false)
    (hwall : f.wallPasses (operandNat ops 1) (f.doc k).mailbox = true) : reqRefile ops f =
    (f.rechecked k (operandNat ops 1)).answer [operand ops 0, argNat (f.doc k).mailbox, operand ops 1] := by
  rw [reqRefile_of_lt hid hg hk hs hn, hopen, hwall]
  rfl

theorem reqRefile_of_walled (hn : operandNat ops 1 < 64) (hopen : (f.mailbox (operandNat ops 1)).shut = false)
    (hwall : f.wallPasses (operandNat ops 1) (f.doc k).mailbox = false) : reqRefile ops f = f.refuse .wall := by
  rw [reqRefile_of_lt hid hg hk hs hn, hopen, hwall]
  rfl

end

/-! ## ABORT_INTAKE (R54) -/

theorem reqAbortIntake_eq {c : Nat} (hc : operandNat ops 0 = c) (h1 : 1 ≤ c) (h24 : c ≤ 24) : reqAbortIntake ops f =
    if (f.chan c).state = .gap ∨ (f.chan c).state = .page then
      (f.endCurrent c .aborted true).answer [argDoc (f.chan c).doc]
    else f.refuse .state := by
  have hin : isChannel c = true := by simp [isChannel, Config.channelCount, h1, h24]
  unfold reqAbortIntake
  dsimp only
  rw [hc, hin]
  rfl

end

end Sys2Proof.Machine

open Sys2Proof Sys2Proof.Machine

/-- Settles O23: each request by its own state between the checks and the release or close that it ends in. -/
theorem documentsMove : Obligations.DocumentsMove := by
  refine ⟨fun ops f k hid hg hk hs => ⟨?_, ?_, ?_⟩, fun ops f c hc h1 h24 hgap hpage => ?_,
    fun ops f c i hc h1 h24 hst hd => ?_⟩
  · rw [show execute .accept ops f = _ from reqAccept_eq hid hg hk hs]
    refine ⟨fun hno => if_neg hno, fun hyes => ?_⟩
    rw [if_pos hyes]
    have hdoc := f.accepted_doc k
    dsimp only [Filing.answer]
    refine ⟨rfl, ?_, ?_, ?_, ?_, fun i hi => Filing.accepted_recipient hi, fun i hi hp => Filing.accepted_queued hi hp,
      fun j hj => Filing.accepted_doc_ne hj, Filing.makeReady_blocks .., Filing.makeReady_boxes ..,
      Filing.makeReady_clock .., f.accepted_dirty k⟩ <;> rw [hdoc]
  · rw [show execute .purge ops f = _ from reqPurge_eq hid hg hk hs]
    refine ⟨fun h => if_pos h, fun h hr => ?_, fun h hr => ?_⟩
    · rw [if_neg (by simp [h]), if_pos hr]; rfl
    · rw [if_neg (by simp [h]), if_neg hr]
      dsimp only [Filing.answer]
      have hreleased := f.purged_released k
      refine ⟨rfl, rfl, hreleased, fun r b hr hb => Filing.purged_binding hr hb,
        fun hrec j hj => Filing.purged_doc_ne hrec hj, ?_⟩
      obtain ⟨-, hdirty, -⟩ := hreleased
      exact hdirty
  · refine ⟨fun h => (reqRefile_eq hid hg hk hs).trans (if_pos h),
      fun hn hshut => (reqRefile_of_lt hid hg hk hs hn).trans (if_pos hshut),
      fun hn hopen hwall => reqRefile_of_walled hid hg hk hs hn hopen hwall, fun hn hopen hwall => ?_⟩
    rw [show execute .refile ops f = _ from reqRefile_of_passes hid hg hk hs hn hopen hwall]
    dsimp only [Filing.answer]
    rw [show (operand ops 1).toNat = operandNat ops 1 from rfl, ← Filing.goesAtRefile_iff hg hk hs]
    refine ⟨rfl, rfl, fun r x hr hx => ⟨fun hcut => ?_, fun hcut => ?_⟩, fun r hr hx => ?_,
      fun b hm hn => Filing.rechecked_mailbox_ne hg hk hs hm hn, fun j hj => Filing.rechecked_doc_ne hg hk hs hj,
      Filing.rechecked_queue hg hk hs, Filing.rechecked_free hg hk hs, fun hstays => ?_, fun hgo => ?_⟩
    · rw [Filing.rechecked_binding hg hk hs hr, hx, Option.filter_some, Filing.cutOff_iff.mpr hcut]; rfl
    · rw [Filing.rechecked_binding hg hk hs hr, hx, Option.filter_some,
        Bool.eq_false_iff.mpr (mt Filing.cutOff_iff.mp hcut)]; rfl
    · rw [Filing.rechecked_binding hg hk hs hr, hx]; rfl
    · rw [Filing.rechecked_of_stays hg hk hs hstays]
      exact ⟨Filing.reshown_doc _ _ _, Filing.reshown_blocks _ _ _, Filing.reshown_pages _ _ _,
        fun hne => ⟨Filing.reshown_usage_from hne, Filing.reshown_usage_to hne⟩⟩
    · rw [Filing.rechecked_of_goes hg hk hs hgo]
      obtain ⟨hfreed, hpages, hscrub, -, htold, husage, hothers⟩ := f.reshown_released k (operandNat ops 1)
      refine ⟨hfreed, hpages, hscrub, htold, fun hne => ⟨?_, ?_⟩⟩
      · rw [hothers _ (Ne.symm hne), Filing.reshown_usage_from hne]
      · rw [husage, Filing.reshown_usage_to hne, Nat.add_sub_cancel]
  · exact (reqAbortIntake_eq hc h1 h24).trans (if_neg (not_or.mpr ⟨hgap, hpage⟩))
  · have he : execute .abortIntake ops f = (f.endCurrent c .aborted true).answer [argDoc (f.chan c).doc] :=
      (reqAbortIntake_eq hc h1 h24).trans (if_pos hst)
    intro d
    rw [show d = _ from he]
    obtain ⟨hstate, hnone, htimer, -, -⟩ := Filing.endCurrent_chan hd .aborted true
    refine ⟨rfl, by rw [hd]; rfl, Filing.endCurrent_docClosed hd _ _, fun p hpage hp => ?_, hnone, htimer, hstate,
      fun e he => Filing.endCurrent_chan_ne _ _ _ he⟩
    exact Filing.endCurrent_pageClosed hpage hd hp .aborted true

end

section
/-! PROOFS. The recounts with which the rebuild ends (R66, R79, R185, item 7): block totals, then usage and OVER, then the free
page list. -/

namespace Sys2Proof.Machine

section
variable {f g : Filing} {k m : Nat}

/-! ## Block totals -/

/-- Document k with its block total recounted. -/
def Filing.countedDoc (k : Nat) (f : Filing) : Doc :=
  { f.doc k with blockTotal := ((f.docPages k).map fun p => (f.page p).count).sum }

theorem Filing.page_congr (h : g.dir.pages = f.dir.pages) (p : Nat) : g.page p = f.page p := by
  rw [Filing.page, h, Filing.page]

/-- A recount of block totals does not look at them. -/
theorem Filing.countedDoc_congr (hp : g.dir.pages = f.dir.pages) (hd : g.doc k = f.doc k ∨ g.doc k = f.countedDoc k) :
    g.docPages k = f.docPages k ∧ g.countedDoc k = f.countedDoc k := by
  have hlist : g.docPages k = f.docPages k := by
    rw [Filing.docPages, hp, Filing.docPages]
    rcases hd with h | h
    · rw [h]
    · rw [h]; rfl
  refine ⟨hlist, ?_⟩
  rw [Filing.countedDoc, hlist]
  simp only [Filing.page_congr hp]
  rcases hd with h | h <;> rw [h] <;> rfl

/-- The slots whose block totals are recounted. -/
def Filing.liveSlots (f : Filing) : List Nat := f.slotsOf fun d => d.state != .free

theorem Filing.mem_slotsOf {test : Doc → Bool} : k ∈ f.slotsOf test ↔ k < 1024 ∧ test (f.doc k) = true := by
  rw [Filing.slotsOf, List.mem_filter, mem_numbers_zero]
  rfl

theorem Filing.countBlocks_spec (f : Filing) : f.countBlocks.dir.pages = f.dir.pages ∧
    ∀ k, f.countBlocks.doc k = if k ∈ f.liveSlots then f.countedDoc k else f.doc k := by
  rw [Filing.countBlocks, ← Filing.liveSlots]
  generalize f.liveSlots = l
  refine foldl_snoc (R := fun done (y : Filing) => y.dir.pages = f.dir.pages ∧
    ∀ k, y.doc k = if k ∈ done then f.countedDoc k else f.doc k) ⟨rfl, fun _ => rfl⟩ ?_
  rintro done x rest y - ⟨hp, hd⟩
  have hx : y.doc x = f.doc x ∨ y.doc x = f.countedDoc x := by
    rw [hd]
    split_ifs
    · exact .inr rfl
    · exact .inl rfl
  refine ⟨hp, fun k => ?_⟩
  by_cases hk : k = x
  · subst hk
    rw [if_pos (List.mem_append_right _ (List.mem_singleton_self k))]
    exact (Filing.doc_setDoc ..).trans (Filing.countedDoc_congr hp hx).2
  · rw [Filing.doc_setDoc_ne _ _ hk, hd]
    simp only [List.mem_append, List.mem_singleton, hk, or_false]

/-! ## Usage and OVER -/

/-- The block totals of the documents of mailbox m (R66). -/
def Filing.usageOf (m : Nat) (f : Filing) : Nat :=
  ((f.slotsOf fun d => d.state != .free && d.mailbox == m).map fun s => (f.doc s).blockTotal).sum

/-- A mailbox with usage and OVER recounted (R79). -/
def Mailbox.counted (u : Nat) (b : Mailbox) : Mailbox := { b with usage := u, overQuota := decide (b.quota < u) }

theorem Mailbox.counted_counted (u : Nat) (b : Mailbox) : (b.counted u).counted u = b.counted u := rfl

theorem Mailbox.counted_usage (u : Nat) (b : Mailbox) : (b.counted u).usage = u := rfl

theorem Mailbox.counted_overQuota (u : Nat) (b : Mailbox) :
    (b.counted u).overQuota = decide ((b.counted u).quota < (b.counted u).usage) := rfl

theorem Filing.usageOf_congr (h : g.dir.docs = f.dir.docs) (m : Nat) : g.usageOf m = f.usageOf m := by
  have hdoc (k : Nat) : g.doc k = f.doc k := by rw [Filing.doc, h, Filing.doc]
  simp only [Filing.usageOf, Filing.slotsOf, hdoc]

theorem Filing.recountBox_eq (m : Nat) (f : Filing) :
    f.recountBox m = f.setBox m ((f.mailbox m).counted (f.usageOf m)) := rfl

theorem Filing.recountBoxes_spec (l : List Nat) (f : Filing) :
    let g := l.foldl (fun f m => f.recountBox m) f
    g.dir = f.dir ∧ ∀ m, g.mailbox m = if m ∈ l then (f.mailbox m).counted (f.usageOf m) else f.mailbox m := by
  refine foldl_snoc (R := fun done (y : Filing) => y.dir = f.dir ∧
    ∀ m, y.mailbox m = if m ∈ done then (f.mailbox m).counted (f.usageOf m) else f.mailbox m) ⟨rfl, fun _ => rfl⟩ ?_
  rintro done x rest y - ⟨hd, hm⟩
  refine ⟨hd, fun m => ?_⟩
  by_cases hx : m = x
  · subst hx
    rw [if_pos (List.mem_append_right _ (List.mem_singleton_self m)), Filing.recountBox_eq, Filing.mailbox_setBox,
      Filing.usageOf_congr (congrArg _ hd), hm]
    split_ifs
    · exact Mailbox.counted_counted ..
    · rfl
  · rw [Filing.recountBox_eq, Filing.mailbox_setBox_ne _ _ hx, hm]
    simp only [List.mem_append, List.mem_singleton, hx, or_false]

/-! ## The tables at the end -/

/-- Every count of g is the one that its own records give. -/
structure Filing.recounted (g : Filing) : Prop where
  total : ∀ k, k < 1024 → (g.doc k).state ≠ .free →
    (g.doc k).blockTotal = ((g.docPages k).map fun p => (g.page p).count).sum
  usage : ∀ m, m < 64 → (g.mailbox m).usage = g.usageOf m
  overQuota : ∀ m, m < 64 → (g.mailbox m).overQuota = decide ((g.mailbox m).quota < (g.mailbox m).usage)
  free : g.dir.freePages = (numbers 0 Config.pageRecords).filter fun p => (g.page p).state == .free
  withheld : g.dir.withheld = []
  boot : g.boot.phase = .rebuilt
  size : g.mirror.sizeMiB = g.boot.sizeMiB

/-- The directory that the rebuild ends with. -/
theorem Filing.rebuildFinished_frame (f : Filing) :
    let b := (numbers 0 Config.mailboxCount).foldl (fun f m => f.recountBox m) f.countBlocks
    f.rebuildFinished.dir.docs = b.dir.docs ∧ f.rebuildFinished.dir.pages = b.dir.pages ∧ f.rebuildFinished.boxes = b.boxes ∧
    f.rebuildFinished.dir.withheld = [] ∧
    f.rebuildFinished.dir.freePages = (numbers 0 Config.pageRecords).filter fun p => (b.page p).state == .free := by
  rw [Filing.rebuildFinished]
  generalize (numbers 0 Config.mailboxCount).foldl (fun f m => f.recountBox m) f.countBlocks = b
  rw [Filing.rebuildFreePages]
  generalize numbers 0 Config.pageRecords = l
  exact ⟨rfl, rfl, rfl, rfl, rfl⟩

theorem Filing.rebuildFinished_recounted (f : Filing) : f.rebuildFinished.recounted := by
  obtain ⟨hcpages, hcdoc⟩ := f.countBlocks_spec
  obtain ⟨hdir, hbox⟩ := Filing.recountBoxes_spec (numbers 0 Config.mailboxCount) f.countBlocks
  obtain ⟨hdocs, hpages, hboxes, hwithheld, hfree⟩ := f.rebuildFinished_frame
  have hphase : f.rebuildFinished.boot.phase = .rebuilt := rfl
  have hsize : f.rebuildFinished.mirror.sizeMiB = f.rebuildFinished.boot.sizeMiB := rfl
  generalize f.rebuildFinished = g at *
  generalize f.countBlocks = c at *
  generalize (numbers 0 Config.mailboxCount).foldl (fun f m => f.recountBox m) c = b at *
  have hdoc (k : Nat) : g.doc k = if k ∈ f.liveSlots then f.countedDoc k else f.doc k := by
    rw [Filing.doc, hdocs, hdir, ← hcdoc, Filing.doc]
  have hpage : g.dir.pages = f.dir.pages := by rw [hpages, hdir, hcpages]
  have hmail (m : Nat) (hm : m < 64) : g.mailbox m = (c.mailbox m).counted (c.usageOf m) := by
    rw [Filing.mailbox, hboxes, ← Filing.mailbox, hbox, if_pos (mem_numbers_zero (n := Config.mailboxCount) |>.mpr hm)]
  have husage (m : Nat) : g.usageOf m = c.usageOf m := Filing.usageOf_congr (by rw [hdocs, hdir]) m
  refine ⟨fun k hk hlive => ?_, fun m hm => ?_, fun m hm => ?_, ?_, hwithheld, hphase, hsize⟩
  · have hstate : (g.doc k).state = (f.doc k).state := by
      rw [hdoc]
      split_ifs <;> rfl
    have hmem : k ∈ f.liveSlots := Filing.mem_slotsOf.mpr ⟨hk, bne_iff_ne.mpr (hstate ▸ hlive)⟩
    have hcount : g.doc k = f.countedDoc k := by rw [hdoc, if_pos hmem]
    obtain ⟨hlist, hself⟩ := Filing.countedDoc_congr hpage (.inr hcount)
    rw [hcount, ← hself, Filing.countedDoc]
  · rw [hmail m hm, husage, Mailbox.counted_usage]
  · rw [hmail m hm]
    exact Mailbox.counted_overQuota ..
  · rw [hfree]
    exact List.filter_congr fun p _ => by rw [Filing.page_congr hpages]

/-! ## The layout header -/

theorem Filing.segments_layoutHeader (f : Filing) : f.segments .layoutHeader = [(0, f.headerWords)] := rfl

theorem Filing.headerWords_length (f : Filing) : f.headerWords.length = 8 := rfl

theorem State.rebuild_store (s : State) : s.rebuild.store = s.store.writeSegments
    (s.filing.rebuild.tableSegments ++ [(0, s.filing.rebuild.headerWords)]) := by
  rw [← Filing.segments_layoutHeader, State.rebuild]

theorem State.rebuild_header (s : State) : s.rebuild.store.page.readWords 0 8 = s.rebuild.filing.headerWords := by
  rw [State.rebuild_store, State.rebuild_filing, ← s.filing.rebuild.headerWords_length]
  exact Store.writeSegments_readWords_last ..

end

end Sys2Proof.Machine

open Sys2Proof Sys2Proof.Machine

/-- Settles O52: the recounts are the rebuild's last steps (`Filing.rebuildFinished_recounted`), and the layout header is the run
of words written last. -/
theorem rebuildRecounts : Obligations.RebuildRecounts := by
  intro s h
  obtain ⟨hp, hk⟩ := (State.startsAt_iff s _).mp h
  have hrun : exec .rebuild s = .next (s.granted .flush).rebuild :=
    State.startUnit_eq (p := fun p => p == .rebuilding) (by rw [hp]; rfl) hk
  refine ⟨_, hrun, ?_⟩
  have a : (s.granted .flush).rebuild.filing.recounted := by
    rw [State.rebuild_filing, Filing.rebuild_eq]
    exact Filing.rebuildFinished_recounted _
  have hheader := (s.granted .flush).rebuild_header
  have hgeneral : (s.granted .flush).rebuild.store.general = s.store.general := by
    rw [State.rebuild_store, Store.writeSegments_general, State.granted_store]
  generalize (s.granted .flush).rebuild = t at a hheader hgeneral
  refine ⟨a.boot, a.overQuota, a.total, fun m hm => ?_, ?_, a.withheld, hheader, a.size, hgeneral⟩
  · rw [a.usage m hm, Filing.usageOf, Filing.slotsOf, numbers_zero_eq]
    rfl
  · rw [a.free, numbers_zero_eq]
    rfl

end

section
/-! PROOFS. The requests on the Mailbox Table and the Routing Table (R64, R71, R72): the terms that a mailbox's host sets,
the checks of several documents on any bindings, the wall re-check, and each request as it stands when it is accepted. -/

namespace Sys2Proof.Machine

section
variable {f g h : Filing} {k m : Nat} {ops : List Word}

/-! ## The terms of a mailbox that its host sets -/

/-- From f to g no field of a mailbox changes but its usage and OVER. -/
def Filing.sameTerms (f g : Filing) : Prop :=
  ∀ x, g.mailbox x = { f.mailbox x with usage := (g.mailbox x).usage, overQuota := (g.mailbox x).overQuota }

theorem Filing.sameTerms_of_eq (e : ∀ x, g.mailbox x = f.mailbox x) : f.sameTerms g := fun x => by rw [e]

theorem Filing.sameTerms.trans (a : f.sameTerms g) (b : g.sameTerms h) : f.sameTerms h := fun x => by
  rw [b x, a x]

theorem Filing.sameTerms_evalOver (m : Nat) : f.sameTerms (f.evalOver m) := fun x => by
  rw [Filing.evalOver_mailbox_eq]

theorem Filing.sameTerms_setUsage (m u : Nat) : f.sameTerms (f.setUsage m u) := by
  have hset : f.sameTerms ((f.withUsage m u).mark (.mailbox m)) := fun x => by
    rw [Filing.mark_mailbox, Filing.withUsage_mailbox]
  exact hset.trans (Filing.sameTerms_evalOver m)

theorem Filing.sameTerms_returnUsage (m n : Nat) : f.sameTerms (f.returnUsage m n) := by
  unfold Filing.returnUsage
  split_ifs
  · exact Filing.sameTerms_of_eq fun _ => rfl
  · exact Filing.sameTerms_setUsage _ _

theorem Filing.sameTerms_releaseDoc (s : Nat) : f.sameTerms (f.releaseDoc false s) := by
  have hscrub : f.sameTerms (f.scrubAll (f.docBlocks s)) := Filing.sameTerms_of_eq fun x => Filing.scrubAll_mailbox ..
  refine (hscrub.trans (Filing.sameTerms_returnUsage (f.doc s).mailbox (f.doc s).blockTotal)).trans
    (Filing.sameTerms_of_eq fun x => ?_)
  rw [Filing.releaseDoc_loud_eq, Filing.raise_mailbox, Filing.releaseDoc_quiet_mailbox]

theorem Filing.sameTerms.checks (a : f.sameTerms g) (ids : List Nat) : f.sameTerms (ids.foldl Filing.checkOne g) := by
  induction ids generalizing g with
  | nil => exact a
  | cons d ids ih =>
    refine ih ?_
    rcases g.checkOne_cases d with e | ⟨s, -, -, e⟩ <;> rw [e]
    · exact a
    · exact a.trans (Filing.sameTerms_releaseDoc s)

theorem Filing.sameTerms_recheck (test : Binding → Bool) : f.sameTerms (f.recheck test) :=
  (Filing.sameTerms_of_eq fun x => Filing.breakBindings_mailbox _ _ _ x).checks _

/-- The walls read two terms of each of the two mailboxes (R75). -/
theorem Filing.sameTerms.wallPasses (a : f.sameTerms g) (v m : Nat) : g.wallPasses v m = f.wallPasses v m := by
  rw [Filing.wallPasses, a v, a m, Filing.wallPasses]

theorem Filing.wallPasses_iff (v m : Nat) : f.wallPasses v m = true ↔
    (f.mailbox v).excludes.getLsbD (f.mailbox m).group = false ∧
      (f.mailbox m).excludes.getLsbD (f.mailbox v).group = false := by
  simp [Filing.wallPasses]

/-! ## Checks of several documents, on any bindings (R98) -/

theorem Filing.releasable_congr (hd : g.doc k = f.doc k) (hb : g.bindings = f.bindings) :
    g.releasable k = f.releasable k := by
  rw [Bool.eq_iff_iff, Filing.releasable_iff, Filing.releasable_iff, Filing.docId, hd, Filing.bound_congr hb, ← Filing.docId]

/-- Checks leave a document that is not named, or that something holds. -/
theorem Filing.checks_doc_kept {ids : List Nat} (hk : f.docId k ∈ ids → f.releasable k = false) :
    (ids.foldl Filing.checkOne f).doc k = f.doc k := by
  induction ids generalizing f with
  | nil => rfl
  | cons d ids ih =>
    rw [List.foldl_cons]
    rcases f.checkOne_cases d with e | ⟨s, hs, hr, e⟩ <;> rw [e]
    · exact ih fun hm => hk (List.mem_cons_of_mem _ hm)
    · have hne : k ≠ s := by
        rintro rfl
        have hno := hk (by rw [Filing.docId_of_checkId hs]; exact List.mem_cons_self)
        exact Bool.false_ne_true (hno.symm.trans hr)
      have hd := Filing.releaseDoc_doc_ne (f := f) hne
      rw [ih fun hm => ?_, hd]
      rw [Filing.releasable_congr hd (Filing.releaseDoc_bindings ..)]
      exact hk (List.mem_cons_of_mem _ (by rwa [Filing.docId, hd, ← Filing.docId] at hm))

/-- The check of a document that nothing holds releases it. -/
theorem Filing.checkOne_of_releasable (hk : k < 1024) (hg : (f.doc k).gen < 64) (hr : f.releasable k = true) :
    f.checkOne (f.docId k) = f.releaseDoc false k := by
  have hcheck : f.checkId (f.docId k) = .inr k := by
    obtain ⟨⟨hs, -⟩, -⟩ := Filing.releasable_iff.mp hr
    refine Filing.checkId_inr.mpr ⟨?_, ?_, ?_, ?_⟩
    · rw [slotOf, Filing.docId]; omega
    · rw [Filing.docId]; omega
    · rcases hs with e | e <;> rw [e] <;> nofun
    · rw [genOf, Filing.docId]; omega
  unfold Filing.checkOne Filing.checkRelease
  simp only [hcheck, hr, if_true]

/-- The keys of the notices that the checks of some documents may raise: warnings, and RELEASED for those documents. -/
def releaseKeys (ids : List Nat) (q : NoticeKey) : Prop :=
  q.kind = .fault ∨ q.kind = .storeLow ∨ q.kind = .mailboxOver ∨
    ∃ d ∈ ids, q = { kind := .released, doc := some d, item := .none }

theorem warnings_releaseKeys (ids : List Nat) : warnings (releaseKeys ids) := by
  rintro q (e | e | e) <;> simp [releaseKeys, e]

theorem Filing.acts.checks {K : NoticeKey → Prop} (a : f.acts K g) (hK : warnings K) {ids : List Nat}
    (hids : ∀ d ∈ ids, K { kind := .released, doc := some d, item := .none }) :
    f.acts K (ids.foldl Filing.checkOne g) := by
  induction ids generalizing g with
  | nil => exact a
  | cons d ids ih =>
    refine ih ?_ fun e he => hids e (List.mem_cons_of_mem _ he)
    rcases g.checkOne_cases d with e | ⟨s, hs, -, e⟩ <;> rw [e]
    · exact a
    · rw [Filing.releaseDoc_loud_eq, Filing.docId_of_checkId hs]
      exact (a.releaseQuiet hK s).raise (hids d List.mem_cons_self) _ _

/-- Among the documents checked, one that nothing holds is released, and RELEASED is told (R98, R99). -/
theorem Filing.checks_releasable {K : NoticeKey → Prop} {base : Filing} {ids : List Nat} (hbase : base.acts K f)
    (hk : k < 1024) (hg : (f.doc k).gen < 64) (hr : f.releasable k = true) (hn : ids.Nodup) (hm : f.docId k ∈ ids) :
    (ids.foldl Filing.checkOne f).doc k = Doc.freed (((f.doc k).gen + 1) % 64) ∧
      base.tells (ids.foldl Filing.checkOne f) .released (some (f.docId k)) .none 0
        [argNat (f.docId k), argNat (f.doc k).mailbox, argNat (f.doc k).pageCount, argNat (f.doc k).blockTotal] := by
  obtain ⟨l1, l2, rfl⟩ := List.append_of_mem hm
  obtain ⟨-, hn2, hdis⟩ := List.nodup_append.mp hn
  have hrest : f.docId k ∉ l2 := (List.nodup_cons.mp hn2).1
  have hfirst : f.docId k ∉ l1 := fun hmem => hdis _ hmem _ List.mem_cons_self rfl
  rw [List.foldl_append, List.foldl_cons]
  set x := l1.foldl Filing.checkOne f with hx
  have hdoc : x.doc k = f.doc k := Filing.checks_doc_kept fun hmem => absurd hmem hfirst
  have hbind : x.bindings = f.bindings := (f.keepsTables_refl.checks l1).bindings
  have hid : x.docId k = f.docId k := by rw [Filing.docId, hdoc, ← Filing.docId]
  have hacts : f.acts (fun _ => True) x := Filing.acts.checks .refl (fun _ _ => trivial) fun _ _ => trivial
  have hone : x.checkOne (f.docId k) = x.releaseDoc false k := by
    rw [← hid]
    exact Filing.checkOne_of_releasable hk (hdoc ▸ hg) ((Filing.releasable_congr hdoc hbind).trans hr)
  rw [hone]
  have hfreed : (x.releaseDoc false k).doc k = Doc.freed (((f.doc k).gen + 1) % 64) := by
    rw [Filing.releaseDoc_doc, hdoc]
  constructor
  · rw [Filing.checks_doc_kept fun _ => ?_, hfreed]
    rw [Bool.eq_false_iff, ne_eq, Filing.releasable_iff, hfreed]
    exact fun hc => Doc.freed_not_loose _ hc.1
  · refine hbase.tells (Filing.tells.later (g := x.releaseDoc false k) ?_
      (Filing.acts.checks .refl (warnings_releaseKeys l2) fun d hd => .inr (.inr (.inr ⟨d, hd, rfl⟩))) ?_)
    · rw [Filing.releaseDoc_loud_eq, hid, hdoc]
      exact Filing.acts.tells_raise (hacts.releaseQuiet (fun _ _ => trivial) k)
    · rintro (e | e | e | ⟨d, hd, e⟩)
      · cases e
      · cases e
      · cases e
      · cases e
        exact hrest hd

/-! ## The wall re-check (R76) -/

/-- A binding fails the wall test as the state g has the walls. -/
theorem Filing.sameTerms.wallFails (a : f.sameTerms g) (b : Binding) :
    f.wallFails b = true ↔ g.wallPasses b.viewer (f.doc (slotOf b.doc)).mailbox = false := by
  rw [Filing.wallFails, Bool.not_eq_true', a.wallPasses]

theorem Filing.recheck_eq (f : Filing) : f.recheck (fun _ => true) =
    (distinct (f.boundDocs f.wallFails)).foldl Filing.checkOne (f.breakBindings f.wallFails .wall) := rfl

theorem Filing.recheck_bindings (f : Filing) :
    (f.recheck (fun _ => true)).bindings = (f.breakBindings f.wallFails .wall).bindings := by
  rw [Filing.recheck_eq]
  exact ((Filing.keepsTables_refl _).checks _).bindings

theorem Filing.recheck_binding (f : Filing) {r : Nat} (hr : r < 8) :
    (f.recheck (fun _ => true)).binding r = (f.binding r).filter (fun b => !f.wallFails b) := by
  rw [Filing.binding_congr f.recheck_bindings, Filing.breakBindings_binding _ _ _ hr]

/-- What the re-check does to the document of slot k. -/
theorem Filing.recheck_doc (hg : (f.doc k).gen < 64) (hk : k < 1024) {base : Filing}
    (hbase : base.acts (fun _ => True) f) :
    let named := ∃ r b, r < 8 ∧ f.binding r = some b ∧ f.wallFails b = true ∧ b.doc = f.docId k
    let free := (f.doc k).loose ∧ (f.recheck (fun _ => true)).bound (f.docId k) = false
    (named ∧ free → (f.recheck (fun _ => true)).doc k = Doc.freed (((f.doc k).gen + 1) % 64) ∧
      base.tells (f.recheck (fun _ => true)) .released (some (f.docId k)) .none 0
        [argNat (f.docId k), argNat (f.doc k).mailbox, argNat (f.doc k).pageCount, argNat (f.doc k).blockTotal]) ∧
    (¬ (named ∧ free) → (f.recheck (fun _ => true)).doc k = f.doc k) := by
  intro named free
  set x := f.breakBindings f.wallFails .wall with hx
  have hdoc : x.doc k = f.doc k := Filing.breakBindings_doc ..
  have hid : x.docId k = f.docId k := by rw [Filing.docId, hdoc, ← Filing.docId]
  have hnamed : f.docId k ∈ distinct (f.boundDocs f.wallFails) ↔ named := by
    rw [mem_distinct, Filing.mem_boundDocs_iff]
  have hfree : x.releasable k = true ↔ free := by
    rw [Filing.releasable_iff, hdoc, hid, ← Filing.bound_congr f.recheck_bindings]
  have hacts : base.acts (fun _ => True) x := hbase.breakBindings (fun _ => trivial) _ _
  rw [Filing.recheck_eq, ← hx]
  constructor
  · rintro ⟨hn, hf⟩
    have hfreed := Filing.checks_releasable hacts hk (hdoc ▸ hg) (hfree.mpr hf) (distinct_nodup _) (hid ▸ hnamed.mpr hn)
    rwa [hdoc, hid] at hfreed
  · intro hno
    rw [Filing.checks_doc_kept fun hm => ?_, hdoc]
    rw [Bool.eq_false_iff, ne_eq, hfree]
    exact fun hf => hno ⟨hnamed.mp (hid ▸ hm), hf⟩

/-! ## SET_MAILBOX (R64) -/

/-- The record that SET_MAILBOX posts, before the mailbox's usage and OVER. -/
def postedBox (ops : List Word) (cls : MailClass) (ds : List (List Digit)) : Mailbox :=
  { shut := bits (operand ops 0) 0 4 == 1, quota := min (operandNat ops 1) 65535, usage := 0, overQuota := false,
    group := bits (operand ops 0) 24 8, excludes := (operand ops 2).setWidth 16, cls := cls,
    hours := min (operandNat ops 3) 4320, strict := bits (operand ops 0) 8 1 == 1, defaults := ds }

/-- The posted record in its place, OVER evaluated. -/
def Filing.boxPosted (m : Nat) (b : Mailbox) (f : Filing) : Filing :=
  (f.setBox m { b with usage := (f.mailbox m).usage, overQuota := (f.mailbox m).overQuota }).evalOver m

/-- The walls of mailbox m are not those of the posted record. -/
def Filing.wallsMoved (m : Nat) (b : Mailbox) (f : Filing) : Prop :=
  (f.mailbox m).group ≠ b.group ∨ (f.mailbox m).excludes ≠ b.excludes

section
variable {cls : MailClass} {ds : List (List Digit)} (hm : bits (operand ops 0) 16 8 = m) (hlt : m < 64)
  (hstate : bits (operand ops 0) 0 4 < 2) (hgroup : bits (operand ops 0) 24 8 < 16)
  (hcls : classOf (bits (operand ops 0) 4 4) = some cls) (hds : operandDefaults ops = some ds)
include hm hlt hstate hgroup hcls hds

theorem mailboxOperands_eq : mailboxOperands ops = some (m, postedBox ops cls ds) := by
  have hrange : bits (operand ops 0) 16 8 < Config.mailboxCount := hm ▸ hlt
  unfold mailboxOperands
  simp only [hcls, hds]
  rw [if_pos ⟨hrange, hstate, hgroup⟩, hm]
  rfl

theorem reqSetMailbox_state (h0 : m = 0) (hshut : bits (operand ops 0) 0 4 = 1) :
    reqSetMailbox ops f = f.refuse .state := by
  have hs : (postedBox ops cls ds).shut = true := by simp [postedBox, hshut]
  unfold reqSetMailbox
  rw [mailboxOperands_eq hm hlt hstate hgroup hcls hds]
  exact if_pos ⟨h0, hs⟩

theorem reqSetMailbox_ok (hopen : m ≠ 0 ∨ bits (operand ops 0) 0 4 = 0) :
    (reqSetMailbox ops f).code = .ok ∧
    (f.wallsMoved m (postedBox ops cls ds) → (reqSetMailbox ops f).filing =
      ((f.boxPosted m (postedBox ops cls ds)).recheck (fun _ => true)).mark (.mailbox m)) ∧
    (¬ f.wallsMoved m (postedBox ops cls ds) → (reqSetMailbox ops f).filing =
      (f.boxPosted m (postedBox ops cls ds)).mark (.mailbox m)) := by
  have hno : ¬ (m = 0 ∧ (postedBox ops cls ds).shut = true) := by
    rintro ⟨h0, hs⟩
    have h1 : bits (operand ops 0) 0 4 = 1 := by simpa [postedBox] using hs
    omega
  unfold reqSetMailbox
  rw [mailboxOperands_eq hm hlt hstate hgroup hcls hds]
  dsimp only
  rw [if_neg hno]
  refine ⟨rfl, fun hw => ?_, fun hw => ?_⟩
  · rw [Filing.wallsMoved] at hw
    rw [if_pos hw]
    rfl
  · rw [Filing.wallsMoved] at hw
    rw [if_neg hw]
    rfl

end

section
variable {b : Mailbox}

theorem Filing.boxPosted_mailbox : (f.boxPosted m b).mailbox m =
    { b with usage := (f.mailbox m).usage, overQuota := ((f.boxPosted m b).mailbox m).overQuota } := by
  have hset := Filing.mailbox_setBox (f := f) m
    { b with usage := (f.mailbox m).usage, overQuota := (f.mailbox m).overQuota }
  unfold Filing.boxPosted
  rw [Filing.evalOver_mailbox_eq, hset]

theorem Filing.boxPosted_mailbox_ne {x : Nat} (hx : x ≠ m) : (f.boxPosted m b).mailbox x = f.mailbox x := by
  rw [Filing.boxPosted, Filing.evalOver_mailbox_ne hx, Filing.mailbox_setBox_ne _ _ hx]

theorem Filing.boxPosted_frame : (f.boxPosted m b).dir = f.dir ∧ (f.boxPosted m b).bindings = f.bindings ∧
    (f.boxPosted m b).channels = f.channels := by
  simp [Filing.boxPosted]

theorem Filing.boxPosted_doc : (f.boxPosted m b).doc k = f.doc k := by simp [Filing.boxPosted]

theorem Filing.acts_boxPosted : f.acts (fun _ => True) (f.boxPosted m b) :=
  (Filing.acts.setBox .refl _ _).evalOver (fun _ _ => trivial) _

/-- OVER and its notice as the posted quota finds the usage (R66, R67). -/
theorem Filing.boxPosted_over (hrun : f.running = true) :
    let old := f.mailbox m
    ((f.boxPosted m b).mailbox m).overQuota =
      (if b.quota < old.usage then true else if old.usage < b.quota then false else old.overQuota) ∧
    (old.overQuota = false → b.quota < old.usage → f.tells (f.boxPosted m b) .mailboxOver none (.mailbox m) 0
      [argNat m, argNat b.quota, argNat old.usage]) ∧
    (old.overQuota = true ∨ old.usage ≤ b.quota → (f.boxPosted m b).ring = f.ring) := by
  intro old
  set w := f.setBox m { b with usage := old.usage, overQuota := old.overQuota } with hw
  have hposted : f.boxPosted m b = w.evalOver m := rfl
  have hbox : w.mailbox m = { b with usage := old.usage, overQuota := old.overQuota } := Filing.mailbox_setBox ..
  have hwrun : w.running = true := hrun
  refine ⟨?_, fun ho hq => ?_, fun hno => ?_⟩
  · rw [hposted, w.evalOver_overQuota hwrun, hbox]
  · rw [hposted, w.evalOver_of_borrow hwrun (by rw [hbox]; exact hq) (by rw [hbox]; exact ho), hbox]
    have htold := Filing.acts.tells_raise (K := fun _ => True) (f := f) (kind := .mailboxOver) (doc := none)
      (item := .mailbox m) (code := 0) (args := [argNat m, argNat b.quota, argNat old.usage])
      ((Filing.acts.setBox .refl m { b with usage := old.usage, overQuota := old.overQuota }).setBox m
        { b with usage := old.usage, overQuota := true })
    exact htold.later (K := fun q => q.kind ≠ .mailboxOver) (Filing.acts.latch .refl _ (by simp) fun e => by cases e)
      (by simp)
  · refine (w.evalOver_of_not_borrow (m := m) ?_).1
    rw [hbox]
    rintro ⟨ho, hq⟩
    rcases hno with e | e
    · exact Bool.false_ne_true (ho.symm.trans e)
    · exact absurd hq (Nat.not_lt.mpr e)

/-- SET_MAILBOX where the walls are kept. -/
theorem Filing.boxPosted_kept :
    let old := f.mailbox m
    let g := (f.boxPosted m b).mark (.mailbox m)
    let c := g.mailbox m
    c.usage = old.usage ∧ (∀ n, n ≠ m → g.mailbox n = f.mailbox n) ∧ g.dir = f.dir ∧
      g.bindings = f.bindings ∧ g.channels = f.channels ∧
      (f.running = true →
        (old.usage < c.quota → c.overQuota = false) ∧ (c.quota < old.usage → c.overQuota = true) ∧
        (old.usage = c.quota → c.overQuota = old.overQuota) ∧
        (old.overQuota = false → c.quota < old.usage →
          f.tells g .mailboxOver none (.mailbox m) 0 [argNat m, argNat c.quota, argNat old.usage]) ∧
        ((old.overQuota = true ∨ old.usage ≤ c.quota) → g.ring = f.ring)) := by
  intro old g c
  have hc : c = { b with usage := old.usage, overQuota := ((f.boxPosted m b).mailbox m).overQuota } :=
    (Filing.mark_mailbox ..).trans Filing.boxPosted_mailbox
  have hquota : c.quota = b.quota := by rw [hc]
  have hflag : c.overQuota = ((f.boxPosted m b).mailbox m).overQuota := by rw [hc]
  obtain ⟨hdir, hbind, hchan⟩ := Filing.boxPosted_frame (f := f) (m := m) (b := b)
  refine ⟨by rw [hc], fun n hn => ?_, hdir, hbind, hchan, fun hrun => ?_⟩
  · exact (Filing.mark_mailbox ..).trans (Filing.boxPosted_mailbox_ne hn)
  obtain ⟨hset, htold, hring⟩ := Filing.boxPosted_over (f := f) (m := m) (b := b) hrun
  rw [hflag, hquota]
  refine ⟨fun hlow => ?_, fun hhigh => ?_, fun hsame => ?_, htold, hring⟩
  · rw [hset, if_neg (Nat.lt_asymm hlow), if_pos hlow]
  · rw [hset, if_pos hhigh]
  · rw [hset, if_neg (Nat.not_lt.mpr hsame.le), if_neg (Nat.not_lt.mpr hsame.ge)]

/-- SET_MAILBOX where the walls change: the bindings and the documents of the wall re-check (R76). -/
theorem Filing.boxPosted_recheck :
    let f1 := f.boxPosted m b
    let g := (f1.recheck (fun _ => true)).mark (.mailbox m)
    let fails (x : Binding) : Prop := g.wallPasses x.viewer (f.doc (slotOf x.doc)).mailbox = false
    let goes (k : Nat) : Prop :=
      (∃ r x, r < 8 ∧ f.binding r = some x ∧ fails x ∧ x.doc = f.docId k) ∧
      ((f.doc k).state = .filed ∨ (f.doc k).state = .review) ∧ (f.doc k).hold = false ∧
      (f.doc k).expired = true ∧ (f.doc k).anyLive = false ∧ g.bound (f.docId k) = false
    (∀ r x, r < 8 → f.binding r = some x → (fails x → g.binding r = none) ∧ (¬ fails x → g.binding r = some x)) ∧
    (∀ r, r < 8 → f.binding r = none → g.binding r = none) ∧
    (∀ k, k < 1024 → (f.doc k).gen < 64 →
      (goes k → g.doc k = Doc.freed (((f.doc k).gen + 1) % 64) ∧ f.releaseTold g k (f.doc k).mailbox) ∧
      (¬ goes k → g.doc k = f.doc k)) ∧ g.channels = f.channels := by
  intro f1 g fails goes
  have hdoc (j : Nat) : f1.doc j = f.doc j := Filing.boxPosted_doc
  have hid (j : Nat) : f1.docId j = f.docId j := by rw [Filing.docId, hdoc, ← Filing.docId]
  have hbind (r : Nat) : f1.binding r = f.binding r := Filing.binding_congr Filing.boxPosted_frame.2.1 r
  have hfails (x : Binding) : f1.wallFails x = true ↔ fails x := by
    rw [(Filing.sameTerms_recheck (f := f1) fun _ => true).wallFails x, hdoc]
    exact Iff.rfl
  have hafter {r : Nat} (hr : r < 8) : g.binding r = (f.binding r).filter (fun x => !f1.wallFails x) :=
    (f1.recheck_binding hr).trans (by rw [hbind])
  refine ⟨fun r x hr hx => ⟨fun hf => ?_, fun hf => ?_⟩, fun r hr hx => ?_, fun j hj hg => ?_, ?_⟩
  · rw [hafter hr, hx, Option.filter_some, (hfails x).mpr hf]
    rfl
  · rw [hafter hr, hx, Option.filter_some, Bool.eq_false_iff.mpr (mt (hfails x).mp hf)]
    rfl
  · rw [hafter hr, hx]
    rfl
  · obtain ⟨hfreed, hkept⟩ := Filing.recheck_doc (f := f1) (k := j) (hdoc j ▸ hg) hj Filing.acts_boxPosted
    simp only [hdoc, hid, hbind, hfails] at hfreed hkept
    have hgoes : goes j ↔ (∃ r x, r < 8 ∧ f.binding r = some x ∧ fails x ∧ x.doc = f.docId j) ∧
        (f.doc j).loose ∧ (f1.recheck (fun _ => true)).bound (f.docId j) = false := by
      simp only [goes, Doc.loose, and_assoc]
      exact Iff.rfl
    exact ⟨fun hgo => hfreed (hgoes.mp hgo), fun hgo => hkept (mt hgoes.mpr hgo)⟩
  · show (f1.recheck (fun _ => true)).channels = f.channels
    rw [Filing.recheck_channels]
    exact Filing.boxPosted_frame.2.2

end

/-- Whether or not the walls are checked again, the posted record stands but for usage and OVER. -/
theorem reqSetMailbox_terms {cls : MailClass} {ds : List (List Digit)} (hm : bits (operand ops 0) 16 8 = m)
    (hlt : m < 64) (hstate : bits (operand ops 0) 0 4 < 2) (hgroup : bits (operand ops 0) 24 8 < 16)
    (hcls : classOf (bits (operand ops 0) 4 4) = some cls) (hds : operandDefaults ops = some ds)
    (hopen : m ≠ 0 ∨ bits (operand ops 0) 0 4 = 0) :
    let g := (reqSetMailbox ops f).filing
    let c := g.mailbox m
    c = { postedBox ops cls ds with usage := c.usage, overQuota := c.overQuota } ∧ g.dirty (.mailbox m) = true := by
  intro g c
  obtain ⟨-, hmoved, hkept⟩ := reqSetMailbox_ok (f := f) hm hlt hstate hgroup hcls hds hopen
  set q := postedBox ops cls ds with hq
  have hposted := Filing.boxPosted_mailbox (f := f) (m := m) (b := q)
  by_cases hw : f.wallsMoved m q
  · have hg : g = ((f.boxPosted m q).recheck (fun _ => true)).mark (.mailbox m) := hmoved hw
    have hc : c = ((f.boxPosted m q).recheck (fun _ => true)).mailbox m := by rw [← Filing.mark_mailbox, ← hg]
    refine ⟨?_, by rw [hg, Filing.mark_dirty]⟩
    rw [hc, Filing.sameTerms_recheck (fun _ => true) m, hposted]
  · have hg : g = (f.boxPosted m q).mark (.mailbox m) := hkept hw
    have hc : c = (f.boxPosted m q).mailbox m := by rw [← Filing.mark_mailbox, ← hg]
    refine ⟨?_, by rw [hg, Filing.mark_dirty]⟩
    rw [hc, hposted]

/-! ## SET_ROUTE and CLEAR_ROUTE (R71, R72) -/

theorem Filing.duplicateRoute_none {e : Nat} {kind : MatchKind} {p : List Digit}
    (hno : ∀ x r, x < 128 → x ≠ e → f.route x = some r → ¬ (r.kind = kind ∧ r.pattern = p)) :
    f.duplicateRoute e kind p = none := by
  refine List.find?_eq_none.mpr fun x hx => ?_
  have hlt : x < 128 := mem_numbers_zero.mp hx
  cases hr : f.route x with
  | none => simp
  | some r =>
    simp only [Bool.and_eq_true, bne_iff_ne, ne_eq, beq_iff_eq]
    exact fun ⟨hxe, hsame⟩ => hno x r hlt hxe hr hsame

theorem Filing.duplicateRoute_some {e x : Nat} {r : Route} (hx : x < 128) (hxe : x ≠ e) (hr : f.route x = some r) :
    ∃ y, f.duplicateRoute e r.kind r.pattern = some y := by
  refine Option.isSome_iff_exists.mp (List.find?_isSome.mpr ⟨x, mem_numbers_zero.mpr hx, ?_⟩)
  simp [hr, hxe]

/-- One entry replaced, and nothing else. -/
theorem Filing.route_replaced (e : Nat) (r : Option Route) :
    let g := (f.setRoute e r).mark (.route e)
    g.route e = r ∧ (∀ x, x ≠ e → g.route x = f.route x) ∧ g.boxes.mailboxes = f.boxes.mailboxes ∧
      g.dirty (.route e) = true ∧ g.dir = f.dir ∧ g.ring = f.ring :=
  ⟨Filing.route_setRoute .., fun _ hx => Filing.route_setRoute_ne _ _ hx, rfl, Filing.mark_dirty _ _, rfl, rfl⟩

section
variable {kind : MatchKind} {p : List Digit} (he : (operand ops 0).toNat < 128)
include he

section
variable (hbox : bits (operand ops 1) 16 8 < 64) (hkind : matchKindOf (bits (operand ops 1) 0 8) = some kind)
  (hp : operandPattern ops = some p)
include hbox hkind hp

theorem reqSetRoute_eq : reqSetRoute ops f = match f.duplicateRoute (operand ops 0).toNat kind p with
    | some x => f.refuse .duplicate [argNat x]
    | none => ((f.setRoute (operand ops 0).toNat (some { kind := kind, pattern := p, mailbox := bits (operand ops 1) 16 8 })).mark
        (.route (operand ops 0).toNat)).answer [argNat (operand ops 0).toNat, argNat (bits (operand ops 1) 16 8)] := by
  have hrange : ¬ (Config.routeCount ≤ operandNat ops 0 ∨ Config.mailboxCount ≤ bits (operand ops 1) 16 8) := by
    rw [not_or, not_le, not_le]
    exact ⟨he, hbox⟩
  unfold reqSetRoute
  simp only [hkind, hp]
  rw [if_neg hrange]
  rfl

end

theorem reqClearRoute_eq : reqClearRoute ops f =
    ((f.setRoute (operand ops 0).toNat none).mark (.route (operand ops 0).toNat)).answer [argNat (operand ops 0).toNat] :=
  if_neg (Nat.not_le.mpr he)

end

end

end Sys2Proof.Machine

open Sys2Proof Sys2Proof.Machine

/-- Settles O21: each request as it stands when it is accepted; the terms that its host sets survive the wall re-check,
whose broken bindings and released documents are those of the walls as they then are. -/
theorem boxesAndRoutesAreSet : Obligations.BoxesAndRoutesAreSet := by
  unfold Obligations.BoxesAndRoutesAreSet
  intro ops f
  refine ⟨fun v m => Filing.wallPasses_iff v m, fun m cls ds hm hlt hstate hgroup hcls hds => ?_,
    fun kind p he hbox hkind hp => ?_, fun he => ?_⟩
  · intro b d c
    refine ⟨fun h0 hshut => reqSetMailbox_state hm hlt hstate hgroup hcls hds h0 hshut, fun hopen => ?_⟩
    obtain ⟨hcode, hmoved, hkept⟩ := reqSetMailbox_ok (f := f) hm hlt hstate hgroup hcls hds hopen
    obtain ⟨hc, hdirty⟩ := reqSetMailbox_terms (f := f) hm hlt hstate hgroup hcls hds hopen
    change c = _ at hc
    have hgroupEq : c.group = (postedBox ops cls ds).group := by rw [hc]
    have hexcludesEq : c.excludes = (postedBox ops cls ds).excludes := by rw [hc]
    refine ⟨hcode, ?_, ?_, hgroupEq, hexcludesEq, ?_, ?_, ?_, ?_, hdirty, fun hw => ?_, fun hg hx => ?_⟩
    · rw [hc, postedBox, beq_iff_eq]
    · rw [hc]; rfl
    · rw [hc]; rfl
    · rw [hc]; rfl
    · rw [hc, postedBox, beq_iff_eq]
    · rw [hc]; rfl
    · rw [hgroupEq, hexcludesEq] at hw
      have he : d.filing = ((f.boxPosted m _).recheck (fun _ => true)).mark (.mailbox m) :=
        hmoved (hw.imp Ne.symm Ne.symm)
      rw [he]
      exact Filing.boxPosted_recheck
    · have he : d.filing = (f.boxPosted m _).mark (.mailbox m) :=
        hkept (not_or.mpr ⟨not_not.mpr (hg.symm.trans hgroupEq), not_not.mpr (hx.symm.trans hexcludesEq)⟩)
      have hcbox : c = ((f.boxPosted m _).mark (.mailbox m)).mailbox m := congrArg (fun g => Filing.mailbox g m) he
      rw [hcbox, he]
      exact Filing.boxPosted_kept
  · have heq := reqSetRoute_eq (f := f) he hbox hkind hp
    intro e m d
    have hd : d = reqSetRoute ops f := rfl
    refine ⟨fun x r hx hxe hr hk hpat => ?_, fun hno => ?_⟩
    · obtain ⟨y, hy⟩ := Filing.duplicateRoute_some hx hxe hr
      rw [hk, hpat] at hy
      rw [hd, heq, hy]
      exact ⟨rfl, rfl⟩
    · rw [hd, heq, Filing.duplicateRoute_none hno]
      exact ⟨rfl, rfl, Filing.route_replaced _ _⟩
  · intro e d
    have hd : d = _ := reqClearRoute_eq (f := f) he
    rw [hd]
    exact ⟨rfl, rfl, Filing.route_replaced _ _⟩

end

section
/-! PROOFS. What the recovery walk restores of the records (R184, R185): mailboxes, routes, the policy and the channels, each
by its own step, and what the rest of the walk keeps of them. -/

namespace Sys2Proof.Machine

section
variable {f g h : Filing} {errs : List RecordId} {st : Store} {c e k m : Nat}

/-! ## Records whose words sum to FFFFFFFFh (R166) -/

theorem wordSum_of_checkGood {ws : List Word} (h : checkGood ws = true) : wordSum ws = 0xFFFFFFFF#32 := beq_iff_eq.mp h

theorem wordSum_of_restoreMailbox {ws : List Word} {b : Mailbox} (h : restoreMailbox ws = some b) :
    wordSum ws = 0xFFFFFFFF#32 := by
  unfold restoreMailbox at h
  dsimp only at h
  split at h
  · obtain ⟨hgood, -⟩ := Option.ite_none_right_eq_some.mp h
    simp only [Bool.and_eq_true] at hgood
    obtain ⟨⟨⟨hsum, -⟩, -⟩, -⟩ := hgood
    exact wordSum_of_checkGood hsum
  · cases h

theorem wordSum_of_restoreRoute {ws : List Word} {r : Option Route} (h : restoreRoute ws = some r) :
    wordSum ws = 0xFFFFFFFF#32 := by
  unfold restoreRoute at h
  by_cases hgood : checkGood ws = true
  · exact wordSum_of_checkGood hgood
  · simp [hgood] at h

theorem wordSum_of_restoreDoc {ws : List Word} {d : Doc} (h : restoreDoc ws = some d) :
    wordSum ws = 0xFFFFFFFF#32 := by
  unfold restoreDoc at h
  dsimp only at h
  split at h
  · split at h
    · obtain ⟨hgood, -⟩ := Option.ite_none_right_eq_some.mp h
      simp only [Bool.and_eq_true] at hgood
      obtain ⟨⟨⟨⟨hsum, -⟩, -⟩, -⟩, -⟩ := hgood
      exact wordSum_of_checkGood hsum
    · cases h
  · cases h

/-- Bits 7 and 9 to 31 of the mask word are zero where it shows maskable bits alone (log entry 29). -/
theorem maskWord_iff (w : Word) :
    w = ((w.setWidth 10 : BitVec 10) &&& maskableBits).setWidth 32 ↔ w &&& 0xFFFFFE80#32 = 0 := by
  have hmask : ((w.setWidth 10 : BitVec 10) &&& maskableBits).setWidth 32 = w &&& 0x17F#32 := by
    ext i hi
    simp only [maskableBits, BitVec.getElem_setWidth, BitVec.getLsbD_and, BitVec.getLsbD_setWidth, BitVec.getElem_and]
    interval_cases i <;> simp
  rw [hmask]
  constructor
  · intro hw
    rw [hw, BitVec.and_assoc]
    simp
  · intro hw
    have hall : 0x17F#32 ||| 0xFFFFFE80#32 = BitVec.allOnes 32 := by decide
    calc w = w &&& (0x17F#32 ||| 0xFFFFFE80#32) := by rw [hall, BitVec.and_allOnes]
      _ = (w &&& 0x17F#32) ||| (w &&& 0xFFFFFE80#32) := BitVec.and_or_distrib_left
      _ = w &&& 0x17F#32 := by rw [hw]; exact BitVec.or_zero

/-- The policy record's test, and the policy it gives (R178). -/
theorem restorePolicy_eq (blocks : Nat) (ws : List Word) :
    let good : Prop := wordSum ws = 0xFFFFFFFF#32 ∧ (wordAt ws 1).toNat < 2 ∧
      wordAt ws 2 &&& 0xFFFFFE80#32 = 0 ∧ 10 ≤ (wordAt ws 3).toNat ∧ (wordAt ws 3).toNat ≤ 3600
    (good → restorePolicy blocks ws = some
      { floor := min (wordAt ws 0).toNat (blocks - 128), lockout := decide (wordAt ws 1 = 1),
        masks := (wordAt ws 2).setWidth 10, retryBase := (wordAt ws 3).toNat }) ∧
    (¬ good → restorePolicy blocks ws = none) := by
  intro good
  have htest : (checkGood ws && decide ((wordAt ws 1).toNat < 2) &&
      decide ((wordAt ws 2) = (((wordAt ws 2).setWidth 10 : BitVec 10) &&& maskableBits).setWidth 32) &&
      decide (10 ≤ (wordAt ws 3).toNat) && decide ((wordAt ws 3).toNat ≤ 3600)) = true ↔ good := by
    simp only [Bool.and_eq_true, decide_eq_true_eq, maskWord_iff, checkGood, beq_iff_eq, and_assoc, good]
  unfold restorePolicy
  dsimp only
  exact ⟨fun hg => if_pos (htest.mpr hg), fun hg => if_neg (mt htest.mp hg)⟩

/-! ## Words read, or a data error -/

theorem Store.recordWords_bind_some {α : Type} {r : RecordId} {a n : Nat} {read : List Word → Option α} {x : α} :
    (st.recordWords errs r a n).bind read = some x ↔ r ∉ errs ∧ read (st.page.readWords a n) = some x := by
  unfold Store.recordWords
  split_ifs with hr <;> simp [hr]

theorem Store.recordWords_bind_none {α : Type} {r : RecordId} {a n : Nat} {read : List Word → Option α} :
    (st.recordWords errs r a n).bind read = none ↔ r ∈ errs ∨ read (st.page.readWords a n) = none := by
  unfold Store.recordWords
  split_ifs with hr <;> simp [hr]

/-- Mailbox record m as its words show it; none where it is torn. -/
def Store.shownMailbox (errs : List RecordId) (st : Store) (m : Nat) : Option Mailbox :=
  (st.recordWords errs (.mailbox m) (Config.mailboxBase + 0x40 * m) 16).bind restoreMailbox

/-- Routing entry e as its words show it; none where it is torn. -/
def Store.shownRoute (errs : List RecordId) (st : Store) (e : Nat) : Option (Option Route) :=
  (st.recordWords errs (.route e) (Config.routeBase + 0x10 * e) 4).bind restoreRoute

/-- The policy as its record shows it; none where it is torn. -/
def Store.shownPolicy (errs : List RecordId) (st : Store) (blocks : Nat) : Option Policy :=
  (st.recordWords errs .policy Config.policyBase 16).bind (restorePolicy blocks)

/-- Mailbox m as the walk restores it: mailbox 0 is never CLOSED. -/
def Store.restoredMailbox (errs : List RecordId) (st : Store) (m : Nat) : Mailbox :=
  match st.shownMailbox errs m with
  | some b => { b with shut := b.shut && m != 0 }
  | none => Mailbox.fresh

theorem Store.restoredMailbox_of_some {b : Mailbox} (h : st.shownMailbox errs m = some b) :
    st.restoredMailbox errs m = { b with shut := b.shut && decide (m ≠ 0) } := by
  rw [Store.restoredMailbox, h]
  cases m <;> rfl

theorem Store.restoredMailbox_of_none (h : st.shownMailbox errs m = none) :
    st.restoredMailbox errs m = Mailbox.fresh := by
  rw [Store.restoredMailbox, h]

theorem Store.restoredDoc_of_some {d : Doc} (h : st.shownDoc errs k = some d) : st.restoredDoc errs k = d := by
  rw [Store.restoredDoc, h, Option.getD_some]

theorem Store.restoredDoc_of_none (h : st.shownDoc errs k = none) :
    st.restoredDoc errs k = Doc.freed (tornGeneration (st.docWords k)) := by
  rw [Store.restoredDoc, h, Option.getD_none]

/-- Channel c as the walk restores it. -/
def Store.restoredChannel (errs : List RecordId) (st : Store) (c : Nat) : Channel :=
  match st.recordWords errs (.channel c) (Config.channelBase + 0x100 * (c - 1) + 128) 16 with
  | some ws => restoreChannel ws
  | none => Channel.fresh

/-! ## What each step leaves -/

/-- TORN is latched. -/
def Filing.tornLatched (f : Filing) : Prop := f.monitors.latches.getLsbD 9 = true

section
variable (r : RecordId) (d : Option Nat)

theorem Filing.latchTorn_boxes : (f.latchTorn r d).boxes = f.boxes := by rw [Filing.latchTorn, Filing.latch_boxes]

theorem Filing.latchTorn_policy : (f.latchTorn r d).monitors.policy = f.monitors.policy := by
  rw [Filing.latchTorn, Filing.latch_policy]

theorem Filing.latchTorn_dirty {q : RecordId} (hq : f.dirty q = true) : (f.latchTorn r d).dirty q = true :=
  Filing.acts.dirty (K := fun _ => True)
    (f := { f with boot := { f.boot with tornCount := f.boot.tornCount + 1 } })
    (Filing.acts.latch .refl _ trivial fun _ => trivial) hq

end

theorem Filing.restoreDocAt_rest (errs : List RecordId) (st : Store) (k : Nat) (f : Filing) :
    (f.restoreDocAt errs st k).boxes = f.boxes := by
  rcases f.restoreDocAt_eq errs st k with e | ⟨d, e⟩ <;> rw [e]
  · rfl
  · rw [Filing.latchTorn_boxes]
    rfl

theorem Filing.restoreDocAt_torn (hk : st.shownDoc errs k = none) (f : Filing) :
    (f.restoreDocAt errs st k).tornLatched := by
  rw [Store.shownDoc] at hk
  unfold Filing.restoreDocAt
  rw [hk]
  exact Filing.latchTorn_torn _ _

theorem Filing.restorePageAt_rest (errs : List RecordId) (st : Store) (p : Nat) (f : Filing) :
    (f.restorePageAt errs st p).boxes = f.boxes := by
  cases hp : st.shownPage errs p with
  | none =>
    obtain ⟨d, e⟩ := f.restorePageAt_of_none hp
    rw [e, Filing.latchTorn_boxes]
  | some g =>
    rw [Filing.restorePageAt_of_some hp]
    split_ifs <;> rfl

/-- g is f with mailbox record m restored. -/
structure Filing.mailboxRestored (errs : List RecordId) (st : Store) (m : Nat) (f g : Filing) : Prop where
  routes : g.boxes.routes = f.boxes.routes
  other : ∀ x, x ≠ m → g.mailbox x = f.mailbox x
  self : f.mailbox m = Mailbox.fresh → g.mailbox m = st.restoredMailbox errs m
  torn : st.shownMailbox errs m = none → g.tornLatched

theorem Filing.restoreMailboxAt_restored (errs : List RecordId) (st : Store) (m : Nat) (f : Filing) :
    f.mailboxRestored errs st m (f.restoreMailboxAt errs st m) := by
  cases hm : st.shownMailbox errs m with
  | none =>
    have hstep : f.restoreMailboxAt errs st m = f.latchTorn (.mailbox m) none := by
      rw [Store.shownMailbox] at hm
      rw [Filing.restoreMailboxAt, hm]
    have hbox (x : Nat) : (f.latchTorn (.mailbox m) none).mailbox x = f.mailbox x := by
      rw [Filing.mailbox, Filing.latchTorn_boxes, ← Filing.mailbox]
    rw [hstep]
    refine ⟨by rw [Filing.latchTorn_boxes], fun x _ => hbox x, fun hf => ?_, fun _ => Filing.latchTorn_torn _ _⟩
    rw [hbox, hf, Store.restoredMailbox_of_none hm]
  | some b =>
    have hstep : f.restoreMailboxAt errs st m = f.setBox m (st.restoredMailbox errs m) := by
      rw [Store.restoredMailbox, hm]
      rw [Store.shownMailbox] at hm
      rw [Filing.restoreMailboxAt, hm]
    rw [hstep]
    exact ⟨rfl, fun x hx => Filing.mailbox_setBox_ne _ _ hx, fun _ => Filing.mailbox_setBox ..,
      fun hno => nomatch hm.symm.trans hno⟩

theorem Filing.restoreRouteAt_mailboxes (errs : List RecordId) (st : Store) (e : Nat) (f : Filing) :
    (f.restoreRouteAt errs st e).boxes.mailboxes = f.boxes.mailboxes := by
  unfold Filing.restoreRouteAt
  split
  · split_ifs <;> rfl
  · rfl
  · rw [Filing.latchTorn_boxes]

/-- The policy record restored. -/
theorem Filing.restorePolicyAt_spec (errs : List RecordId) (st : Store) (f : Filing) :
    (f.restorePolicyAt errs st).boxes = f.boxes ∧
    (f.restorePolicyAt errs st).monitors.policy = (st.shownPolicy errs f.blockCount).getD Policy.fresh ∧
    (st.shownPolicy errs f.blockCount = none → (f.restorePolicyAt errs st).tornLatched) ∧
    (∀ q, f.dirty q = true → (f.restorePolicyAt errs st).dirty q = true) := by
  unfold Filing.restorePolicyAt
  rw [← Store.shownPolicy]
  cases st.shownPolicy errs f.blockCount with
  | none =>
    refine ⟨?_, ?_, fun _ => Filing.latchTorn_torn _ _, fun q hq => Filing.latchTorn_dirty _ _ hq⟩
    · rw [Filing.latchTorn_boxes]
    · rw [Filing.latchTorn_policy]
      rfl
  | some p => exact ⟨rfl, rfl, nofun, fun _ hq => hq⟩

theorem Filing.restoreChannelAt_eq (errs : List RecordId) (st : Store) (c : Nat) (f : Filing) :
    f.restoreChannelAt errs st c = f.setChan c (st.restoredChannel errs c) := by
  unfold Filing.restoreChannelAt Store.restoredChannel
  cases st.recordWords errs (.channel c) (Config.channelBase + 0x100 * (c - 1) + 128) 16 with
  | none => rfl
  | some ws => rfl

/-! ## Steps that each restore a place of their own -/

theorem foldl_keeps_place {α : Type} {get : Filing → Nat → α} {op : Filing → Nat → Filing}
    (hne : ∀ x i j, j ≠ i → get (op x i) j = get x j) {l : List Nat} {j : Nat} (hj : j ∉ l) (f : Filing) :
    get (l.foldl op f) j = get f j := by
  induction l generalizing f with
  | nil => rfl
  | cons i l ih =>
    obtain ⟨hji, hjl⟩ := not_or.mp (mt List.mem_cons.mpr hj)
    rw [List.foldl_cons, ih hjl, hne f i j hji]

/-- Every place of a list gets its value, from one value that all have at first, and what its step latches stays. -/
theorem foldl_restores {α : Type} {get : Filing → Nat → α} {init : α} {val : Nat → α} {torn : Nat → Prop}
    {op : Filing → Nat → Filing} (hne : ∀ x i j, j ≠ i → get (op x i) j = get x j)
    (hself : ∀ x i, get x i = init → get (op x i) i = val i ∧ (torn i → (op x i).tornLatched))
    (hon : ∀ (x : Filing) i, x.walksOn (op x i)) {l : List Nat} (hl : l.Nodup) (hf : ∀ i ∈ l, get f i = init) :
    ∀ i ∈ l, get (l.foldl op f) i = val i ∧ (torn i → (l.foldl op f).tornLatched) := by
  induction l generalizing f with
  | nil => exact fun _ hi => absurd hi List.not_mem_nil
  | cons i l ih =>
    obtain ⟨hil, hl⟩ := List.nodup_cons.mp hl
    obtain ⟨hval, htorn⟩ := hself f i (hf i List.mem_cons_self)
    intro j hj
    rw [List.foldl_cons]
    rcases List.mem_cons.mp hj with rfl | hj
    · exact ⟨(foldl_keeps_place hne hil _).trans hval,
        fun ht => ((Filing.walksOn_refl _).foldl l hon).torn (htorn ht)⟩
    · refine ih hl (fun x hx => ?_) j hj
      rw [hne f i x fun he => hil (he ▸ hx)]
      exact hf x (List.mem_cons_of_mem _ hx)

/-! ## Routing entries, of which a lower one comes first (R79) -/

/-- An entry below e holds the kind and the pattern of r. -/
def Filing.twin (e : Nat) (r : Route) (f : Filing) : Prop :=
  ∃ x q, x < e ∧ f.route x = some q ∧ q.kind = r.kind ∧ q.pattern = r.pattern

/-- Routing entry e is as its words show it. -/
structure Filing.routeRestored (errs : List RecordId) (st : Store) (e : Nat) (f : Filing) : Prop where
  empty : st.shownRoute errs e = some none → f.route e = none
  full : ∀ r, st.shownRoute errs e = some (some r) → (f.twin e r → f.route e = none ∧ f.dirty (.route e) = true) ∧
    (¬ f.twin e r → f.route e = some r)
  torn : st.shownRoute errs e = none → f.route e = none ∧ f.tornLatched

theorem Filing.twin_congr {r : Route} (hr : ∀ x, x < e → g.route x = f.route x) : g.twin e r ↔ f.twin e r := by
  constructor
  · rintro ⟨x, q, hx, hq, hsame⟩
    exact ⟨x, q, hx, (hr x hx) ▸ hq, hsame⟩
  · rintro ⟨x, q, hx, hq, hsame⟩
    exact ⟨x, q, hx, (hr x hx).symm ▸ hq, hsame⟩

theorem Filing.routeRestored.further (a : f.routeRestored errs st e) (hr : ∀ x, x ≤ e → g.route x = f.route x)
    (hd : f.dirty (.route e) = true → g.dirty (.route e) = true) (ht : f.tornLatched → g.tornLatched) :
    g.routeRestored errs st e where
  empty hs := (hr e le_rfl).trans (a.empty hs)
  full r hs := by
    rw [hr e le_rfl, Filing.twin_congr fun x hx => hr x hx.le]
    exact ⟨fun htwin => ⟨((a.full r hs).1 htwin).1, hd ((a.full r hs).1 htwin).2⟩, (a.full r hs).2⟩
  torn hs := ⟨(hr e le_rfl).trans (a.torn hs).1, ht (a.torn hs).2⟩

/-- With no entry above e, another entry of a kind and pattern is a lower one. -/
theorem Filing.duplicateRoute_iff_twin (he : e < 128) (hno : ∀ x, e < x → f.route x = none) (r : Route) :
    (f.duplicateRoute e r.kind r.pattern).isSome = true ↔ f.twin e r := by
  rw [Filing.duplicateRoute, List.find?_isSome]
  constructor
  · rintro ⟨x, -, hx⟩
    rw [Bool.and_eq_true, bne_iff_ne] at hx
    obtain ⟨hxe, hx⟩ := hx
    split at hx
    · rename_i q hq
      rw [Bool.and_eq_true, beq_iff_eq, beq_iff_eq] at hx
      refine ⟨x, q, ?_, hq, hx⟩
      rcases Nat.lt_or_gt_of_ne hxe with hlt | hgt
      · exact hlt
      · rw [hno x hgt] at hq
        cases hq
    · cases hx
  · rintro ⟨x, q, hx, hq, hk, hp⟩
    refine ⟨x, mem_numbers_zero.mpr (Nat.lt_trans hx he), ?_⟩
    simp [hq, hk, hp, Nat.ne_of_lt hx]

theorem Filing.restoreRouteAt_ne {x : Nat} (hx : x ≠ e) (f : Filing) :
    (f.restoreRouteAt errs st e).route x = f.route x := by
  unfold Filing.restoreRouteAt
  split
  · split_ifs
    · rfl
    · exact Filing.route_setRoute_ne _ _ hx
  · rfl
  · rw [Filing.route, Filing.latchTorn_boxes, ← Filing.route]

theorem Filing.restoreRouteAt_dirty {q : RecordId} (hq : f.dirty q = true) :
    (f.restoreRouteAt errs st e).dirty q = true := by
  unfold Filing.restoreRouteAt
  split
  · split_ifs
    · exact Filing.mark_dirty_of_dirty hq
    · exact hq
  · exact hq
  · exact Filing.latchTorn_dirty _ _ hq

/-- Entry e restored where no entry from e on is set. -/
theorem Filing.restoreRouteAt_restored (he : e < 128) (hno : ∀ x, e ≤ x → f.route x = none) :
    (f.restoreRouteAt errs st e).routeRestored errs st e := by
  have htwin (r : Route) : (f.restoreRouteAt errs st e).twin e r ↔
      (f.duplicateRoute e r.kind r.pattern).isSome = true := by
    rw [Filing.duplicateRoute_iff_twin he fun x hx => hno x hx.le]
    exact Filing.twin_congr fun x hx => Filing.restoreRouteAt_ne (Nat.ne_of_lt hx) f
  have hstep : f.restoreRouteAt errs st e = match st.shownRoute errs e with
    | some (some r) => if (f.duplicateRoute e r.kind r.pattern).isSome then f.mark (.route e) else f.setRoute e (some r)
    | some none => f
    | none => f.latchTorn (.route e) none := rfl
  refine ⟨fun hs => ?_, fun r hs => ?_, fun hs => ?_⟩
  · rw [hstep, hs]
    exact hno e le_rfl
  · rw [htwin, hstep, hs]
    dsimp only
    refine ⟨fun hdup => ?_, fun hdup => ?_⟩
    · rw [if_pos hdup]
      exact ⟨hno e le_rfl, Filing.mark_dirty _ _⟩
    · rw [if_neg hdup]
      exact Filing.route_setRoute ..
  · rw [hstep, hs]
    refine ⟨?_, Filing.latchTorn_torn _ _⟩
    rw [Filing.route, Filing.latchTorn_boxes, ← Filing.route]
    exact hno e le_rfl

theorem numbers_rising (a n : Nat) : (numbers a n).Pairwise (· < ·) :=
  List.pairwise_map.mpr (List.pairwise_lt_range.imp fun hlt => Nat.add_lt_add_left hlt a)

/-- The routing entries restored one after the other, from an empty table. -/
theorem Filing.restoreRoutes_spec (errs : List RecordId) (st : Store) (hf : ∀ x, f.route x = none) : ∀ e, e < 128 →
    ((numbers 0 Config.routeCount).foldl (fun f e => f.restoreRouteAt errs st e) f).routeRestored errs st e := by
  have hlt {e : Nat} (he : e ∈ numbers 0 Config.routeCount) : e < 128 := mem_numbers_zero.mp he
  have hrise := numbers_rising 0 Config.routeCount
  have hfold := foldl_snoc (l := numbers 0 Config.routeCount) (b := f) (op := fun f e => f.restoreRouteAt errs st e)
    (R := fun done (y : Filing) => (∀ e ∈ done, y.routeRestored errs st e) ∧ ∀ e, e ∉ done → y.route e = none)
    ⟨fun _ he => absurd he List.not_mem_nil, fun e _ => hf e⟩ ?_
  · exact fun e he => hfold.1 e (mem_numbers_zero.mpr he)
  rintro done e rest y hsplit ⟨hdone, hno⟩
  rw [hsplit] at hrise
  obtain ⟨-, htail, hbefore⟩ := List.pairwise_append.mp hrise
  have he : e < 128 := hlt (hsplit ▸ List.mem_append_right _ List.mem_cons_self)
  refine ⟨fun x hx => ?_, fun x hx => ?_⟩
  · rcases List.mem_append.mp hx with hx | hx
    · have hxe : x < e := hbefore x hx e List.mem_cons_self
      exact (hdone x hx).further (fun i hi => Filing.restoreRouteAt_ne (Nat.ne_of_lt (Nat.lt_of_le_of_lt hi hxe)) y)
        Filing.restoreRouteAt_dirty (Filing.restoreRouteAt_walksOn e).1.torn
    · obtain rfl := List.mem_singleton.mp hx
      refine Filing.restoreRouteAt_restored he fun i hi => hno i fun hmem => ?_
      exact absurd (hbefore i hmem x List.mem_cons_self) (Nat.not_lt.mpr hi)
  · obtain ⟨hxd, hxe⟩ := not_or.mp (mt List.mem_append.mpr hx)
    rw [Filing.restoreRouteAt_ne fun h => hxe (List.mem_singleton.mpr h)]
    exact hno x hxd

/-! ## All records restored -/

/-- The records but for the directory's are as their words show them, and TORN is latched for each that is torn. -/
structure Filing.recordsBack (errs : List RecordId) (st : Store) (blocks : Nat) (f : Filing) : Prop where
  policy : f.monitors.policy = (st.shownPolicy errs blocks).getD Policy.fresh
  policyTorn : st.shownPolicy errs blocks = none → f.tornLatched
  mailbox : ∀ m, m < 64 → f.mailbox m = st.restoredMailbox errs m
  mailboxTorn : ∀ m, m < 64 → st.shownMailbox errs m = none → f.tornLatched
  route : ∀ e, e < 128 → f.routeRestored errs st e
  docTorn : ∀ k, k < 1024 → st.shownDoc errs k = none → f.tornLatched
  channel : ∀ c, 1 ≤ c → c ≤ 24 → f.chan c = st.restoredChannel errs c

theorem Filing.recordsBack.further {n : Nat} (a : f.recordsBack errs st n) (hb : g.boxes = f.boxes)
    (hc : g.channels = f.channels) (hm : g.monitors = f.monitors) (hd : ∀ r, f.dirty r = true → g.dirty r = true) :
    g.recordsBack errs st n := by
  have htorn : f.tornLatched → g.tornLatched := by rw [Filing.tornLatched, Filing.tornLatched, hm]; exact id
  have hroute (x : Nat) : g.route x = f.route x := by rw [Filing.route, hb, ← Filing.route]
  refine ⟨by rw [hm]; exact a.policy, fun h => htorn (a.policyTorn h), fun m hlt => ?_,
    fun m hlt h => htorn (a.mailboxTorn m hlt h), fun e he => (a.route e he).further (fun x _ => hroute x) (hd _) htorn,
    fun k hk h => htorn (a.docTorn k hk h), fun c h1 h2 => ?_⟩
  · rw [Filing.mailbox, hb, ← Filing.mailbox, a.mailbox m hlt]
  · rw [Filing.chan, hc, ← Filing.chan, a.channel c h1 h2]

/-- The tables with the document and page records restored. -/
def Filing.directoryBack (errs : List RecordId) (st : Store) (f : Filing) : Filing :=
  (numbers 0 Config.pageRecords).foldl (fun f p => f.restorePageAt errs st p)
    ((numbers 0 Config.docSlots).foldl (fun f s => f.restoreDocAt errs st s) f.emptyTables)

/-- The tables with the mailbox and routing records restored. -/
def Filing.boxesBack (errs : List RecordId) (st : Store) (f : Filing) : Filing :=
  (numbers 0 Config.routeCount).foldl (fun f e => f.restoreRouteAt errs st e)
    ((numbers 0 Config.mailboxCount).foldl (fun f m => f.restoreMailboxAt errs st m) f)

/-- The tables with the channel records restored. -/
def Filing.channelsBack (errs : List RecordId) (st : Store) (f : Filing) : Filing :=
  channelNumbers.foldl (fun f c => f.restoreChannelAt errs st c) f

theorem Filing.restoreRecords_eq (errs : List RecordId) (st : Store) (f : Filing) : f.restoreRecords errs st =
    (((f.directoryBack errs st).boxesBack errs st).restorePolicyAt errs st).channelsBack errs st := by
  unfold Filing.restoreRecords Filing.directoryBack Filing.boxesBack Filing.channelsBack
  with_reducible rfl

theorem Filing.directoryBack_spec (errs : List RecordId) (st : Store) (f : Filing) :
    f.walksOn (f.directoryBack errs st) ∧ (f.directoryBack errs st).boxes = { mailboxes := [], routes := [] } ∧
      ∀ k, k < 1024 → st.shownDoc errs k = none → (f.directoryBack errs st).tornLatched := by
  have hempty : f.walksOn f.emptyTables := f.walksOn_refl.of_eq rfl rfl
  have hdocs := foldl_restores (f := f.emptyTables) (get := fun _ _ => ()) (init := ()) (val := fun _ => ())
    (torn := fun k => st.shownDoc errs k = none) (op := fun f s => f.restoreDocAt errs st s) (fun _ _ _ _ => rfl)
    (fun x _ _ => ⟨rfl, fun hk => Filing.restoreDocAt_torn hk x⟩) (fun x i => x.restoreDocAt_walksOn errs st i)
    (numbers_nodup 0 Config.docSlots) fun _ _ => rfl
  have hon := hempty.foldl (op := fun f s => f.restoreDocAt errs st s) (numbers 0 Config.docSlots)
    fun x i => x.restoreDocAt_walksOn errs st i
  have hboxes := foldl_keeps (fun f : Filing => f.boxes) (fun f s => f.restoreDocAt errs st s)
    (numbers 0 Config.docSlots) f.emptyTables fun x i => x.restoreDocAt_rest errs st i
  rw [Filing.directoryBack]
  generalize (numbers 0 Config.docSlots).foldl (fun f s => f.restoreDocAt errs st s) f.emptyTables = g at *
  have hpages := g.walksOn_refl.foldl (op := fun f p => f.restorePageAt errs st p) (numbers 0 Config.pageRecords)
    fun x i => x.restorePageAt_walksOn errs st i
  refine ⟨hon.trans hpages, ?_, fun k hk ht => hpages.torn ((hdocs k (mem_numbers_zero.mpr hk)).2 ht)⟩
  exact (foldl_keeps (fun f : Filing => f.boxes) _ _ _ fun x i => x.restorePageAt_rest errs st i).trans hboxes

theorem Filing.boxesBack_spec (errs : List RecordId) (st : Store) (hf : f.boxes = { mailboxes := [], routes := [] }) :
    let g := f.boxesBack errs st
    f.walksOn g ∧ (∀ m, m < 64 → g.mailbox m = st.restoredMailbox errs m) ∧
      (∀ m, m < 64 → st.shownMailbox errs m = none → g.tornLatched) ∧ ∀ e, e < 128 → g.routeRestored errs st e := by
  intro g
  have hbox (m : Nat) : f.mailbox m = Mailbox.fresh := by rw [Filing.mailbox, hf]; rfl
  have hstep (x : Filing) (m : Nat) := x.restoreMailboxAt_restored errs st m
  have hmail := foldl_restores (f := f) (get := fun f m => f.mailbox m) (init := Mailbox.fresh)
    (val := st.restoredMailbox errs) (torn := fun m => st.shownMailbox errs m = none)
    (op := fun f m => f.restoreMailboxAt errs st m) (fun x m j hj => (hstep x m).other j hj)
    (fun x m hm => ⟨(hstep x m).self hm, (hstep x m).torn⟩)
    (fun x m => (Filing.restoreMailboxAt_walksOn (f := x) m).1) (numbers_nodup 0 Config.mailboxCount) fun m _ => hbox m
  have hon := f.walksOn_refl.foldl (op := fun f m => f.restoreMailboxAt errs st m) (numbers 0 Config.mailboxCount)
    fun x m => (Filing.restoreMailboxAt_walksOn (f := x) m).1
  have hroutes := foldl_keeps (fun f : Filing => f.boxes.routes) (fun f m => f.restoreMailboxAt errs st m)
    (numbers 0 Config.mailboxCount) f fun x m => (hstep x m).routes
  have hg : g = (numbers 0 Config.routeCount).foldl (fun f e => f.restoreRouteAt errs st e)
    ((numbers 0 Config.mailboxCount).foldl (fun f m => f.restoreMailboxAt errs st m) f) := rfl
  clear_value g
  generalize (numbers 0 Config.mailboxCount).foldl (fun f m => f.restoreMailboxAt errs st m) f = y at *
  have hnone (x : Nat) : y.route x = none := by rw [Filing.route, hroutes, hf]; rfl
  have hlater := y.walksOn_refl.foldl (op := fun f e => f.restoreRouteAt errs st e) (numbers 0 Config.routeCount)
    fun x e => (Filing.restoreRouteAt_walksOn (f := x) e).1
  have hboxes := foldl_keeps (fun f : Filing => f.boxes.mailboxes) (fun f e => f.restoreRouteAt errs st e)
    (numbers 0 Config.routeCount) y fun x e => x.restoreRouteAt_mailboxes errs st e
  have hroute := Filing.restoreRoutes_spec errs st hnone
  rw [← hg] at hlater hboxes hroute
  refine ⟨hon.trans hlater, fun m hm => ?_, fun m hm ht => ?_, hroute⟩
  · rw [Filing.mailbox, hboxes, ← Filing.mailbox]
    exact (hmail m (mem_numbers_zero.mpr hm)).1
  · exact hlater.torn ((hmail m (mem_numbers_zero.mpr hm)).2 ht)

theorem Filing.channelsBack_spec (errs : List RecordId) (st : Store) (f : Filing) :
    let g := f.channelsBack errs st
    g.boxes = f.boxes ∧ g.monitors = f.monitors ∧ g.mirror = f.mirror ∧
      ∀ c, 1 ≤ c → c ≤ 24 → g.chan c = st.restoredChannel errs c := by
  have hstep (x : Filing) (c : Nat) := x.restoreChannelAt_eq errs st c
  refine ⟨?_, ?_, ?_, fun c h1 h24 => ?_⟩
  · exact foldl_keeps (fun f : Filing => f.boxes) _ _ _ fun x c => by rw [hstep]; rfl
  · exact foldl_keeps (fun f : Filing => f.monitors) _ _ _ fun x c => by rw [hstep]; rfl
  · exact foldl_keeps (fun f : Filing => f.mirror) _ _ _ fun x c => by rw [hstep]; rfl
  · refine foldl_snoc (op := fun f c => f.restoreChannelAt errs st c) (l := channelNumbers)
      (R := fun done (y : Filing) => ∀ c ∈ done, y.chan c = st.restoredChannel errs c)
      (fun _ hc => absurd hc List.not_mem_nil) (fun done x rest y _ hy c hc => ?_) c ((mem_channelNumbers c).mpr ⟨h1, h24⟩)
    rw [hstep]
    by_cases hcx : c = x
    · subst hcx
      exact Filing.chan_setChan ..
    · rw [Filing.chan_setChan_ne _ _ hcx]
      exact hy c ((List.mem_append.mp hc).resolve_right fun hmem => hcx (List.mem_singleton.mp hmem))

theorem Filing.restoreRecords_back (errs : List RecordId) (st : Store) (f : Filing) :
    (f.restoreRecords errs st).recordsBack errs st f.blockCount := by
  obtain ⟨hdir, hempty, hdocs⟩ := f.directoryBack_spec errs st
  obtain ⟨hbox, hmail, hmailTorn, hroute⟩ := Filing.boxesBack_spec errs st hempty
  rw [Filing.restoreRecords_eq]
  set y := (f.directoryBack errs st).boxesBack errs st with hy
  have hcount : y.blockCount = f.blockCount := by
    rw [Filing.blockCount, (hdir.trans hbox).boot, Filing.blockCount]
  have hon := (Filing.restorePolicyAt_walksOn (f := y) (errs := errs) (st := st)).1
  obtain ⟨hboxes, hpolicy, hpolicyTorn, hdirty⟩ := y.restorePolicyAt_spec errs st
  rw [hcount] at hpolicy hpolicyTorn
  set z := y.restorePolicyAt errs st with hz
  obtain ⟨hboxes', hmon, hmirror, hchan⟩ := z.channelsBack_spec errs st
  have hlater : y.tornLatched → (z.channelsBack errs st).tornLatched := fun ht => by
    rw [Filing.tornLatched, hmon]
    exact hon.torn ht
  have hroutes (x : Nat) : (z.channelsBack errs st).route x = y.route x := by
    rw [Filing.route, hboxes', hboxes, ← Filing.route]
  refine ⟨by rw [hmon, hpolicy], fun ht => ?_, fun m hm => ?_, fun m hm ht => hlater (hmailTorn m hm ht), fun e he => ?_,
    fun k hk ht => hlater (hbox.torn (hdocs k hk ht)), hchan⟩
  · rw [Filing.tornLatched, hmon]
    exact hpolicyTorn ht
  · rw [Filing.mailbox, hboxes', hboxes, ← Filing.mailbox, hmail m hm]
  · refine (hroute e he).further (fun x _ => hroutes x) (fun hd => ?_) hlater
    rw [Filing.dirty_congr hmirror]
    exact hdirty _ hd

/-! ## What the rest of the walk keeps -/

/-- From f to g neither boxes nor channels nor mirror bookkeeping change. -/
structure Filing.keepsRecords (f g : Filing) : Prop where
  boxes : g.boxes = f.boxes
  channels : g.channels = f.channels
  mirror : g.mirror = f.mirror

theorem Filing.keepsRecords.trans (a : f.keepsRecords g) (b : g.keepsRecords h) : f.keepsRecords h :=
  ⟨b.boxes.trans a.boxes, b.channels.trans a.channels, b.mirror.trans a.mirror⟩

theorem Filing.dirOnly.keepsRecords (a : f.dirOnly g) : f.keepsRecords g := by
  rw [Filing.dirOnly] at a
  rw [a]
  exact ⟨rfl, rfl, rfl⟩

theorem Filing.readBlocks_keepsRecords (errs : List RecordId) (st : Store) (f : Filing) :
    f.keepsRecords (f.readBlocks errs st) := by
  unfold Filing.readBlocks
  exact ⟨rfl, rfl, rfl⟩

theorem Filing.takeChain_keepsRecords (ns : List Nat) (p : Nat) (f : Filing) : f.keepsRecords (f.takeChain ns p) := by
  rw [Filing.takeChain, Filing.linkBlocks_eq]
  exact ⟨rfl, rfl, rfl⟩

theorem Filing.walkPage_keepsRecords (x : Filing × List Nat) (p : Nat) :
    x.1.keepsRecords (Filing.walkPage errs st x p).1 := by
  obtain ⟨f, taken⟩ := x
  have htake := f.takeChain_keepsRecords (f.walkedChain errs st taken p) p
  rcases Filing.walkPage_fst (errs := errs) (st := st) taken p f with ⟨-, e⟩ | ⟨-, e⟩ <;> rw [e]
  · exact htake
  · exact htake.trans ⟨rfl, rfl, rfl⟩

theorem Filing.walkChains_keepsRecords (errs : List RecordId) (st : Store) (f : Filing) :
    (f.restoreRecords errs st).keepsRecords (f.walkChains errs st).1 := by
  have hsettled : (f.restoreRecords errs st).keepsRecords (f.walkSettled errs st) :=
    ((Filing.dirOnly_refl _).foldl _ fun x s => x.settlePages_dirOnly _ s).keepsRecords
  have hread : (f.walkSettled errs st).keepsRecords (f.walkRead errs st) := Filing.readBlocks_keepsRecords ..
  unfold Filing.walkChains
  refine (hsettled.trans hread).trans ?_
  exact foldl_snoc (R := fun _ (y : Filing × List Nat) => (f.walkRead errs st).keepsRecords y.1) ⟨rfl, rfl, rfl⟩
    fun _ p _ y _ hy => hy.trans (Filing.walkPage_keepsRecords y p)

theorem Filing.walkChains_monitors (errs : List RecordId) (st : Store) (f : Filing) :
    (f.walkChains errs st).1.monitors = (f.restoreRecords errs st).monitors := by
  have hwalk := (f.walkRead_readFrom errs st).walkChains (f.restoreRecords_restored errs st).sorted
  unfold Filing.walkChains
  exact hwalk.monitors

/-- The rebuild's turn, the records as they are. -/
theorem Filing.recordsBack.toRebuild {n : Nat} (a : f.recordsBack errs st n) (hk : f.keepsRecords g)
    (hm : g.monitors = f.monitors) :
    (({ g with boot := { g.boot with phase := .rebuilding } } : Filing).mark .status).recordsBack errs st n :=
  a.further hk.boxes hk.channels hm fun r hr => Filing.mark_dirty_of_dirty ((Filing.dirty_congr hk.mirror r).trans hr)

theorem Filing.recoveryWalk_back (errs : List RecordId) (st : Store) (f : Filing) :
    (f.recoveryWalk errs st).recordsBack errs st f.blockCount := by
  rw [Filing.recoveryWalk_eq]
  exact (f.restoreRecords_back errs st).toRebuild (f.walkChains_keepsRecords errs st) (f.walkChains_monitors errs st)

/-! ## The documents (R184) -/

/-- Of a document's record its pages decide the page count, the first page and DAMAGED alone. -/
theorem Filing.recoveryWalk_doc (errs : List RecordId) (st : Store) (f : Filing) (hk : k < 1024) :
    let d := (f.recoveryWalk errs st).doc k
    d = { st.restoredDoc errs k with pageCount := d.pageCount, firstPage := d.firstPage, damaged := d.damaged } ∧
      ((st.restoredDoc errs k).state = .free → d = st.restoredDoc errs k) := by
  intro d
  have hd : d = (f.restoreRecords errs st).settledDoc (f.restoreRecords errs st).dir.pages k :=
    (f.recoveryWalk_walkedFrom errs st).doc k hk
  have hr : (f.restoreRecords errs st).doc k = st.restoredDoc errs k :=
    ((f.restoreRecords_restored errs st).doc k).trans (if_pos hk)
  rw [Filing.settledDoc, hr] at hd
  clear_value d
  split_ifs at hd with hfree
  · exact ⟨by rw [hd], fun _ => hd⟩
  · exact ⟨by rw [hd], fun hf => absurd hf hfree⟩

end

end Sys2Proof.Machine

open Sys2Proof Sys2Proof.Machine

/-- Settles O48: each record restored by a step that touches its own place, the routing entries in rising order, and the
settlement of pages and chains that touches the directory and the Block Table alone. -/
theorem walkRestoresTheRecords : Obligations.WalkRestoresTheRecords := by
  intro s errs h bank
  obtain ⟨hphase, hk⟩ := (State.startsAt_iff s _).mp h
  have hrun := State.startUnit_eq (p := fun p => p == .walking) (act := fun s : State =>
    { s with filing := s.filing.recoveryWalk errs s.store }) (by rw [hphase]; rfl) hk
  refine ⟨_, hrun, ?_⟩
  rw [State.granted_filing, State.granted_store]
  have hback := s.filing.recoveryWalk_back errs s.store
  have hdoc (k : Nat) (hk : k < 1024) := s.filing.recoveryWalk_doc errs s.store hk
  have hnext : (s.filing.recoveryWalk errs s.store).boot.phase = .rebuilding := by
    rw [Filing.recoveryWalk_eq]
    rfl
  generalize s.filing.recoveryWalk errs s.store = f at hback hdoc hnext
  refine ⟨rfl, hnext, ?_, fun m hm => ?_, fun e he => ?_, fun k hk => ?_, fun c h1 h24 => ?_⟩
  · intro ws good
    obtain ⟨hgood, hbad⟩ := restorePolicy_eq s.filing.blockCount ws
    refine ⟨fun hg => ?_, fun hg => ?_⟩
    · have hshown := Store.recordWords_bind_some.mpr ⟨hg.1, hgood hg.2⟩
      exact hback.policy.trans (congrArg (fun x => Option.getD x Policy.fresh) hshown)
    · have hshown : s.store.shownPolicy errs s.filing.blockCount = none :=
        Store.recordWords_bind_none.mpr (or_iff_not_imp_left.mpr fun herr => hbad fun hrest => hg ⟨herr, hrest⟩)
      exact ⟨hback.policy.trans (congrArg (fun x => Option.getD x Policy.fresh) hshown), hback.policyTorn hshown⟩
  · intro ws
    refine ⟨fun b herr hb => ⟨wordSum_of_restoreMailbox hb, ?_⟩, fun ht => ?_⟩
    · have hshown : s.store.shownMailbox errs m = some b := Store.recordWords_bind_some.mpr ⟨herr, hb⟩
      rw [hback.mailbox m hm, Store.restoredMailbox_of_some hshown]
    · have hshown : s.store.shownMailbox errs m = none := Store.recordWords_bind_none.mpr ht
      refine ⟨?_, hback.mailboxTorn m hm hshown⟩
      rw [hback.mailbox m hm, Store.restoredMailbox_of_none hshown]
  · intro ws
    have hroute := hback.route e he
    refine ⟨fun herr hr => hroute.empty (Store.recordWords_bind_some.mpr ⟨herr, hr⟩), fun r herr hr => ?_, fun ht => ?_⟩
    · exact ⟨wordSum_of_restoreRoute hr, hroute.full r (Store.recordWords_bind_some.mpr ⟨herr, hr⟩)⟩
    · exact hroute.torn (Store.recordWords_bind_none.mpr ht)
  · intro ws
    obtain ⟨hfields, hfree⟩ := hdoc k hk
    refine ⟨fun d herr hd => ?_, fun ht => ?_⟩
    · have hshown : s.store.shownDoc errs k = some d := Store.recordWords_bind_some.mpr ⟨herr, hd⟩
      rw [Store.restoredDoc_of_some hshown] at hfields hfree
      exact ⟨wordSum_of_restoreDoc hd, hfree, hfields⟩
    · have hnone : s.store.shownDoc errs k = none := Store.recordWords_bind_none.mpr ht
      rw [Store.restoredDoc_of_none hnone] at hfree
      exact ⟨hfree rfl, hback.docTorn k hk hnone⟩
  · intro ws
    rw [hback.channel c h1 h24, Store.restoredChannel, Store.recordWords]
    by_cases herr : RecordId.channel c ∈ errs
    · rw [if_pos herr, if_pos herr]
    · rw [if_neg herr, if_neg herr]
      rfl

end

section
/-! PROOFS. Records of the page bank, from their fields to their words and back (R166, R190, R196): check words, packed
fields, bytes and digits, then each record. -/

namespace Sys2Proof.Machine

/-! ## Check words (R166) -/

theorem wordSum_append (xs ys : List Word) : wordSum (xs ++ ys) = wordSum xs + wordSum ys := by
  have hfrom (l : List Word) (a : Word) : l.foldl (· + ·) a = a + wordSum l := by
    induction l generalizing a with
    | nil => exact (BitVec.add_zero a).symm
    | cons w l ih =>
      rw [wordSum, List.foldl_cons, List.foldl_cons, ih, ih (0 + w), zero_add, add_assoc]
  rw [wordSum, List.foldl_append, hfrom, ← wordSum]

theorem wordSum_checkWord (ws : List Word) : wordSum (ws ++ [checkWord ws]) = 0xFFFFFFFF#32 := by
  have hlast : wordSum [checkWord ws] = checkWord ws := BitVec.zero_add _
  rw [wordSum_append, hlast, checkWord, BitVec.add_comm, BitVec.sub_add_cancel]

theorem wordSum_sealed (n : Nat) (ws : List Word) : wordSum (sealed n ws) = 0xFFFFFFFF#32 := wordSum_checkWord _

theorem checkGood_sealed (n : Nat) (ws : List Word) : checkGood (sealed n ws) = true :=
  beq_iff_eq.mpr (wordSum_sealed n ws)

/-- Where the check word stands among the words makes no difference to the sum. -/
theorem wordSum_page (g : Page) : wordSum g.words = 0xFFFFFFFF#32 := by
  have hsum (a b c d t : Word) : wordSum [a, b, c, d, t] = wordSum [a, b, c, t, d] := by
    show 0 + a + b + c + d + t = 0 + a + b + c + t + d
    ring
  unfold Page.words
  dsimp only
  rw [hsum]
  exact wordSum_checkWord [_, _, _, _]

/-! ## Packed fields (R190) -/

/-- Fields in rising places, none overlapping the next, within one word from bit a on. -/
def fieldsRise : Nat → List (Nat × Nat × Nat) → Bool
  | a, [] => decide (a ≤ 32)
  | a, (lo, len, _) :: xs => decide (a ≤ lo) && fieldsRise (lo + len) xs

/-- The number that fields make up. -/
def fieldSum (xs : List (Nat × Nat × Nat)) : Nat := (xs.map fun x => x.2.2 % 2 ^ x.2.1 * 2 ^ x.1).sum

theorem fieldSum_cons (lo len v : Nat) (xs : List (Nat × Nat × Nat)) :
    fieldSum ((lo, len, v) :: xs) = v % 2 ^ len * 2 ^ lo + fieldSum xs := sum_field lo len v xs

theorem fieldsRise_cons {a lo len v : Nat} {xs : List (Nat × Nat × Nat)} :
    fieldsRise a ((lo, len, v) :: xs) = true ↔ a ≤ lo ∧ fieldsRise (lo + len) xs = true := by
  rw [fieldsRise, Bool.and_eq_true, decide_eq_true_eq]

theorem fieldsRise_start_le {a : Nat} {xs : List (Nat × Nat × Nat)} (h : fieldsRise a xs = true) :
    ∀ x ∈ xs, a ≤ x.1 := by
  induction xs generalizing a with
  | nil => exact fun _ hx => absurd hx List.not_mem_nil
  | cons y xs ih =>
    obtain ⟨lo, len, v⟩ := y
    obtain ⟨hlo, hxs⟩ := fieldsRise_cons.mp h
    intro x hx
    rcases List.mem_cons.mp hx with rfl | hx
    · exact hlo
    · exact (hlo.trans (Nat.le_add_right lo len)).trans (ih hxs x hx)

/-- Fields from bit a on make up a multiple of 2^a that fits the word above it. -/
theorem fieldSum_bounds {a : Nat} {xs : List (Nat × Nat × Nat)} (h : fieldsRise a xs = true) :
    2 ^ a ∣ fieldSum xs ∧ fieldSum xs + 2 ^ a ≤ 2 ^ 32 := by
  induction xs generalizing a with
  | nil =>
    have ha : a ≤ 32 := of_decide_eq_true h
    have hnone : fieldSum [] = 0 := rfl
    rw [hnone, Nat.zero_add]
    exact ⟨Nat.dvd_zero _, Nat.pow_le_pow_right (by decide) ha⟩
  | cons y xs ih =>
    obtain ⟨lo, len, v⟩ := y
    obtain ⟨hlo, hxs⟩ := fieldsRise_cons.mp h
    obtain ⟨hdvd, hle⟩ := ih hxs
    have hpow : (2 : Nat) ^ a ≤ 2 ^ lo := Nat.pow_le_pow_right (by decide) hlo
    have hv : v % 2 ^ len + 1 ≤ 2 ^ len := Nat.mod_lt _ (Nat.two_pow_pos len)
    have hfield : v % 2 ^ len * 2 ^ lo + 2 ^ lo ≤ 2 ^ (lo + len) := by
      calc v % 2 ^ len * 2 ^ lo + 2 ^ lo = (v % 2 ^ len + 1) * 2 ^ lo := by rw [Nat.add_mul, Nat.one_mul]
        _ ≤ 2 ^ len * 2 ^ lo := Nat.mul_le_mul_right _ hv
        _ = 2 ^ (lo + len) := by rw [Nat.pow_add, Nat.mul_comm]
    rw [fieldSum_cons]
    refine ⟨Nat.dvd_add ?_ ?_, by omega⟩
    · exact (Nat.pow_dvd_pow 2 hlo).trans (Nat.dvd_mul_left _ _)
    · exact (Nat.pow_dvd_pow 2 (hlo.trans (Nat.le_add_right lo len))).trans hdvd

/-- A field read back from the number that rising fields make up. -/
theorem fieldSum_field {a lo len v : Nat} {xs : List (Nat × Nat × Nat)} (h : fieldsRise a xs = true)
    (hmem : (lo, len, v) ∈ xs) : fieldSum xs / 2 ^ lo % 2 ^ len = v % 2 ^ len := by
  induction xs generalizing a with
  | nil => exact absurd hmem List.not_mem_nil
  | cons y xs ih =>
    obtain ⟨l, n, u⟩ := y
    obtain ⟨-, hxs⟩ := fieldsRise_cons.mp h
    obtain ⟨⟨q, hq⟩, -⟩ := fieldSum_bounds hxs
    have hpos (i : Nat) : 0 < 2 ^ i := Nat.two_pow_pos i
    rw [fieldSum_cons]
    rcases List.mem_cons.mp hmem with e | hin
    · obtain ⟨rfl, rfl, rfl⟩ : lo = l ∧ len = n ∧ v = u := by simpa using e
      have hsum : v % 2 ^ len * 2 ^ lo + fieldSum xs = (v % 2 ^ len + 2 ^ len * q) * 2 ^ lo := by
        rw [hq, Nat.pow_add]
        ring
      rw [hsum, Nat.mul_div_cancel _ (hpos lo), Nat.add_mul_mod_self_left, Nat.mod_mod]
    · have hle : l + n ≤ lo := fieldsRise_start_le hxs _ hin
      have hlow : u % 2 ^ n * 2 ^ l < 2 ^ (l + n) := by
        rw [Nat.pow_add, Nat.mul_comm]
        exact Nat.mul_lt_mul_of_pos_left (Nat.mod_lt _ (hpos n)) (hpos l)
      have hhigh : (u % 2 ^ n * 2 ^ l + fieldSum xs) / 2 ^ (l + n) = fieldSum xs / 2 ^ (l + n) := by
        rw [hq, Nat.add_mul_div_left _ _ (hpos _), Nat.div_eq_of_lt hlow, Nat.zero_add, Nat.mul_div_cancel_left _ (hpos _)]
      rw [← ih hxs hin, ← Nat.add_sub_cancel' hle, Nat.pow_add, ← Nat.div_div_eq_div_mul, hhigh, Nat.div_div_eq_div_mul]

/-- A field read back from the word packed with it. -/
theorem bits_packWord {lo len v : Nat} {fields : List (Nat × Nat × Nat)} (h : fieldsRise 0 fields = true)
    (hmem : (lo, len, v) ∈ fields) : bits (packWord fields) lo len = v % 2 ^ len := by
  have hlt : fieldSum fields < 2 ^ 32 := by
    have := (fieldSum_bounds h).2
    omega
  have hnat : (packWord fields).toNat = fieldSum fields := by
    rw [packWord, BitVec.toNat_ofNat]
    exact Nat.mod_eq_of_lt hlt
  rw [bits, hnat, fieldSum_field h hmem]

/-- A field that its place has room for. -/
theorem bits_packWord_of_lt {lo len v : Nat} {fields : List (Nat × Nat × Nat)} (h : fieldsRise 0 fields = true)
    (hmem : (lo, len, v) ∈ fields) (hv : v < 2 ^ len) : bits (packWord fields) lo len = v := by
  rw [bits_packWord h hmem, Nat.mod_eq_of_lt hv]

/-- The same where the word is known to be packed. -/
theorem bits_word {w : Word} {lo len v : Nat} {fields : List (Nat × Nat × Nat)} (hw : w = packWord fields)
    (h : fieldsRise 0 fields = true) (hmem : (lo, len, v) ∈ fields) (hv : v < 2 ^ len) : bits w lo len = v :=
  hw ▸ bits_packWord_of_lt h hmem hv

theorem flag_lt (b : Bool) : flag b < 2 := by cases b <;> decide

theorem flag_le_one (b : Bool) : flag b ≤ 1 := Nat.le_of_lt_succ (flag_lt b)

theorem flag_beq_one (b : Bool) : (flag b == 1) = b := by cases b <;> rfl

/-! ## The words of a record -/

theorem wordAt_append_left {xs : List Word} {i : Nat} (h : i < xs.length) (ys : List Word) :
    wordAt (xs ++ ys) i = wordAt xs i := by
  rw [wordAt, wordAt, List.getD_append _ _ _ _ h]

theorem wordAt_append_right {xs : List Word} {i j : Nat} (h : xs.length = i) (ys : List Word) :
    wordAt (xs ++ ys) (i + j) = wordAt ys j := by
  rw [wordAt, wordAt, List.getD_append_right _ _ _ _ (by omega), h, Nat.add_sub_cancel_left]

/-- A record's words ahead of its check word are the words it was sealed with, and zero. -/
theorem wordAt_sealed {n i : Nat} (h : i + 1 < n) (ws : List Word) : wordAt (sealed n ws) i = wordAt ws i := by
  have hbody : ((ws ++ List.replicate n 0).take (n - 1)).length = n - 1 := by
    rw [List.length_take, List.length_append, List.length_replicate]
    omega
  rw [sealed, wordAt_append_left (by omega), wordAt, wordAt, List.getD_eq_getElem?_getD, List.getD_eq_getElem?_getD,
    List.getElem?_take_of_lt (by omega), List.getElem?_append]
  split_ifs with hi
  · rfl
  · rw [List.getElem?_eq_none (Nat.not_lt.mp hi), List.getElem?_replicate, if_pos (by omega)]
    rfl

/-- A run of words in the middle of a sealed record. -/
theorem wordAt_sealed_run {n i j : Nat} {pre run : List Word} (hi : pre.length = i) (hj : j < run.length)
    (hn : i + j + 1 < n) (post : List Word) : wordAt (sealed n (pre ++ run ++ post)) (i + j) = wordAt run j := by
  rw [wordAt_sealed hn, List.append_assoc, wordAt_append_right hi, wordAt_append_left hj]

theorem map_wordAt_sealed {n i k : Nat} {pre run : List Word} (hi : pre.length = i) (hk : run.length = k)
    (hn : i + k < n) (post : List Word) :
    (numbers i k).map (wordAt (sealed n (pre ++ run ++ post))) = run := by
  refine List.ext_getElem (by simp [numbers, hk]) fun j hj1 hj2 => ?_
  have hval : wordAt (sealed n (pre ++ run ++ post)) (i + j) = run[j] := by
    rw [wordAt_sealed_run hi hj2 (by omega), wordAt, List.getD_eq_getElem _ _ hj2]
  simpa [numbers] using hval

/-! ## Bytes and digits -/

theorem byte_cases {bs : List Byte} {n : Nat} (h : bs.length = n + 4) :
    ∃ a b c d r, bs = a :: b :: c :: d :: r ∧ r.length = n := by
  match bs, h with
  | a :: b :: c :: d :: r, h => exact ⟨a, b, c, d, r, rfl, by simpa using h⟩

theorem wordBytes_bytesWord (a b c d : Byte) : wordBytes (bytesWord [a, b, c, d]) = [a, b, c, d] := by
  have hbyte {lo : Nat} {x : Byte} (hmem : (lo, 8, x.toNat) ∈
      [(0, 8, a.toNat), (8, 8, b.toNat), (16, 8, c.toNat), (24, 8, d.toNat)]) :
      BitVec.ofNat 8 (bits (bytesWord [a, b, c, d]) lo 8) = x := by
    rw [bytesWord_four, bits_packWord_of_lt (by rfl) hmem x.isLt, BitVec.ofNat_toNat, BitVec.setWidth_eq]
  rw [wordBytes, hbyte (x := a) (by simp), hbyte (x := b) (by simp), hbyte (x := c) (by simp), hbyte (x := d) (by simp)]

theorem wordsBytes_bytesWords {n : Nat} {bs : List Byte} (h : bs.length = 4 * n) : wordsBytes (bytesWords n bs) = bs := by
  induction n generalizing bs with
  | zero => exact (List.eq_nil_of_length_eq_zero h).symm
  | succ n ih =>
    obtain ⟨a, b, c, d, r, rfl, hr⟩ := byte_cases (n := 4 * n) (by omega)
    have htail := ih hr
    rw [wordsBytes] at htail ⊢
    rw [bytesWords, List.flatMap_cons]
    exact congrArg₂ (· ++ ·) (wordBytes_bytesWord a b c d) htail

theorem bytesWords_length (n : Nat) (bs : List Byte) : (bytesWords n bs).length = n := by
  induction n generalizing bs with
  | zero => rfl
  | succ n ih => rw [bytesWords, List.length_cons, ih]

theorem paddedWords_length (n : Nat) (bs : List Byte) : (paddedWords n bs).length = n := bytesWords_length ..

theorem digitWords_length (n : Nat) (ds : List Digit) : (digitWords n ds).length = n := bytesWords_length ..

/-- A byte string read back from the words it was padded to. -/
theorem take_wordsBytes_paddedWords {n : Nat} {bs : List Byte} (h : bs.length ≤ 4 * n) :
    (wordsBytes (paddedWords n bs)).take bs.length = bs := by
  have hlen : ((bs ++ List.replicate (4 * n) 0).take (4 * n)).length = 4 * n := by simp
  rw [paddedWords, wordsBytes_bytesWords hlen, List.take_take, Nat.min_eq_left h, List.take_left]

theorem byteDigit_digitByte : ∀ d : Digit, byteDigit (digitByte d) = some d := by decide

theorem allDigits_map (ds : List Digit) : allDigits (ds.map digitByte) = some ds := by
  induction ds with
  | nil => rfl
  | cons d ds ih => rw [List.map_cons, allDigits, byteDigit_digitByte, ih]

/-- A byte string read back from its place in a record. -/
theorem bytesAt_sealed {n i k : Nat} {pre : List Word} {bs : List Byte} (hi : pre.length = i) (hn : i + k < n)
    (hb : bs.length ≤ 4 * k) (post : List Word) :
    (bytesAt (sealed n (pre ++ paddedWords k bs ++ post)) i k).take bs.length = bs := by
  rw [bytesAt, map_wordAt_sealed hi (paddedWords_length k bs) hn, take_wordsBytes_paddedWords hb]

/-- A digit string read back from its place in a record. -/
theorem digitsAt_sealed {n i k : Nat} {pre : List Word} {ds : List Digit} (hi : pre.length = i) (hn : i + k < n)
    (hd : ds.length ≤ 4 * k) (post : List Word) :
    digitsAt (sealed n (pre ++ digitWords k ds ++ post)) i k ds.length = some ds := by
  have hbytes := bytesAt_sealed (bs := ds.map digitByte) hi hn (by simpa using hd) post
  rw [List.length_map] at hbytes
  rw [digitsAt, if_neg (Nat.not_lt.mpr hd), digitWords, hbytes, allDigits_map]

/-! ## Codes -/

theorem classOf_code (c : MailClass) : classOf c.code = some c := by cases c <;> rfl

theorem docStateOf_code (x : DocState) : docStateOf x.code = some x := by cases x <;> rfl

theorem closureOf_code (x : Closure) : closureOf x.code = some x := by cases x <;> rfl

theorem recipientStateOf_code (x : RecipientState) : recipientStateOf x.code = some x := by cases x <;> rfl

theorem pageStateOf_code (x : PageState) : pageStateOf x.code = some x := by cases x <;> rfl

theorem MailClass.code_lt (c : MailClass) : c.code < 3 := by cases c <;> decide

theorem DocState.code_lt (x : DocState) : x.code < 4 := by cases x <;> decide

theorem Closure.code_lt (x : Closure) : x.code < 8 := by cases x <;> decide

theorem RecipientState.code_lt (x : RecipientState) : x.code < 8 := by cases x <;> decide

theorem PageState.code_lt (x : PageState) : x.code < 3 := by cases x <;> decide

theorem channelOf_small {c : Option Nat} (h : ∀ x, c = some x → 1 ≤ x ∧ x ≤ 24) :
    small c < 256 ∧ channelOf (small c) = some c := by
  cases c with
  | none => exact ⟨by decide, rfl⟩
  | some x =>
    obtain ⟨hlo, hhi⟩ := h x rfl
    have hsmall : small (some x) = x := rfl
    have hne : ¬ x = 0xFF := by omega
    have hin : 1 ≤ x ∧ x ≤ Config.channelCount := ⟨hlo, hhi⟩
    rw [hsmall, channelOf, if_neg hne, if_pos hin]
    exact ⟨by omega, rfl⟩

/-- A reference whose code for none lies above every value. -/
theorem refOf_getD {ones limit : Nat} {r : Option Nat} (hr : ∀ v, r = some v → v < limit) (hl : limit ≤ ones) :
    refOf ones limit (r.getD ones) = some r := by
  cases r with
  | none => exact if_pos rfl
  | some v =>
    have hv := hr v rfl
    have hne : ¬ v = ones := by omega
    rw [Option.getD_some, refOf, if_neg hne, if_pos hv]

theorem argNat_toNat {n : Nat} (h : n < 2 ^ 32) : (argNat n).toNat = n := by
  rw [argNat, BitVec.toNat_ofNat, Nat.mod_eq_of_lt h]

/-! ## Pattern words (R190) -/

theorem fieldsRise_pattern (ds : List Digit) (k : Nat) (h : k + ds.length ≤ 8) :
    fieldsRise (4 * k) ((ds.zipIdx k).map fun x => (4 * x.2, 4, x.1.val)) = true := by
  induction ds generalizing k with
  | nil => exact decide_eq_true (by simp at h; omega)
  | cons d ds ih =>
    rw [List.zipIdx_cons, List.map_cons]
    refine fieldsRise_cons.mpr ⟨le_rfl, ih (k + 1) ?_⟩
    simp only [List.length_cons] at h
    omega

/-- The code of each of the first eight digits stands in its four bits. -/
theorem bits_patternWord {ds : List Digit} {i : Nat} (h8 : i < 8) (hi : i < ds.length) :
    bits (patternWord ds) (4 * i) 4 = ds[i].val := by
  have hit : i < (ds.take 8).length := by simp; omega
  refine bits_packWord_of_lt (fieldsRise_pattern (ds.take 8) 0 (by simp)) ?_ (Nat.lt_trans ds[i].isLt (by decide))
  refine List.mem_map.mpr ⟨((ds.take 8)[i], i), ?_, by simp⟩
  exact List.mk_mem_zipIdx_iff_getElem?.mpr (List.getElem?_eq_getElem hit)

theorem nibbles_take {p : List Digit} (h : p.length ≤ 16) :
    (nibbles (patternWord p) (patternWord (p.drop 8))).take p.length = p.map fun d => d.val := by
  refine List.ext_getElem (by simp [nibbles, numbers, h]) fun i h1 h2 => ?_
  have hi : i < p.length := by simpa using h2
  rw [List.getElem_take, List.getElem_map]
  by_cases h8 : i < 8
  · have hget := bits_patternWord h8 hi
    simpa [nibbles, numbers, List.getElem_append, h8] using hget
  · have hget := bits_patternWord (ds := p.drop 8) (i := i - 8) (by omega) (by simp; omega)
    have hidx : 8 + (i - 8) = i := by omega
    simpa [nibbles, numbers, List.getElem_append, h8, hidx] using hget

theorem codesDigits_map (ds : List Digit) : codesDigits (ds.map fun d => d.val) = some ds := by
  induction ds with
  | nil => rfl
  | cons d ds ih =>
    have hcode : codeDigit d.val = some d := dif_pos d.isLt
    rw [List.map_cons, codesDigits, hcode, ih]

/-! ## Routing entries (R70) -/

theorem restoreRoute_words {r : Route} (h1 : 1 ≤ r.pattern.length) (h16 : r.pattern.length ≤ 16) (hm : r.mailbox < 64) :
    restoreRoute (routeWords (some r)) = some (some r) := by
  obtain ⟨kind, p, m⟩ := r
  dsimp only at h1 h16 hm
  set ws := routeWords (some { kind := kind, pattern := p, mailbox := m }) with hws
  have hgood : checkGood ws = true := checkGood_sealed ..
  have hword0 : wordAt ws 0 = packWord [(0, 8, kind.code), (8, 8, p.length), (16, 8, m)] := wordAt_sealed (by decide) _
  have hword1 : wordAt ws 1 = patternWord p := wordAt_sealed (by decide) _
  have hword2 : wordAt ws 2 = patternWord (p.drop 8) := wordAt_sealed (by decide) _
  have hkind : bits (wordAt ws 0) 0 8 = kind.code :=
    bits_word hword0 (by rfl) (by simp) (by cases kind <;> decide)
  have hlen : bits (wordAt ws 0) 8 8 = p.length :=
    bits_word hword0 (by rfl) (by simp) (by omega)
  have hbox : bits (wordAt ws 0) 16 8 = m :=
    bits_word hword0 (by rfl) (by simp) (by omega)
  have hcodes : codesDigits ((nibbles (wordAt ws 1) (wordAt ws 2)).take p.length) = some p := by
    rw [hword1, hword2, nibbles_take h16, codesDigits_map]
  have hrange : ¬ (p.length = 0 ∨ 16 < p.length ∨ Config.mailboxCount ≤ m) := by
    rw [not_or, not_or]
    exact ⟨by omega, by omega, Nat.not_le.mpr hm⟩
  unfold restoreRoute
  simp only [hgood, hkind, hlen, hbox, hcodes, if_neg hrange, Bool.not_true, Bool.false_eq_true, if_false]
  cases kind <;> rfl

theorem restoreRoute_words_none : restoreRoute (routeWords none) = some none := by decide

/-! ## Mailboxes (R62) -/

/-- A default recipient's digits read back, where the record has such a one. -/
theorem Mailbox.target_length_le {b : Mailbox} (h : ∀ t ∈ b.defaults, 1 ≤ t.length ∧ t.length ≤ 20) (i : Nat) :
    (b.target i).length ≤ 20 := by
  rw [Mailbox.target, List.getD_eq_getElem?_getD]
  cases ht : b.defaults[i]? with
  | none => exact Nat.zero_le _
  | some t => exact (h t (List.mem_of_getElem? ht)).2

/-- What the words of a mailbox record show of it. -/
structure Mailbox.shownBy (ws : List Word) (b : Mailbox) : Prop where
  good : checkGood ws = true
  shut : bits (wordAt ws 0) 0 4 = flag b.shut
  cls : bits (wordAt ws 0) 4 4 = b.cls.code
  strict : bits (wordAt ws 0) 8 1 = flag b.strict
  overQuota : bits (wordAt ws 0) 9 1 = flag b.overQuota
  group : bits (wordAt ws 0) 12 4 = b.group
  excludes : bits (wordAt ws 0) 16 16 = b.excludes.toNat
  quota : (wordAt ws 1).toNat = b.quota
  usage : (wordAt ws 2).toNat = b.usage
  hours : (wordAt ws 3).toNat = b.hours
  count : bits (wordAt ws 4) 0 8 = b.defaults.length
  lengths : bits (wordAt ws 4) 8 8 = (b.target 0).length ∧ bits (wordAt ws 4) 16 8 = (b.target 1).length
  digits : digitsAt ws 5 5 (b.target 0).length = some (b.target 0) ∧
    digitsAt ws 10 5 (b.target 1).length = some (b.target 1)

theorem Mailbox.words_shown {b : Mailbox} (hq : b.quota ≤ 65535) (hu : b.usage < 2 ^ 32) (hg : b.group < 16)
    (hh : b.hours ≤ 4320) (hd : b.defaults.length ≤ 2) (ht : ∀ t ∈ b.defaults, 1 ≤ t.length ∧ t.length ≤ 20) :
    b.shownBy b.words := by
  have hlen0 := Mailbox.target_length_le ht 0
  have hlen1 := Mailbox.target_length_le ht 1
  have hword0 : wordAt b.words 0 = packWord [(0, 4, flag b.shut), (4, 4, b.cls.code), (8, 1, flag b.strict),
      (9, 1, flag b.overQuota), (12, 4, b.group), (16, 16, b.excludes.toNat)] := wordAt_sealed (by decide) _
  have hword1 : wordAt b.words 1 = argNat b.quota := wordAt_sealed (by decide) _
  have hword2 : wordAt b.words 2 = argNat b.usage := wordAt_sealed (by decide) _
  have hword3 : wordAt b.words 3 = argNat b.hours := wordAt_sealed (by decide) _
  have hword4 : wordAt b.words 4 = packWord [(0, 8, b.defaults.length), (8, 8, (b.target 0).length),
      (16, 8, (b.target 1).length)] := wordAt_sealed (by decide) _
  refine
    { good := checkGood_sealed ..
      shut := bits_word hword0 (by rfl) (by simp) ((flag_lt _).trans (by decide))
      cls := bits_word hword0 (by rfl) (by simp) ((MailClass.code_lt _).trans (by decide))
      strict := bits_word hword0 (by rfl) (by simp) (flag_lt _)
      overQuota := bits_word hword0 (by rfl) (by simp) (flag_lt _)
      group := bits_word hword0 (by rfl) (by simp) hg
      excludes := bits_word hword0 (by rfl) (by simp) b.excludes.isLt
      quota := by rw [hword1, argNat_toNat (by omega)]
      usage := by rw [hword2, argNat_toNat hu]
      hours := by rw [hword3, argNat_toNat (by omega)]
      count := bits_word hword4 (by rfl) (by simp) (by omega)
      lengths := ⟨bits_word hword4 (by rfl) (by simp) (by omega), bits_word hword4 (by rfl) (by simp) (by omega)⟩
      digits := ⟨digitsAt_sealed (by rfl) (by decide) hlen0 _, ?_⟩ }
  have hrun := digitsAt_sealed (n := 16) (i := 10) (k := 5) (ds := b.target 1)
    (pre := [packWord [(0, 4, flag b.shut), (4, 4, b.cls.code), (8, 1, flag b.strict), (9, 1, flag b.overQuota),
      (12, 4, b.group), (16, 16, b.excludes.toNat)], argNat b.quota, argNat b.usage, argNat b.hours,
      packWord [(0, 8, b.defaults.length), (8, 8, (b.target 0).length), (16, 8, (b.target 1).length)]] ++
      digitWords 5 (b.target 0)) (by simp [digitWords_length]) (by decide) hlen1 []
  rwa [List.append_nil] at hrun

theorem Mailbox.shownBy.restored {ws : List Word} {b : Mailbox} (a : b.shownBy ws) (hq : b.quota ≤ 65535)
    (hh : b.hours ≤ 4320) (hd : b.defaults.length ≤ 2) (ht : ∀ t ∈ b.defaults, 1 ≤ t.length) :
    restoreMailbox ws = some b := by
  obtain ⟨hgood, hshut, hcls, hstrict, hover, hgroup, hexcl, hquota, husage, hhours, hcount, ⟨hlen0, hlen1⟩,
    hdig0, hdig1⟩ := a
  unfold restoreMailbox
  dsimp only
  rw [hgood, hcls, classOf_code, hshut, hstrict, hover, hgroup, hexcl, hquota, husage, hhours, hcount, hlen0, hlen1,
    hdig0, hdig1]
  clear hgood hcls hshut hstrict hover hgroup hexcl hquota husage hhours hcount hlen0 hlen1 hdig0 hdig1
  obtain ⟨shut, quota, usage, overQuota, group, excludes, cls, hours, strict, defaults⟩ := b
  have hmax : Config.maxRetention = 4320 := rfl
  have hneed (t : List Digit) (hm : t ∈ defaults) : ¬ t = [] := fun e => by simpa [e] using ht t hm
  match defaults, hd with
  | [], _ => simp_all [flag_le_one, flag_beq_one]
  | [t], _ => simp_all [flag_le_one, flag_beq_one, Mailbox.target]
  | [t, u], _ => simp_all [flag_le_one, flag_beq_one, Mailbox.target]

theorem restoreMailbox_words {b : Mailbox} (hq : b.quota ≤ 65535) (hu : b.usage < 2 ^ 32) (hg : b.group < 16)
    (hh : b.hours ≤ 4320) (hd : b.defaults.length ≤ 2) (ht : ∀ t ∈ b.defaults, 1 ≤ t.length ∧ t.length ≤ 20) :
    restoreMailbox b.words = some b :=
  (Mailbox.words_shown hq hu hg hh hd ht).restored hq hh hd fun t hm => (ht t hm).1

/-! ## Page records (R85) -/

/-- What the words of a page record show of it. -/
structure Page.shownBy (ws : List Word) (g : Page) : Prop where
  good : checkGood ws = true
  state : bits (wordAt ws 0) 0 2 = g.state.code
  truncated : bits (wordAt ws 0) 2 1 = flag g.truncated
  estimated : bits (wordAt ws 0) 3 1 = flag g.estimated
  short : bits (wordAt ws 0) 4 1 = flag g.short
  parity : bits (wordAt ws 0) 5 1 = flag g.parity
  holes : bits (wordAt ws 0) 6 8 = g.holes
  seq : bits (wordAt ws 0) 14 10 = g.seq
  count : bits (wordAt ws 0) 24 8 = g.count
  length : bits (wordAt ws 1) 0 21 = g.length
  owner : bits (wordAt ws 1) 21 10 = g.owner
  first : (if g.count = 0 then none else some (bits (wordAt ws 2) 0 16)) = g.first
  next : refOf 0x3FFF 8192 (bits (wordAt ws 2) 16 14) = some g.next
  closed : wordAt ws 4 = timeWord g.closed

theorem Page.words_shown {g : Page} (ho : g.owner < 1024) (hs : g.seq ≤ 999) (hc : g.count ≤ 128) (hh : g.holes ≤ 128)
    (hl : g.length ≤ 1048448) (hnone : g.count = 0 → g.first = none)
    (hfirst : 0 < g.count → ∃ n, g.first = some n ∧ n < 65536) (hn : ∀ q, g.next = some q → q < 8192) :
    g.shownBy g.words := by
  have hword0 : wordAt g.words 0 = packWord [(0, 2, g.state.code), (2, 1, flag g.truncated), (3, 1, flag g.estimated),
      (4, 1, flag g.short), (5, 1, flag g.parity), (6, 8, g.holes), (14, 10, g.seq), (24, 8, g.count)] :=
    Page.flagBits_eq g _
  have hword1 : wordAt g.words 1 = packWord [(0, 21, g.length), (21, 10, g.owner)] := rfl
  have hword2 : wordAt g.words 2 = packWord [(0, 16, if g.count = 0 then 0 else g.first.getD 0),
      (16, 14, g.next.getD 0x3FFF)] := rfl
  have hnext : g.next.getD 0x3FFF < 2 ^ 14 := by
    cases hq : g.next with
    | none => decide
    | some q => exact Nat.lt_trans (hn q hq) (by decide)
  refine
    { good := beq_iff_eq.mpr (wordSum_page g)
      state := bits_word hword0 (by rfl) (by simp) ((PageState.code_lt _).trans (by decide))
      truncated := bits_word hword0 (by rfl) (by simp) (flag_lt _)
      estimated := bits_word hword0 (by rfl) (by simp) (flag_lt _)
      short := bits_word hword0 (by rfl) (by simp) (flag_lt _)
      parity := bits_word hword0 (by rfl) (by simp) (flag_lt _)
      holes := bits_word hword0 (by rfl) (by simp) (by omega)
      seq := bits_word hword0 (by rfl) (by simp) (by omega)
      count := bits_word hword0 (by rfl) (by simp) (by omega)
      length := bits_word hword1 (by rfl) (by simp) (by omega)
      owner := bits_word hword1 (by rfl) (by simp) ho
      first := ?_
      next := ?_
      closed := rfl }
  · by_cases h0 : g.count = 0
    · rw [if_pos h0, hnone h0]
    · obtain ⟨n, hsome, hlt⟩ := hfirst (Nat.pos_of_ne_zero h0)
      rw [if_neg h0, hsome, bits_word (v := n) hword2 (by rfl) (by simp [h0, hsome]) hlt]
  · rw [bits_word (v := g.next.getD 0x3FFF) hword2 (by rfl) (by simp) hnext]
    exact refOf_getD hn (by decide)

theorem Page.shownBy.restored {ws : List Word} {g : Page} (a : g.shownBy ws) (hst : g.state ≠ .free) (hs1 : 1 ≤ g.seq)
    (hs : g.seq ≤ 999) (hc : g.count ≤ 128) (hh : g.holes ≤ 128)
    (hland : g.state = .landing → g.length = 0 ∧ g.closed = none)
    (hclosed : g.state = .closed → 1 ≤ g.length ∧ g.length ≤ 1048448 ∧ g.closed.isSome = true) :
    restorePage ws = some g := by
  obtain ⟨hgood, hstate, htrunc, hest, hshort, hpar, hholes, hseq, hcount, hlen, howner, hfirst, hnext, htime⟩ := a
  have hlimit : Config.pageRecords = 8192 ∧ Config.pageIndices = 128 ∧ Config.maxPages = 999 ∧
    Config.dataAreaBytes = 1048448 := ⟨rfl, rfl, rfl, rfl⟩
  obtain ⟨hrecords, hindices, hpages, hbytes⟩ := hlimit
  unfold restorePage
  dsimp only
  rw [hgood, hstate, pageStateOf_code, htrunc, hest, hshort, hpar, hholes, hseq, hcount, hlen, howner, hfirst, hrecords,
    hnext, htime, hindices, hpages, hbytes]
  clear hgood hstate htrunc hest hshort hpar hholes hseq hcount hlen howner hfirst hnext htime
  obtain ⟨state, owner, seq, length, first, count, holes, truncated, estimated, short, parity, closed, next⟩ := g
  cases state with
  | free => exact absurd rfl hst
  | landing =>
    obtain ⟨hlen, htime⟩ := hland rfl
    simp_all [flag_beq_one]
  | closed =>
    obtain ⟨hlo, hhi, htime⟩ := hclosed rfl
    obtain ⟨t, rfl⟩ := Option.isSome_iff_exists.mp htime
    simp_all [flag_beq_one, timeWord]

theorem restorePage_words_freed : restorePage Page.freed.words = some Page.freed := by decide

/-! ## Recipient places (R104) -/

/-- A place that its ten words have room for: a vacant one, or one in use with every field in its range. -/
def Recipient.fits (r : Recipient) : Prop :=
  r = Recipient.vacant ∨ (r.state ≠ .empty ∧ 1 ≤ r.target.length ∧ r.target.length ≤ 20 ∧ r.attempts ≤ 5 ∧
    1 ≤ r.nextPage ∧ r.nextPage ≤ 999 ∧ r.resend ≤ 3 ∧ (r.retryDue.isSome = true ↔ r.state = .retryWait) ∧
    ∀ c, r.channel = some c → 1 ≤ c ∧ c ≤ 24)

theorem Recipient.fits.bounds {r : Recipient} (h : r.fits) : r.target.length ≤ 20 ∧ r.attempts ≤ 5 ∧
    r.nextPage ≤ 999 ∧ r.resend ≤ 3 ∧ ∀ c, r.channel = some c → 1 ≤ c ∧ c ≤ 24 := by
  rcases h with rfl | ⟨-, -, ht, ha, -, hn, hr, -, hc⟩
  · exact ⟨by decide, by decide, by decide, by decide, nofun⟩
  · exact ⟨ht, ha, hn, hr, hc⟩

/-- What the words from word i on show of a recipient place. -/
structure Recipient.shownBy (ws : List Word) (i : Nat) (r : Recipient) : Prop where
  state : bits (wordAt ws i) 0 8 = r.state.code
  cls : bits (wordAt ws i) 8 8 = r.cls.code
  length : bits (wordAt ws i) 16 8 = r.target.length
  attempts : bits (wordAt ws i) 24 8 = r.attempts
  nextPage : bits (wordAt ws (i + 1)) 0 16 = r.nextPage
  resend : bits (wordAt ws (i + 1)) 16 8 = r.resend
  channel : channelOf (bits (wordAt ws (i + 1)) 24 8) = some r.channel
  retryDue : wordAt ws (i + 2) = timeWord r.retryDue
  target : digitsAt ws (i + 3) 5 r.target.length = some r.target

theorem Recipient.words_length (r : Recipient) : r.words.length = 10 := by
  rw [Recipient.words_eq_layout, Recipient.layout_length]

theorem Recipient.words_shown {n i : Nat} {pre : List Word} {r : Recipient} (hr : r.fits) (hi : pre.length = i)
    (hn : i + 10 < n) (post : List Word) : r.shownBy (sealed n (pre ++ r.words ++ post)) i := by
  obtain ⟨ht, ha, hp, hs, hc⟩ := hr.bounds
  obtain ⟨hsmall, hchan⟩ := channelOf_small hc
  have hrun {j : Nat} (hj : j < 10) : wordAt (sealed n (pre ++ r.words ++ post)) (i + j) = wordAt r.words j :=
    wordAt_sealed_run hi (by rw [Recipient.words_length]; exact hj) (by omega) post
  have hword0 : wordAt (sealed n (pre ++ r.words ++ post)) i = packWord [(0, 8, r.state.code), (8, 8, r.cls.code),
    (16, 8, r.target.length), (24, 8, r.attempts)] := hrun (j := 0) (by decide)
  have hword1 : wordAt (sealed n (pre ++ r.words ++ post)) (i + 1) = packWord [(0, 16, r.nextPage), (16, 8, r.resend),
    (24, 8, small r.channel)] := hrun (by decide)
  refine
    { state := bits_word hword0 (by rfl) (by simp) ((RecipientState.code_lt _).trans (by decide))
      cls := bits_word hword0 (by rfl) (by simp) ((MailClass.code_lt _).trans (by decide))
      length := bits_word hword0 (by rfl) (by simp) (by omega)
      attempts := bits_word hword0 (by rfl) (by simp) (by omega)
      nextPage := bits_word hword1 (by rfl) (by simp) (by omega)
      resend := bits_word hword1 (by rfl) (by simp) (by omega)
      channel := by rw [bits_word hword1 (by rfl) (by simp) hsmall, hchan]
      retryDue := hrun (by decide)
      target := ?_ }
  have hsplit : pre ++ r.words ++ post = (pre ++ r.words.take 3) ++ digitWords 5 r.target ++ ([0, 0] ++ post) := by
    simp [Recipient.words]
  rw [hsplit]
  exact digitsAt_sealed (by rw [List.length_append, hi]; rfl) (by omega) ht _

theorem Recipient.shownBy.restored {ws : List Word} {i : Nat} {r : Recipient} (a : r.shownBy ws i) (hr : r.fits) :
    restoreRecipient ws i = some r := by
  obtain ⟨hstate, hcls, hlen, hatt, hnext, hresend, hchan, hdue, htarget⟩ := a
  have hattempts : Config.maxAttempts = 5 := rfl
  have hpages : Config.maxPages = 999 := rfl
  unfold restoreRecipient
  dsimp only
  rw [hstate, hcls, hlen, hatt, hnext, hresend, hchan, hdue, htarget, recipientStateOf_code, classOf_code, hattempts, hpages]
  clear hstate hcls hlen hatt hnext hresend hchan hdue htarget
  rcases hr with rfl | ⟨hst, h1, -, ha, hp1, hp, hs, hd, -⟩
  · rfl
  · obtain ⟨state, cls, target, attempts, nextPage, resend, retryDue, channel⟩ := r
    have hempty : (state == .empty) = false := beq_eq_false_iff_ne.mpr hst
    have hdue : (if state = .retryWait then some (timeWord retryDue) else none) = retryDue := by
      cases retryDue with
      | none => exact if_neg fun e => Bool.false_ne_true (hd.mpr e)
      | some t => exact if_pos (hd.mp rfl)
    simp_all [Nat.lt_iff_add_one_le]

/-! ## Document records (R80) -/

/-- Four places, each with ten words. -/
theorem places_flatMap {h : Nat → List Word} (hl : ∀ k, (h k).length = 10) {k : Nat} (hk : k < 4) :
    ∃ pre post, places.flatMap h = pre ++ h k ++ post ∧ pre.length = 10 * k := by
  have hall : places.flatMap h = h 0 ++ h 1 ++ h 2 ++ h 3 := by simp [places]
  rw [hall]
  match k, hk with
  | 0, _ => exact ⟨[], h 1 ++ h 2 ++ h 3, by simp, rfl⟩
  | 1, _ => exact ⟨h 0, h 2 ++ h 3, by simp, by simp [hl]⟩
  | 2, _ => exact ⟨h 0 ++ h 1, h 3, by simp, by simp [hl]⟩
  | 3, _ => exact ⟨h 0 ++ h 1 ++ h 2, [], by simp, by simp [hl]⟩

/-- A document that its record has room for. -/
structure Doc.fits (d : Doc) : Prop where
  gen : d.gen < 64
  mailbox : d.mailbox < 64
  channel : ∀ c, d.channel = some c → 1 ≤ c ∧ c ≤ 24
  pageCount : d.pageCount < 2 ^ 32
  firstPage : ∀ p, d.firstPage = some p → p < 8192
  blockTotal : d.blockTotal < 2 ^ 32
  digits : d.digits.length ≤ 16
  caller : d.caller.length ≤ 20
  recipient : ∀ k, k < 4 → (d.recipient k).fits

/-- What the words of a document record show of it. -/
structure Doc.shownBy (ws : List Word) (d : Doc) : Prop where
  good : checkGood ws = true
  state : bits (wordAt ws 0) 0 8 = d.state.code
  closure : bits (wordAt ws 0) 8 8 = d.closure.code
  mailbox : bits (wordAt ws 0) 16 8 = d.mailbox
  channel : channelOf (bits (wordAt ws 0) 24 8) = some d.channel
  gen : bits (wordAt ws 1) 0 8 = d.gen
  hold : bits (wordAt ws 1) 8 1 = flag d.hold
  expired : bits (wordAt ws 1) 9 1 = flag d.expired
  rerouted : bits (wordAt ws 1) 10 1 = flag d.rerouted
  damaged : bits (wordAt ws 1) 11 1 = flag d.damaged
  retained : bits (wordAt ws 1) 12 1 = flag d.retention.isSome
  lengths : bits (wordAt ws 1) 16 8 = d.digits.length ∧ bits (wordAt ws 1) 24 8 = d.caller.length
  times : wordAt ws 2 = timeWord d.arrival ∧ wordAt ws 3 = timeWord d.closed ∧ wordAt ws 4 = timeWord d.retention
  pageCount : (wordAt ws 5).toNat = d.pageCount
  firstPage : refOf 0xFFFFFFFF 8192 (wordAt ws 6).toNat = some d.firstPage
  blockTotal : (wordAt ws 7).toNat = d.blockTotal
  digits : digitsAt ws 8 4 d.digits.length = some d.digits
  caller : (bytesAt ws 12 5).take d.caller.length = d.caller
  recipient : ∀ k, k < 4 → restoreRecipient ws (20 + 10 * k) = some (d.recipient k)

/-- The eight words ahead of a document's digits. -/
def Doc.header (d : Doc) : List Word :=
  [packWord [(0, 8, d.state.code), (8, 8, d.closure.code), (16, 8, d.mailbox), (24, 8, small d.channel)],
   packWord [(0, 8, d.gen), (8, 1, flag d.hold), (9, 1, flag d.expired), (10, 1, flag d.rerouted),
             (11, 1, flag d.damaged), (12, 1, flag d.retention.isSome), (16, 8, d.digits.length),
             (24, 8, d.caller.length)],
   timeWord d.arrival, timeWord d.closed, timeWord d.retention, argNat d.pageCount, refWord d.firstPage,
   argNat d.blockTotal]

theorem Doc.words_eq (d : Doc) : d.words = sealed 64
    (d.header ++ digitWords 4 d.digits ++ paddedWords 5 d.caller ++ [0, 0, 0] ++
      places.flatMap (fun k => (d.recipient k).words)) := rfl

theorem Doc.wordAt_words (d : Doc) {i : Nat} (h : i < 8) : wordAt d.words i = wordAt d.header i := by
  have hlen : d.header.length = 8 := rfl
  rw [Doc.words_eq, wordAt_sealed (by omega)]
  simp only [List.append_assoc]
  rw [wordAt_append_left (by omega)]

theorem refWord_toNat {r : Option Nat} (h : ∀ v, r = some v → v < 8192) : (refWord r).toNat = r.getD 0xFFFFFFFF := by
  cases r with
  | none => rfl
  | some v => exact argNat_toNat (Nat.lt_trans (h v rfl) (by decide))

theorem Doc.words_recipient {d : Doc} {k : Nat} (hk : k < 4) (hd : (d.recipient k).fits) :
    restoreRecipient d.words (20 + 10 * k) = some (d.recipient k) := by
  obtain ⟨pre, post, hsplit, hlen⟩ := places_flatMap (h := fun k => (d.recipient k).words)
    (fun k => Recipient.words_length _) hk
  have hhead : (d.header ++ digitWords 4 d.digits ++ paddedWords 5 d.caller ++ [0, 0, 0]).length = 20 := by
    simp [Doc.header, digitWords_length, paddedWords_length]
  have hwords : d.words = sealed 64
      ((d.header ++ digitWords 4 d.digits ++ paddedWords 5 d.caller ++ [0, 0, 0] ++ pre) ++ (d.recipient k).words ++ post) := by
    rw [Doc.words_eq, hsplit]
    simp only [List.append_assoc]
  rw [hwords]
  exact (Recipient.words_shown hd (by rw [List.length_append, hhead, hlen]) (by omega) post).restored hd

theorem Doc.words_shown {d : Doc} (h : d.fits) : d.shownBy d.words := by
  obtain ⟨hgen, hbox, hchan, hpages, hfirst, hblocks, hdigits, hcaller, hrec⟩ := h
  obtain ⟨hsmall, hchannel⟩ := channelOf_small hchan
  have hword0 : wordAt d.words 0 = packWord [(0, 8, d.state.code), (8, 8, d.closure.code), (16, 8, d.mailbox),
      (24, 8, small d.channel)] := d.wordAt_words (by decide)
  have hword1 : wordAt d.words 1 = packWord [(0, 8, d.gen), (8, 1, flag d.hold), (9, 1, flag d.expired),
      (10, 1, flag d.rerouted), (11, 1, flag d.damaged), (12, 1, flag d.retention.isSome), (16, 8, d.digits.length),
      (24, 8, d.caller.length)] := d.wordAt_words (by decide)
  have hword5 : wordAt d.words 5 = argNat d.pageCount := d.wordAt_words (by decide)
  have hword6 : wordAt d.words 6 = refWord d.firstPage := d.wordAt_words (by decide)
  have hword7 : wordAt d.words 7 = argNat d.blockTotal := d.wordAt_words (by decide)
  refine
    { good := checkGood_sealed ..
      state := bits_word hword0 (by rfl) (by simp) ((DocState.code_lt _).trans (by decide))
      closure := bits_word hword0 (by rfl) (by simp) ((Closure.code_lt _).trans (by decide))
      mailbox := bits_word hword0 (by rfl) (by simp) (by omega)
      channel := by rw [bits_word hword0 (by rfl) (by simp) hsmall, hchannel]
      gen := bits_word hword1 (by rfl) (by simp) (by omega)
      hold := bits_word hword1 (by rfl) (by simp) (flag_lt _)
      expired := bits_word hword1 (by rfl) (by simp) (flag_lt _)
      rerouted := bits_word hword1 (by rfl) (by simp) (flag_lt _)
      damaged := bits_word hword1 (by rfl) (by simp) (flag_lt _)
      retained := bits_word hword1 (by rfl) (by simp) (flag_lt _)
      lengths := ⟨bits_word hword1 (by rfl) (by simp) (by omega), bits_word hword1 (by rfl) (by simp) (by omega)⟩
      times := ⟨d.wordAt_words (by decide), d.wordAt_words (by decide), d.wordAt_words (by decide)⟩
      pageCount := by rw [hword5, argNat_toNat hpages]
      firstPage := by rw [hword6, refWord_toNat hfirst, refOf_getD hfirst (by decide)]
      blockTotal := by rw [hword7, argNat_toNat hblocks]
      digits := ?_
      caller := ?_
      recipient := fun k hk => Doc.words_recipient hk (hrec k hk) }
  · rw [Doc.words_eq]
    simp only [List.append_assoc]
    rw [← List.append_assoc]
    exact digitsAt_sealed (by rfl) (by decide) hdigits _
  · rw [Doc.words_eq, List.append_assoc _ [0, 0, 0]]
    exact bytesAt_sealed (by simp [Doc.header, digitWords_length]) (by decide) hcaller _

/-! ## The recipients of a document read back -/

theorem Tbl.mem_iff_find {α : Type} {t : Tbl α} (h : Tbl.sorted t) {k : Nat} {x : α} :
    (k, x) ∈ t ↔ Tbl.find t k = some x := by
  induction t with
  | nil => exact iff_of_false List.not_mem_nil nofun
  | cons y t ih =>
    obtain ⟨i, v⟩ := y
    obtain ⟨hi, ht⟩ := List.pairwise_cons.mp h
    rw [List.mem_cons, Tbl.find, ih ht, Prod.mk.injEq]
    split_ifs with hik
    · subst hik
      have hno : Tbl.find t i = none := Tbl.find_of_not_mem fun hmem => Nat.lt_irrefl _ (hi _ hmem)
      rw [hno]
      constructor
      · rintro (⟨-, rfl⟩ | e)
        · rfl
        · cases e
      · exact fun e => .inl ⟨rfl, (Option.some.inj e).symm⟩
    · exact or_iff_right fun e => hik e.1.symm

/-- Four places in rising order, the EMPTY ones left out, are the table they were looked up in. -/
theorem Tbl.filter_places {t : Tbl Recipient} (h : Tbl.sorted t) (ht : ∀ x ∈ t, x.1 < 4 ∧ x.2.state ≠ .empty) :
    (places.map fun k => (k, (Tbl.find t k).getD Recipient.vacant)).filter (fun x => x.2.state != .empty) = t := by
  have : Std.Irrefl fun x y : Nat × Recipient => x.1 < y.1 := ⟨fun x => Nat.lt_irrefl x.1⟩
  have hplaces : places.Pairwise (· < ·) := by decide
  have hleft : (places.map fun k => (k, (Tbl.find t k).getD Recipient.vacant)).Pairwise fun x y => x.1 < y.1 :=
    List.pairwise_map.mpr hplaces
  have hright : List.Pairwise (fun x y : Nat × Recipient => x.1 < y.1) t := List.pairwise_map.mp h
  refine (hleft.filter _).eq_of_mem_iff hright fun x => ?_
  obtain ⟨k, r⟩ := x
  rw [List.mem_filter, bne_iff_ne, Tbl.mem_iff_find h]
  simp only [List.mem_map, Prod.mk.injEq]
  constructor
  · rintro ⟨⟨j, -, rfl, hr⟩, hne⟩
    cases hf : Tbl.find t j with
    | none =>
      rw [hf] at hr
      exact absurd (by rw [← hr]; rfl) hne
    | some v =>
      rw [hf] at hr
      exact congrArg some hr
  · intro hf
    obtain ⟨hk, hne⟩ := ht _ ((Tbl.mem_iff_find h).mpr hf)
    have hplace : k ∈ places := List.mem_range.mpr hk
    exact ⟨⟨k, hplace, rfl, by rw [hf]; rfl⟩, hne⟩

/-! ## Documents read back -/

section
variable {ws : List Word} {d : Doc}

/-- The header of the record judged and its four places read: what is left of `restoreDoc`. -/
theorem Doc.shownBy.restored_eq (a : d.shownBy ws) (hgen : d.gen < 64) (hbox : d.mailbox < 64)
    (hcaller : d.caller.length ≤ 20) (hchan : d.state = .free ∨ d.channel.isSome = true) :
    restoreDoc ws = some (if d.state = .free then Doc.freed d.gen
      else { d with
        arrival := some (timeWord d.arrival)
        closed := if d.state = .receiving then none else some (timeWord d.closed)
        retention := if flag d.retention.isSome = 1 then some (timeWord d.retention) else none
        recipients := (places.map fun k => (k, d.recipient k)).filter (fun x => x.2.state != .empty) }) := by
  obtain ⟨hgood, hstate, hclosure, hmailbox, hchannel, hg, hhold, hexpired, hrerouted, hdamaged, hretained, ⟨hdlen, hclen⟩,
    ⟨harrival, hclosed, hretention⟩, hpages, hfirst, hblocks, hdigits, hcall, hrec⟩ := a
  have hplace0 : restoreRecipient ws 20 = some (d.recipient 0) := hrec 0 (by decide)
  have hplace1 : restoreRecipient ws 30 = some (d.recipient 1) := hrec 1 (by decide)
  have hplace2 : restoreRecipient ws 40 = some (d.recipient 2) := hrec 2 (by decide)
  have hplace3 : restoreRecipient ws 50 = some (d.recipient 3) := hrec 3 (by decide)
  have hrecords : Config.pageRecords = 8192 := rfl
  have hboxes : Config.mailboxCount = 64 := rfl
  have hjudged : (true && decide (d.mailbox < 64) && decide (d.gen < 64) && decide (d.caller.length ≤ 20) &&
      (d.state == .free || d.channel.isSome)) = true := by
    simp only [hbox, hgen, hcaller, decide_true, Bool.and_true, Bool.true_and, Bool.or_eq_true, beq_iff_eq]
    exact hchan
  unfold restoreDoc
  dsimp only
  rw [hrecords, hboxes, hgood, hstate, hclosure, hmailbox, hchannel, hg, hhold, hexpired, hrerouted, hdamaged, hretained,
    hdlen, hclen, harrival, hclosed, hretention, hpages, hfirst, hblocks, hdigits, hcall, hplace0, hplace1, hplace2,
    hplace3, docStateOf_code, closureOf_code]
  dsimp only
  rw [if_pos hjudged, flag_beq_one, flag_beq_one, flag_beq_one, flag_beq_one]
  rfl

theorem restoreDoc_words_live (h : d.fits) (hst : d.state ≠ .free) (hchan : d.channel.isSome = true)
    (harr : d.arrival.isSome = true) (hcl : d.closed.isSome = true ↔ d.state ≠ .receiving)
    (hsort : Tbl.sorted d.recipients) (hrec : ∀ x ∈ d.recipients, x.1 < 4 ∧ x.2.state ≠ .empty) :
    restoreDoc d.words = some d := by
  have htable : (places.map fun k => (k, d.recipient k)).filter (fun x => x.2.state != .empty) = d.recipients :=
    Tbl.filter_places hsort hrec
  have harrival : some (timeWord d.arrival) = d.arrival := by
    obtain ⟨t, ht⟩ := Option.isSome_iff_exists.mp harr
    rw [ht]
    rfl
  have hclosed : (if d.state = .receiving then none else some (timeWord d.closed)) = d.closed := by
    cases ht : d.closed with
    | none =>
      rw [ht] at hcl
      exact if_pos (not_not.mp fun hne => Bool.false_ne_true (hcl.mpr hne))
    | some t =>
      rw [ht] at hcl
      exact if_neg (hcl.mp rfl)
  have hretention : (if flag d.retention.isSome = 1 then some (timeWord d.retention) else none) = d.retention := by
    cases d.retention <;> rfl
  rw [(Doc.words_shown h).restored_eq h.gen h.mailbox h.caller (.inr hchan), if_neg hst, htable, harrival, hclosed,
    hretention]

/-- A slot that is FREE is one that its record has room for. -/
theorem Doc.freed_fits {n : Nat} (hn : n < 64) : (Doc.freed n).fits :=
  { gen := hn
    mailbox := Nat.two_pow_pos 6
    channel := nofun
    pageCount := Nat.two_pow_pos 32
    firstPage := nofun
    blockTotal := Nat.two_pow_pos 32
    digits := Nat.zero_le _
    caller := Nat.zero_le _
    recipient := fun _ _ => .inl rfl }

theorem restoreDoc_words_freed {n : Nat} (hn : n < 64) : restoreDoc (Doc.freed n).words = some (Doc.freed n) := by
  have h := Doc.freed_fits hn
  exact ((Doc.words_shown h).restored_eq h.gen h.mailbox h.caller (.inl rfl)).trans (congrArg some (if_pos rfl))

/-- Each place is vacant or one of the table's. -/
theorem Doc.recipient_fits (h : ∀ x ∈ d.recipients, x.2.fits) (k : Nat) : (d.recipient k).fits := by
  have hfind (t : Tbl Recipient) (r : Recipient) (hr : Tbl.find t k = some r) : (k, r) ∈ t := by
    induction t with
    | nil => cases hr
    | cons y t ih =>
      obtain ⟨i, v⟩ := y
      rw [Tbl.find] at hr
      split_ifs at hr with hik
      · rw [← hik, ← Option.some.inj hr]
        exact List.mem_cons_self
      · exact List.mem_cons_of_mem _ (ih hr)
  unfold Doc.recipient
  cases hr : Tbl.find d.recipients k with
  | none => exact .inl rfl
  | some r => exact h _ (hfind _ r hr)

end

/-! ## The records that carry a check word (R166) -/

theorem wordSum_segments (f : Filing) {r : RecordId}
    (hr : r = .layoutHeader ∨ r = .policy ∨ (∃ m, r = .mailbox m) ∨ (∃ e, r = .route e) ∨ (∃ k, r = .document k) ∨
      (∃ p, r = .page p)) : wordSum ((f.segments r).flatMap (fun g => g.2)) = 0xFFFFFFFF#32 := by
  have hone (a : Nat) (n : Nat) (ws : List Word) :
      wordSum ([(a, sealed n ws)].flatMap (fun g : Nat × List Word => g.2)) = 0xFFFFFFFF#32 := by
    rw [List.flatMap_singleton, wordSum_sealed]
  rcases hr with rfl | rfl | ⟨m, rfl⟩ | ⟨e, rfl⟩ | ⟨k, rfl⟩ | ⟨p, rfl⟩
  · exact hone ..
  · exact hone ..
  · exact hone ..
  · rw [Filing.segments]
    cases f.route e <;> exact hone ..
  · exact hone ..
  · have hpage : (f.segments (.page p)).flatMap (fun g => g.2) = (f.page p).words := by
      simp [Filing.segments]
    rw [hpage, wordSum_page]

end Sys2Proof.Machine

open Sys2Proof Sys2Proof.Machine

/-- Settles O60: the check word of a record makes its sum, and each record's words show every field of it, from which it is
restored. -/
theorem recordsSumAndReadBack : Obligations.RecordsSumAndReadBack := by
  unfold Obligations.RecordsSumAndReadBack
  refine ⟨fun f r hr => wordSum_segments f hr, ?_, fun n hn => restoreDoc_words_freed hn, ?_, restorePage_words_freed, ?_,
    fun r h1 h16 hm => restoreRoute_words h1 h16 hm, restoreRoute_words_none⟩
  · intro d hst hgen hbox hchan harr hcl hpages hfirst hblocks hdigits hcaller hsort hrec
    obtain ⟨c, hc, hlo, hhi⟩ := hchan
    have hfits : d.fits := ⟨hgen, hbox, fun x hx => Option.some.inj (hc.symm.trans hx) ▸ ⟨hlo, hhi⟩, hpages, hfirst,
      hblocks, hdigits, hcaller, fun k _ => Doc.recipient_fits (fun x hx => .inr (hrec x hx).2) k⟩
    exact restoreDoc_words_live hfits hst (by rw [hc]; rfl) harr hcl hsort fun x hx => ⟨(hrec x hx).1, (hrec x hx).2.1⟩
  · intro g hst ho hs1 hs hc hh hland hclosed hnone hfirst hn
    have hlen : g.length ≤ 1048448 := by
      cases hstate : g.state with
      | free => exact absurd hstate hst
      | landing => rw [(hland hstate).1]; exact Nat.zero_le _
      | closed => exact (hclosed hstate).2.1
    exact (Page.words_shown ho hs hc hh hlen hnone hfirst hn).restored hst hs1 hs hc hh hland hclosed
  · intro b hq hu hg hh hd ht
    exact restoreMailbox_words hq hu hg hh hd ht

end
